-- ==== Sys2Proof/Word.lean ====
section
/-! DEFINITION. The words of the Alpendo 4024: bytes, station tags, cycle numbers and channel sets. -/

namespace Sys2Proof

/-- One byte of a host frame or of a trunk frame (12, opening text). -/
abbrev Byte := BitVec 8

/-- A 48-bit station tag (00 Parties, 12 R201). -/
abbrev Tag := BitVec 48

/-- A cycle number, 0 to 65,535, taken modulo 65,536 (00 Cycle arithmetic). -/
abbrev Cycle := BitVec 16

/-- A set of channels within 0 to 39: channel c is bit c (00 Channel sets, 12 R201). -/
abbrev ChannelSet := BitVec 40

/-- The forward distance from cycle a to cycle b, (b − a) mod 65,536 (00 Cycle arithmetic). -/
def forwardDistance (a b : Cycle) : Nat := (b - a).toNat

end Sys2Proof
end

