-- ==== Sys2Proof/Syntax.lean ====
section
/-! DEFINITION. The commands of the 4024: one constructor of `Instr` per row of spec/opcode_table.json. -/

namespace Sys2Proof

/-- A byte as HRX receives it: its value, and whether its stop bit was sampled low (R179, a damaged byte). -/
structure HostByte where
  value   : Byte
  damaged : Bool
deriving DecidableEq, Repr

/-- Who sends a request that the host and stations may both send (R40): the host under one of its tags, or a
station by the number, epoch and sequence of its REQUEST frame (R166, R167). -/
inductive Sender where
  | host (tag : Byte)
  | station (number epoch : Byte) (seq : BitVec 4)
deriving DecidableEq, Repr

/-- What the Service Watch saw of a slot by its end offset (R118, R204): no transmission whose first unit could be
read, or the first such that began in the slot's span, with the bytes received of it by the end offset, and whether the
line was still busy with it there (entry 43). -/
inductive SlotSeen where
  | nothing
  | transmission (bytes : List Byte) (busyAtEnd : Bool)
deriving DecidableEq, Repr

/-- Why a trunk transmission is discarded without trace (R165, R22, R131, R204). -/
inductive DiscardCause where
  | tooLong
  | checkFailed
  | unreadable
  | heldNominalInstant
  | brokenBurst
deriving DecidableEq, Repr

/-- The commands (95: the part's steps). A host request carries its tag and its body's bytes. -/
inductive Instr where
  /-- RESET_N rises: the levels of RATE_A and RATE_B as it does (R14, R179). -/
  | powerOnReset (rateA rateB : Bool)
  /-- The bytes of a frame arrive on HRX, the start byte first; the frame is judged where it ends (R180 to R182). -/
  | hostFrame (bytes : List HostByte)
  /-- 5 ms pass without the next byte (R181). -/
  | interByteTimeout
  /-- The last byte of the reply on HTX has been sent; the levels of the straps at that instant, which a soft reset
  that follows here samples (R183, R188, R15). -/
  | replySent (rateA rateB : Bool)
  /-- The last byte of the answer on HTX has been sent (R186). -/
  | answerSent
  /-- The sending of the report frame on HTX ends (R193). -/
  | reportFrameSent
  /-- The resend interval of the record with this sequence expires (R194). -/
  | reportResendDue (seq : Byte)
  | configure (tag : Byte) (body : List Byte)
  | readConfig (tag : Byte) (body : List Byte)
  | start (tag : Byte) (body : List Byte)
  | halt (tag : Byte) (body : List Byte)
  | reset (tag : Byte) (body : List Byte)
  | trunkReset (tag : Byte) (body : List Byte)
  | status (tag : Byte) (body : List Byte)
  | exchangeUnits (sender : Sender) (body : List Byte)
  | exchangeChannels (sender : Sender) (body : List Byte)
  | ledgerRead (sender : Sender) (body : List Byte)
  | claimList (tag : Byte) (body : List Byte)
  | discardHolding (tag : Byte) (body : List Byte)
  | admitStream (sender : Sender) (body : List Byte)
  | retire (sender : Sender) (body : List Byte)
  | resize (sender : Sender) (body : List Byte)
  | suspend (sender : Sender) (body : List Byte)
  | resume (sender : Sender) (body : List Byte)
  | withdraw (sender : Sender) (body : List Byte)
  | freeze (tag : Byte) (body : List Byte)
  | thaw (tag : Byte) (body : List Byte)
  | streamRead (sender : Sender) (body : List Byte)
  | streamList (tag : Byte) (body : List Byte)
  | planRead (tag : Byte) (body : List Byte)
  | rosterRead (tag : Byte) (body : List Byte)
  | setRights (tag : Byte) (body : List Byte)
  | evict (tag : Byte) (body : List Byte)
  | reportAck (tag : Byte) (body : List Byte)
  /-- A transmission with these bytes arrives whole at the Trunk Port (R165, R204). -/
  | requestFrame (bytes : List Byte)
  | leave (number epoch : Byte) (seq : BitVec 4) (body : List Byte)
  | reclaim (number epoch : Byte) (seq : BitVec 4) (body : List Byte)
  | join (tag : Tag) (epoch : Byte)
  | rollAnswer (tag : Tag) (epoch : Byte)
  | trunkTransmissionDiscarded (why : DiscardCause)
  /-- So many further units of the burst pattern, 8 bytes of 0xF0 each, arrive unbroken; `quiet` says that the pattern
  then ends (R131, R203). -/
  | resetBurst (units : Nat) (quiet : Bool)
  /-- A nominal instant of the grid, and whether the line is busy at it (R27). -/
  | nominalInstant (busy : Bool)
  /-- The stretch ends: quiet came so many units after the nominal instant, or (none) the line is still busy at 64 (R27). -/
  | stretchEnd (quietAt : Option Nat)
  | trunkFault
  | reclaimWindowExpiry
  /-- The end offset of the next slot of the plan, with what was seen in its span (R118). -/
  | slotObservation (seen : SlotSeen)
  | stopCountReached (id : Nat)
  /-- The open-window offset, or quiet after it, with so many units left before the next nominal instant (R21). -/
  | openWindowShare (unitsLeft : Nat)
  /-- The frame that the 4024 is sending on the trunk has been sent: one of its queue (R176), or a header or ROLL_CALL
  (entry 17). -/
  | outboundFrameSent
  | rollCallPeriod
  | rollCallEnd
  /-- A byte received on HRX, its stop bit sampled (R179, R180). -/
  | hostByteReceived (byte : HostByte)
deriving DecidableEq, Repr

end Sys2Proof
end

