-- ==== Sys2Proof/Config.lean ====
section
/-! DEFINITION. What the 4024 fixes (00 Numbers at a glance) and the two values its data book leaves open. -/

namespace Sys2Proof.Config

/-- Units in a cycle and in a roll-call period (R16, R135). -/
def cycleUnits : Nat := 2048
/-- Channels, numbered 0 to 39 (R35). -/
def channels : Nat := 40
/-- Stream records, numbered 0 to 39 (R62). -/
def streamPositions : Nat := 40
/-- Stations the roster holds (R141). -/
def rosterRoom : Nat := 24
/-- Entries of the known-tag list (R142). -/
def knownRoom : Nat := 32
/-- Holdings the ledger keeps (R38). -/
def holdingRoom : Nat := 32
/-- Edits the staging list holds (R88). -/
def editRoom : Nat := 16
/-- Frames the outbound queue holds (R164). -/
def outboundRoom : Nat := 32
/-- Parked notices of one station (R175). -/
def parkedRoom : Nat := 4
/-- The most units the 4024 sends in one share (R21, R135). -/
def shareUnits : Nat := 64
/-- The longest stretch, in units (R27). -/
def stretchLimit : Nat := 64
/-- The late run that starts a trunk reset (R29). -/
def lateLimit : Nat := 8
/-- Periods of a roll call (R135). -/
def rollPeriods : Nat := 8
/-- Units of the pattern that make a reset burst (R131). -/
def burstUnits : Nat := 16
/-- The byte whose repetition is the burst pattern; no frame type takes its value (R203). -/
def burstByte : BitVec 8 := 0xF0
/-- Bytes in a unit (R203). -/
def unitBytes : Nat := 8
/-- The fixed overlong limit (R8, R124). -/
def overlongLimit : Nat := 3
/-- Entries of the outstanding-request table (R183). -/
def tableRoom : Nat := 4
/-- Entries of the reply cache (R184). -/
def cacheRoom : Nat := 8
/-- Frames the answer list holds (R186). -/
def answerRoom : Nat := 8
/-- Records the report queue holds (R191). -/
def reportRoom : Nat := 24
/-- Report records that may be SENT at once (R193). -/
def sentRoom : Nat := 4
/-- The longest body of a host frame (R180, R200). -/
def hostBodyMax : Nat := 248
/-- The longest body of a REQUEST frame (R203). -/
def requestBodyMax : Nat := 54
/-- The longest transmission the Trunk Port takes from a station (R165). -/
def requestUnitsMax : Nat := 8
/-- The largest budget (R8). -/
def budgetMax : Nat := 1792

/-- FREE VALUE (entry 8). The byte that stands for the new state "Removed" in STREAM_CHANGED and STREAM_STATE:
R84 says that it is carried and R201 gives codes for the six stored states only. -/
opaque removedStateCode : Byte

/-- FREE VALUE (entry 9). The field number that a BAD_VALUE names, per request kind, where what failed is no field
of the layout: bytes beyond it, or a presence bit that marks no field (R201, R202 give no number there). -/
opaque unnamedField : Byte → Byte

end Sys2Proof.Config
end

