-- ==== Sys2Proof/Machine/State.lean ====
section
/-! DEFINITION. The state of the 4024, block by block as its data book owns it (00 Block diagram), and its
value after power-on reset. -/

namespace Sys2Proof.Machine

/-- R1. -/
inductive PartState where
  | quiescent | starting | running | halted
deriving DecidableEq, Repr

/-- R131. -/
inductive ResetCause where
  | start | trunkReset | stationBurst | trunkFault
deriving DecidableEq, Repr

/-- Where the cycle in progress stands (R16, R17, R27): no cycle; from the boundary to the open-window share;
from the share on (R21); from a busy nominal instant until the boundary is raised (the stretch). -/
inductive CyclePhase where
  | none | slots | window | stretch
deriving DecidableEq, Repr

/-- The timing that a header announces (R27, R203). -/
inductive Timing where
  | onTime | late | forced
deriving DecidableEq, Repr

/-- Anything that can hold resources (00 Parties). -/
inductive Party where
  | host
  | station (tag : Tag)
deriving DecidableEq, Repr

/-- A station's rights (00 Parties, R40). -/
structure Rights where
  claim  : Bool
  stream : Bool
  query  : Bool
deriving DecidableEq, Repr

/-- The configuration record (R8). -/
structure ConfigRecord where
  budget         : Nat
  reclaimWindow  : Nat
  vacancyLimit   : Nat
  commitLimit    : Nat
  remoteRequests : Bool
  defaultRights  : Rights
  reportMask     : BitVec 12
deriving DecidableEq, Repr

/-- The request kinds of Table 12-1. -/
inductive Kind where
  | configure | readConfig | start | halt | reset | trunkReset | status
  | exchangeUnits | exchangeChannels | ledgerRead | claimList | discardHolding | reclaim
  | admitStream | retire | resize | suspend | resume | withdraw | freeze | thaw
  | streamRead | streamList | planRead
  | rosterRead | setRights | evict | leave | reportAck
deriving DecidableEq, Repr

/-- The outcomes of Table 12-2. -/
inductive ResultCode where
  | done | staged | mismatch | notPermitted | badValue | badPhase | notHeld | inUse
  | overClaim | channelTaken | tableFull | listFull | pending | noSuchStream | noSuchEdit
  | noSuchStation | wrongState | notRunning | busy | duplicateTag | unknownKind | aborted
deriving DecidableEq, Repr

/-- A reply as its owner gives it: the outcome and the outcome's body. -/
structure Reply where
  code : ResultCode
  body : List Byte
deriving DecidableEq, Repr

/-! ### Streams (chapter 4) -/

/-- R64. -/
inductive SuspendCause where
  | owner | vacancy | overlong | absent
deriving DecidableEq, Repr

/-- R64. -/
inductive RetireCause where
  | stopCount | departure
deriving DecidableEq, Repr

/-- The suspension mark (R64, R123, R124). -/
inductive Mark where
  | vacancy | overlong
deriving DecidableEq, Repr

/-- The saved state of a HELD stream (R64, R79). -/
inductive SavedState where
  | live
  | waitingStart
  | suspended (cause : SuspendCause)
deriving DecidableEq, Repr

/-- The six states of R67, each with the field of R64 that is present in that state alone. -/
inductive StreamState where
  | staged
  | waitingStart
  | live (mark : Option Mark)
  | suspended (cause : SuspendCause)
  | held (saved : SavedState)
  | retiring (cause : RetireCause)
deriving DecidableEq, Repr

/-- A stream record (R63, R64). -/
structure StreamRecord where
  id            : Nat
  owner         : Party
  talker        : Tag
  channel       : Nat
  units         : Nat
  period        : Nat
  phase         : Nat
  start         : Option Cycle
  stop          : Option Nat
  state         : StreamState
  pendingResize : Option Nat
  restoreMark   : Bool
  servicesDone  : Nat
  vacantRun     : Nat
  vacantTotal   : Nat
  overlongRun   : Nat
deriving DecidableEq, Repr

/-! ### The staging list (chapter 5) -/

/-- The direction of a RESIZE (R89). -/
inductive Direction where
  | up | down | same
deriving DecidableEq, Repr

/-- The arguments of an accepted ADMIT (R89). -/
structure AdmitArgs where
  owner   : Party
  talker  : Tag
  channel : Nat
  units   : Nat
  period  : Nat
  phase   : Nat
  start   : Option Cycle
  stop    : Option Nat
deriving DecidableEq, Repr

/-- The kind of an edit, with its arguments (R89). -/
inductive EditOp where
  | admitStream (args : AdmitArgs)
  | retire
  | resize (units : Nat) (direction : Direction)
  | suspend
  | resume
deriving DecidableEq, Repr

/-- A pending edit (R89). -/
structure Edit where
  number     : BitVec 16
  submitter  : Party
  op         : EditOp
  stream     : Nat
  acceptedIn : Cycle
deriving DecidableEq, Repr

/-- The outcome of an edit (R100, R101, R106). -/
inductive EditOutcome where
  | applied | stale | lateStart | discarded
deriving DecidableEq, Repr

/-- The state the Staging List owns (chapter 5, opening text). -/
structure Staging where
  edits  : List Edit
  next   : BitVec 16
  frozen : Bool
deriving DecidableEq, Repr

/-! ### The resource ledger (chapter 3) -/

/-- The account in a claim record (R36); `bound` pairs a channel with its stream id. -/
structure Account where
  claimed   : Nat
  committed : Nat
  held      : ChannelSet
  bound     : List (Nat × Nat)
deriving DecidableEq, Repr

/-- A station's claim record (R36). -/
structure StationClaim where
  tag     : Tag
  account : Account
deriving DecidableEq, Repr

/-- An entry of a holding's held-stream list (R38). -/
structure HeldStream where
  id     : Nat
  charge : Nat
deriving DecidableEq, Repr

/-- A holding (R38). -/
structure Holding where
  tag      : Tag
  units    : Nat
  channels : ChannelSet
  streams  : List HeldStream
  epoch    : Byte
deriving DecidableEq, Repr

/-- The state the Resource Ledger owns. The host's claim record always exists and stands first (R36); the
station records follow in order of creation; the holdings stand oldest first (R38). -/
structure Ledger where
  freeUnits    : Nat
  freeChannels : ChannelSet
  host         : Account
  claims       : List StationClaim
  holdings     : List Holding
  revision     : Byte
deriving DecidableEq, Repr

/-! ### The cycle (chapters 1, 2 and 6) -/

/-- A slot entry (R19), with its start offset in full (R205). -/
structure SlotEntry where
  stream  : Nat
  channel : Nat
  talker  : Nat
  offset  : Nat
  units   : Nat
deriving DecidableEq, Repr

/-- R114. -/
inductive Observation where
  | pending | served | overlong | vacant | uncounted
deriving DecidableEq, Repr

/-- An entry of the observation list (R114). -/
structure ObsEntry where
  slot : SlotEntry
  seen : Observation
deriving DecidableEq, Repr

/-- An entry of the plan basis (R25). -/
structure BasisEntry where
  stream : Nat
  units  : Nat
  period : Nat
  phase  : Nat
deriving DecidableEq, Repr

/-- The state the Cycle Sequencer owns, beside the configuration record. -/
structure Sequencer where
  partState    : PartState
  lastCycle    : Option Cycle
  generation   : Byte
  basis        : List BasisEntry
  lateRun      : Nat
  phase        : CyclePhase
  plan         : List SlotEntry
  startWaiters : List Byte
  haltWaiters  : List Byte
deriving DecidableEq, Repr

/-- The header of a cycle (R19, R203). -/
structure Header where
  epoch        : Byte
  cycle        : Cycle
  generation   : Byte
  entries      : List SlotEntry
  windowOffset : Nat
  timing       : Timing
  stretch      : Nat
  lateRun      : Nat
deriving DecidableEq, Repr

/-! ### The trunk port (chapter 9) and the roster (chapter 7) -/

/-- R174. -/
inductive NoticeKind where
  | editOutcome | streamState | claimReleased
deriving DecidableEq, Repr

/-- A notice as a block hands it over (R174). -/
structure Notice where
  kind : NoticeKind
  body : List Byte
deriving DecidableEq, Repr

/-- A frame of the outbound queue (R164, R203). -/
inductive OutFrame where
  | reply (number : Nat) (tag : Tag) (epoch : Byte) (seq : BitVec 4) (kind : Byte) (reply : Reply)
  | assign (tag : Tag) (number : Nat) (epoch : Byte)
  | notice (number : Nat) (tag : Tag) (epoch : Byte) (dropped : Bool) (notice : Notice)
deriving DecidableEq, Repr

/-- A notice parked in the roster entry with this number (R175). -/
structure ParkedNotice where
  number : Nat
  notice : Notice
deriving DecidableEq, Repr

/-- What the 4024 is sending on the trunk (R31). -/
inductive TrunkSending where
  | header (header : Header)
  | rollCall (epoch : Byte) (period : Nat)
  | outbound (frame : OutFrame)
deriving DecidableEq, Repr

/-- The state the Trunk Port owns, beside the fields it keeps in roster entries. `parked` holds the parked notices
of all entries in the order in which they were parked (R176); a station's own are those with its number. `edge` says
that the nominal instant has just passed, so that a frame of the window it ended may still be taken (R161, entry 42). -/
structure TrunkPort where
  outbound : List OutFrame
  parked   : List ParkedNotice
  share    : Option Nat
  sending  : Option TrunkSending
  burst    : Nat
  edge     : Bool
deriving DecidableEq, Repr

/-- R141. -/
inductive DepartCause where
  | leave | evict
deriving DecidableEq, Repr

/-- R141; a DEPARTING entry keeps its cause and the number of streams that STATION_LEFT will name (R145). -/
inductive StationState where
  | present
  | departing (cause : DepartCause) (streams : Nat)
deriving DecidableEq, Repr

/-- A roster entry (R141); its parked notices stand in `TrunkPort.parked`. -/
structure Station where
  number      : Nat
  tag         : Tag
  state       : StationState
  joinedEpoch : Byte
  joinedCycle : Cycle
  lastSeq     : Option (BitVec 4)
  cachedReply : Option OutFrame
  dropped     : Bool
deriving DecidableEq, Repr

/-- A known-tag entry (R142). -/
structure Known where
  tag    : Tag
  rights : Rights
  last   : Option Nat
deriving DecidableEq, Repr

/-- The state the Roster owns. `stations` stands by ascending number (R141), `known` least recent first (R142);
`rollPeriod` is the period of the roll call in progress, 0 before its first ROLL_CALL (R135). -/
structure Roster where
  epoch      : Byte
  stations   : List Station
  known      : List Known
  rollPeriod : Nat
deriving DecidableEq, Repr

/-- The state the Reclaim Unit owns (R150). -/
structure Reclaim where
  isOpen    : Bool
  latched   : Nat
  remaining : Nat
deriving DecidableEq, Repr

/-! ### The host link (chapter 10) and the report unit (chapter 11) -/

/-- A frame on HTX, less start byte, length and check (R200). -/
structure HostFrame where
  kind : Byte
  tag  : Byte
  body : List Byte
deriving DecidableEq, Repr

/-- A request frame that has passed its check (R182). -/
structure HostRequest where
  kind  : Byte
  tag   : Byte
  body  : List Byte
  check : BitVec 16
deriving DecidableEq, Repr

/-- The receive framer (R180): in ASSEMBLING, the bytes after the start byte in order of receipt. -/
inductive Framer where
  | hunting
  | assembling (bytes : List Byte) (damaged : Bool)
deriving DecidableEq, Repr

/-- R183. -/
inductive EntryState where
  | waiting
  | answered (reply : HostFrame)
deriving DecidableEq, Repr

/-- An entry of the outstanding-request table (R183). -/
structure TableEntry where
  tag    : Byte
  kind   : Byte
  length : Nat
  check  : BitVec 16
  state  : EntryState
deriving DecidableEq, Repr

/-- An entry of the reply cache (R184). -/
structure CacheEntry where
  tag    : Byte
  kind   : Byte
  length : Nat
  check  : BitVec 16
  reply  : HostFrame
deriving DecidableEq, Repr

/-- A frame that waits for HTX in the order of formation (R185): the reply of the table entry with this tag, or
the next frame of the answer list. -/
inductive TxItem where
  | reply (tag : Byte)
  | answer
deriving DecidableEq, Repr

/-- The frame on HTX, by its source (R185). -/
inductive HtxSending where
  | reply (tag : Byte) (frame : HostFrame)
  | answer (frame : HostFrame)
  | report (seq : Byte) (frame : HostFrame)
deriving DecidableEq, Repr

/-- The state the Host Link owns. `resetting` is the tag of a RESET whose soft reset has not yet followed (R7, R188). -/
structure HostLink where
  rate      : Nat
  framer    : Framer
  table     : List TableEntry
  cache     : List CacheEntry
  answers   : List HostFrame
  overrun   : Nat
  order     : List TxItem
  sending   : Option HtxSending
  resetting : Option Byte
deriving DecidableEq, Repr

/-- The report kinds of Table 12-3. -/
inductive ReportKind where
  | planCommitted | streamChanged | stationJoined | stationLeft | trunkReset | rollCallDone
  | reclaimed | reclaimClosed | holdingReleased | editsDiscarded | cycleLate | overflow
deriving DecidableEq, Repr

/-- Resend due of a SENT record (R191, R193, R194): not set while a sending is under way, running, or passed. -/
inductive ResendDue where
  | unset | running | due
deriving DecidableEq, Repr

/-- R191. -/
inductive RecordState where
  | waiting
  | sent (resend : ResendDue)
deriving DecidableEq, Repr

/-- A report record (R191). -/
structure ReportRecord where
  seq   : Byte
  kind  : ReportKind
  cycle : Cycle
  epoch : Byte
  body  : List Byte
  state : RecordState
deriving DecidableEq, Repr

/-- The state the Report Unit owns (chapter 11, opening text). -/
structure Reports where
  queue  : List ReportRecord
  next   : Byte
  marker : Bool
  lost   : Nat
  mask   : BitVec 12
deriving DecidableEq, Repr

/-! ### The whole part -/

/-- The state of the 4024 by block, and the commands that wait, first in first out. -/
structure State where
  csq     : Sequencer
  cfg     : ConfigRecord
  lgr     : Ledger
  streams : List StreamRecord
  stg     : Staging
  svw     : List ObsEntry
  rst     : Roster
  rcu     : Reclaim
  tpt     : TrunkPort
  hlk     : HostLink
  rpu     : Reports
  pending : List Instr
deriving DecidableEq, Repr

/-- The faults. -/
inductive Fault where
  /-- Raised by a command that is not `wellFormed`: its operands lie outside what any frame, transmission or
  instant can be. Safe: no hardware step corresponds to it (entry 25). -/
  | operandOutOfRange
deriving DecidableEq, Repr

/-- The refusals. -/
inductive Refusal where
  /-- Raised by `exec` alone, for a row of the table that has no meaning yet; none is left. Safe. -/
  | notModelled (mnemonic : String)
deriving DecidableEq, Repr

/-! ### Values after power-on reset -/

/-- R8: the defaults. -/
def ConfigRecord.defaults : ConfigRecord where
  budget := 1536
  reclaimWindow := 512
  vacancyLimit := 16
  commitLimit := 4
  remoteRequests := true
  defaultRights := ⟨true, true, true⟩
  reportMask := BitVec.allOnes 12

/-- R14, R26, R32. -/
def Sequencer.atReset : Sequencer where
  partState := .quiescent
  lastCycle := none
  generation := 0
  basis := []
  lateRun := 0
  phase := .none
  plan := []
  startWaiters := []
  haltWaiters := []

/-- R60, for the budget then in the configuration record. -/
def Ledger.atReset (budget : Nat) : Ledger where
  freeUnits := budget
  freeChannels := BitVec.allOnes 40
  host := ⟨0, 0, 0, []⟩
  claims := []
  holdings := []
  revision := 0

/-- R112. -/
def Staging.atReset : Staging where
  edits := []
  next := 1
  frozen := false

/-- R149. -/
def Roster.atReset : Roster where
  epoch := 0
  stations := []
  known := []
  rollPeriod := 0

/-- R163, for the reclaim_window then in the configuration record. -/
def Reclaim.atReset (window : Nat) : Reclaim where
  isOpen := false
  latched := window
  remaining := 0

/-- R178, R14. -/
def TrunkPort.atReset : TrunkPort where
  outbound := []
  parked := []
  share := none
  sending := none
  burst := 0
  edge := false

/-- R190, for the rate sampled from the straps. -/
def HostLink.atReset (rate : Nat) : HostLink where
  rate := rate
  framer := .hunting
  table := []
  cache := []
  answers := []
  overrun := 0
  order := []
  sending := none
  resetting := none

/-- R198, for the report_mask then in the configuration record. -/
def Reports.atReset (mask : BitVec 12) : Reports where
  queue := []
  next := 0
  marker := false
  lost := 0
  mask := mask

/-- The values that both a power-on reset and a soft reset give, for the configuration record and line rate they
leave and the commands that wait (R14, R15, R60, R87, R112, R129, R149, R163, R178, R190, R198). -/
def State.atReset (cfg : ConfigRecord) (rate : Nat) (pending : List Instr) : State where
  csq := .atReset
  cfg := cfg
  lgr := .atReset cfg.budget
  streams := []
  stg := .atReset
  svw := []
  rst := .atReset
  rcu := .atReset cfg.reclaimWindow
  tpt := .atReset
  hlk := .atReset rate
  rpu := .atReset cfg.reportMask
  pending := pending

/-- The 4024 right after power-on reset (R14), with both straps low (DESIGN CHOICE, entry 7) and no command waiting. -/
def State.reset : State := .atReset .defaults 115200 []

end Sys2Proof.Machine
end

