-- ==== Sys2Proof/Machine/Operands.lean ====
section
/-! DEFINITION. The byte formats of chapter 12: the frame check, field encodings, codes, bodies and frames, and
the decoding of request bodies and of received transmissions. -/

namespace Sys2Proof.Machine

/-! ### The frame check (R199) -/

/-- One shift of the check register over x¹⁶ + x¹² + x⁵ + 1 (R199). -/
def crcShift (c : BitVec 16) : BitVec 16 :=
  if c.msb then (c <<< 1) ^^^ 0x1021#16 else c <<< 1

/-- Feeds one byte, most significant bit first (R199). -/
def crcByte (c : BitVec 16) (b : Byte) : BitVec 16 :=
  crcShift (crcShift (crcShift (crcShift (crcShift (crcShift (crcShift (crcShift
    (c ^^^ (b.zeroExtend 16 <<< 8)))))))))

/-- The frame check of a byte sequence (R199). -/
def frameCheck (bytes : List Byte) : BitVec 16 := bytes.foldl crcByte 0xFFFF#16

/-! ### Fields (R201) -/

/-- A one-byte number. -/
def byteOf (n : Nat) : Byte := BitVec.ofNat 8 n

/-- A two-byte number, most significant byte first. -/
def be16 (n : Nat) : List Byte := [byteOf (n / 256), byteOf n]

/-- The value of two bytes. -/
def word16 (hi lo : Byte) : Nat := hi.toNat * 256 + lo.toNat

/-- The frame check as it is sent, high byte first (R199). -/
def checkBytes (c : BitVec 16) : List Byte := be16 c.toNat

/-- A flag. -/
def flag (b : Bool) : Byte := if b then 1 else 0

/-- A station tag, most significant byte first. -/
def tagBytes (t : Tag) : List Byte :=
  [t.extractLsb' 40 8, t.extractLsb' 32 8, t.extractLsb' 24 8, t.extractLsb' 16 8, t.extractLsb' 8 8, t.extractLsb' 0 8]

/-- The tag of six bytes. -/
def tagOf (a b c d e f : Byte) : Tag := a ++ b ++ c ++ d ++ e ++ f

/-- A party: its kind, then six tag bytes, all 0 for the host. -/
def partyBytes : Party → List Byte
  | .host => [0, 0, 0, 0, 0, 0, 0]
  | .station t => 1 :: tagBytes t

/-- Rights: bit 0 CLAIM, bit 1 STREAM, bit 2 QUERY. -/
def Rights.byte (r : Rights) : Byte :=
  byteOf ((if r.claim then 1 else 0) + (if r.stream then 2 else 0) + (if r.query then 4 else 0))

/-- The rights of a byte; none when one of bits 3 to 7 is set (R202). -/
def Rights.ofByte (b : Byte) : Option Rights :=
  if b.toNat < 8 then some ⟨b.getLsbD 0, b.getLsbD 1, b.getLsbD 2⟩ else none

/-- A channel set in form 0: channel 8k + j is bit j of byte k. -/
def setBytes (s : ChannelSet) : List Byte :=
  [0, s.extractLsb' 0 8, s.extractLsb' 8 8, s.extractLsb' 16 8, s.extractLsb' 24 8, s.extractLsb' 32 8]

/-- The set of one channel. -/
def channelBit (c : Nat) : ChannelSet := 1#40 <<< c

/-- Membership in a channel set. -/
def hasChannel (s : ChannelSet) (c : Nat) : Bool := s.getLsbD c

/-- The number of channels in a set. -/
def channelCount (s : ChannelSet) : Nat := ((List.range Config.channels).filter (hasChannel s)).length

/-- A presence byte: bit k set when the k-th absentable part is present (R201). -/
def presence (parts : List Bool) : Byte :=
  byteOf (parts.foldr (fun p n => (if p then 1 else 0) + 2 * n) 0)

/-- A list of entries: a count byte, then the entries (R201). -/
def countedList {α : Type} (encode : α → List Byte) (l : List α) : List Byte :=
  byteOf l.length :: (l.map encode).flatten

/-- An optional 16-bit field's bytes, 0 when absent (R201). -/
def optional16 : Option Nat → List Byte
  | some n => be16 n
  | none => [0, 0]

/-! ### Codes -/

/-- Table 12-1. -/
def Kind.code : Kind → Byte
  | .configure => 0x01 | .readConfig => 0x02 | .start => 0x03 | .halt => 0x04 | .reset => 0x05
  | .trunkReset => 0x06 | .status => 0x07
  | .exchangeUnits => 0x10 | .exchangeChannels => 0x11 | .ledgerRead => 0x12 | .claimList => 0x13
  | .discardHolding => 0x14 | .reclaim => 0x18
  | .admitStream => 0x20 | .retire => 0x21 | .resize => 0x22 | .suspend => 0x23 | .resume => 0x24
  | .withdraw => 0x25 | .freeze => 0x26 | .thaw => 0x27
  | .streamRead => 0x28 | .streamList => 0x29 | .planRead => 0x2A
  | .rosterRead => 0x30 | .setRights => 0x31 | .evict => 0x32 | .leave => 0x34 | .reportAck => 0x38

/-- Every kind of Table 12-1 that a request frame can name. -/
def Kind.all : List Kind :=
  [.configure, .readConfig, .start, .halt, .reset, .trunkReset, .status, .exchangeUnits, .exchangeChannels,
   .ledgerRead, .claimList, .discardHolding, .reclaim, .admitStream, .retire, .resize, .suspend, .resume, .withdraw,
   .freeze, .thaw, .streamRead, .streamList, .planRead, .rosterRead, .setRights, .evict, .leave, .reportAck]

/-- The kind that a code names, if any (Table 12-1). -/
def Kind.ofCode (b : Byte) : Option Kind := Kind.all.find? (fun k => k.code == b)

/-- The kind byte of a report frame (Table 12-1). -/
def reportFrameKind : Byte := 0x40
/-- The kind byte of a LINK_ERROR frame (Table 12-1). -/
def linkErrorKind : Byte := 0x41
/-- The start byte (R200). -/
def startByte : Byte := 0xA5

/-- Table 12-2. -/
def ResultCode.code : ResultCode → Byte
  | .done => 0x00 | .staged => 0x01 | .mismatch => 0x02 | .notPermitted => 0x03 | .badValue => 0x04
  | .badPhase => 0x05 | .notHeld => 0x06 | .inUse => 0x07 | .overClaim => 0x08 | .channelTaken => 0x09
  | .tableFull => 0x0A | .listFull => 0x0B | .pending => 0x0C | .noSuchStream => 0x0D | .noSuchEdit => 0x0E
  | .noSuchStation => 0x10 | .wrongState => 0x11 | .notRunning => 0x12 | .busy => 0x13
  | .duplicateTag => 0x14 | .unknownKind => 0x15 | .aborted => 0x16

/-- Edit outcomes (12, below Table 12-2). -/
def EditOutcome.code : EditOutcome → Byte
  | .applied => 0 | .stale => 1 | .lateStart => 2 | .discarded => 3

/-- Table 12-3. -/
def ReportKind.code : ReportKind → Nat
  | .planCommitted => 1 | .streamChanged => 2 | .stationJoined => 3 | .stationLeft => 4 | .trunkReset => 5
  | .rollCallDone => 6 | .reclaimed => 7 | .reclaimClosed => 8 | .holdingReleased => 9 | .editsDiscarded => 10
  | .cycleLate => 11 | .overflow => 12

/-- R1's order. -/
def PartState.code : PartState → Byte
  | .quiescent => 0 | .starting => 1 | .running => 2 | .halted => 3

/-- R131's order. -/
def ResetCause.code : ResetCause → Byte
  | .start => 0 | .trunkReset => 1 | .stationBurst => 2 | .trunkFault => 3

/-- R201's table. -/
def SuspendCause.code : SuspendCause → Byte
  | .owner => 0 | .vacancy => 1 | .overlong => 2 | .absent => 3

/-- 12, STREAM_READ layout. -/
def RetireCause.code : RetireCause → Byte
  | .stopCount => 0 | .departure => 1

/-- 12, STREAM_READ layout. -/
def Mark.code : Mark → Byte
  | .vacancy => 0 | .overlong => 1

/-- R201's table of states. -/
def StreamState.code : StreamState → Byte
  | .staged => 0 | .waitingStart => 1 | .live _ => 2 | .suspended _ => 3 | .held _ => 4 | .retiring _ => 5

/-- The state a saved state names, coded as a state (R64, R201). -/
def SavedState.code : SavedState → Byte
  | .waitingStart => 1 | .live => 2 | .suspended _ => 3

/-- The cause within a saved state. -/
def SavedState.cause? : SavedState → Option SuspendCause
  | .suspended c => some c
  | _ => none

/-- R114's order. -/
def Observation.code : Observation → Byte
  | .pending => 0 | .served => 1 | .overlong => 2 | .vacant => 3 | .uncounted => 4

/-- R141's order. -/
def DepartCause.code : DepartCause → Byte
  | .leave => 0 | .evict => 1

/-- LATE and FORCED as in the header (12, header). -/
def Timing.code : Timing → Byte
  | .onTime => 0 | .late => 1 | .forced => 2

/-- 12, NOTICE frame. -/
def NoticeKind.code : NoticeKind → Byte
  | .editOutcome => 1 | .streamState => 2 | .claimReleased => 3

/-- The request kind that an edit's kind is (R201). -/
def EditOp.kind : EditOp → Kind
  | .admitStream _ => .admitStream | .retire => .retire | .resize _ _ => .resize | .suspend => .suspend | .resume => .resume

/-! ### State fields in bodies -/

/-- The suspend cause of a state that has one (R64). -/
def StreamState.cause? : StreamState → Option SuspendCause
  | .suspended c => some c
  | _ => none

/-- The saved state, in HELD (R64). -/
def StreamState.saved? : StreamState → Option SavedState
  | .held v => some v
  | _ => none

/-- The retire cause, in RETIRING (R64). -/
def StreamState.retire? : StreamState → Option RetireCause
  | .retiring c => some c
  | _ => none

/-- The suspension mark, in LIVE (R64). -/
def StreamState.mark? : StreamState → Option Mark
  | .live m => m
  | _ => none

/-- An optional code, 0 when absent (R201). -/
def optionalCode {α : Type} (code : α → Byte) : Option α → Byte
  | some a => code a
  | none => 0

/-- A state with its suspend cause: the state, a presence byte for the cause, the cause (R97, R84, entry 10). -/
def stateWithCause (st : StreamState) : List Byte :=
  [st.code, presence [st.cause?.isSome], optionalCode SuspendCause.code st.cause?]

/-- The 39 bytes of a STREAM_READ reply (12, STREAM_READ layout). -/
def StreamRecord.readBody (r : StreamRecord) : List Byte :=
  [byteOf r.id, r.state.code,
    presence [r.start.isSome, r.stop.isSome, r.state.cause?.isSome, r.state.saved?.isSome, r.state.retire?.isSome,
      r.pendingResize.isSome, r.state.mark?.isSome]]
  ++ partyBytes r.owner ++ tagBytes r.talker ++ [byteOf r.channel] ++ be16 r.units
  ++ [byteOf r.period, byteOf r.phase] ++ optional16 (r.start.map BitVec.toNat) ++ optional16 r.stop
  ++ [optionalCode SuspendCause.code r.state.cause?, optionalCode SavedState.code r.state.saved?,
      optionalCode SuspendCause.code (r.state.saved?.bind SavedState.cause?),
      optionalCode RetireCause.code r.state.retire?]
  ++ optional16 r.pendingResize ++ [optionalCode Mark.code r.state.mark?, flag r.restoreMark]
  ++ be16 r.servicesDone ++ [byteOf r.vacantRun] ++ be16 r.vacantTotal ++ [byteOf r.overlongRun]

/-- A claim-record entry (12, R201): party, claimed, committed, held channels, bound pairs. -/
def claimEntry (p : Party) (a : Account) : List Byte :=
  partyBytes p ++ be16 a.claimed ++ be16 a.committed ++ setBytes a.held
  ++ countedList (fun b => [byteOf b.1, byteOf b.2]) a.bound

/-- The configuration record as all seven pairs in identifier order (12, CONFIGURE). -/
def ConfigRecord.pairs (c : ConfigRecord) : List Byte :=
  1 :: be16 c.budget ++ 2 :: be16 c.reclaimWindow ++ [3, byteOf c.vacancyLimit, 4, byteOf c.commitLimit,
    5, flag c.remoteRequests, 6, c.defaultRights.byte] ++ 7 :: be16 c.reportMask.toNat

/-- An edit as PLAN_COMMITTED and EDITS_DISCARDED list it, less its outcome: number, kind, stream id, submitter,
acceptance cycle (R102, R109). -/
def Edit.entry (e : Edit) : List Byte :=
  be16 e.number.toNat ++ [e.op.kind.code, byteOf e.stream] ++ partyBytes e.submitter ++ be16 e.acceptedIn.toNat

/-! ### Host frames (R200) -/

/-- The check of a host frame: over length, kind, tag and body (R199). -/
def hostCheck (kind tag : Byte) (body : List Byte) : BitVec 16 :=
  frameCheck (byteOf (body.length + 2) :: kind :: tag :: body)

/-- A host frame as it stands on the line (R200). -/
def HostFrame.bytes (f : HostFrame) : List Byte :=
  startByte :: byteOf (f.body.length + 2) :: f.kind :: f.tag :: f.body ++ checkBytes (hostCheck f.kind f.tag f.body)

/-- The reply frame to a request with this kind and tag (R200). -/
def replyFrame (kind tag : Byte) (r : Reply) : HostFrame := ⟨kind, tag, r.code.code :: r.body⟩

/-- The causes of a LINK_ERROR (12, host frames). -/
def linkErrorTruncated : Byte := 1
def linkErrorTooLong : Byte := 2
def linkErrorBadCheck : Byte := 3
def linkErrorOverrun : Byte := 4

/-- A LINK_ERROR frame: cause, presence byte, kind and tag as received, overrun count (12, host frames). -/
def linkError (cause : Byte) (kind tag : Option Byte) (count : Nat) : HostFrame :=
  ⟨linkErrorKind, 0, [cause, presence [kind.isSome, tag.isSome], kind.getD 0, tag.getD 0, byteOf count]⟩

/-- A report frame (12, host frames). -/
def ReportRecord.frame (r : ReportRecord) : HostFrame :=
  ⟨reportFrameKind, 0,
    [r.seq, byteOf r.kind.code] ++ be16 r.cycle.toNat ++ [r.epoch] ++ r.body⟩

/-- The request frame that a host sends for a kind, tag and body (R200). -/
def HostRequest.of (kind tag : Byte) (body : List Byte) : HostRequest :=
  ⟨kind, tag, body, hostCheck kind tag body⟩

/-- The length that a request frame carries: kind, tag and body (R180). -/
def HostRequest.length (q : HostRequest) : Nat := q.body.length + 2

/-! ### Trunk frames (R203) -/

/-- The units that a frame of so many bytes takes (R203: whole units of 8 bytes), not fewer than `least`. -/
def unitsFor (bytes least : Nat) : Nat := max least ((bytes + 7) / 8)

/-- The length of an outbound frame in units (12, table of trunk frames). -/
def OutFrame.units : OutFrame → Nat
  | .reply _ _ _ _ _ r => unitsFor (15 + r.body.length + 2) 3
  | .assign _ _ _ => 2
  | .notice _ _ _ _ n => unitsFor (14 + n.body.length + 2) 2

/-- The common head of a trunk frame (R203). -/
def trunkHead (type station byte2 : Byte) (units : Nat) : List Byte := type :: station :: byte2 :: be16 units

/-- Pads a frame's fields with zero bytes to its length and adds its check (R203). -/
def sealFrame (fields : List Byte) (units : Nat) : List Byte :=
  let body := fields ++ List.replicate (units * 8 - 2 - fields.length) 0
  body ++ checkBytes (frameCheck body)

/-- An outbound frame's bytes (12, table of trunk frames). Byte 1 of NUMBER_ASSIGN is the number that it assigns, so 0
where it assigns none (entry 41). -/
def OutFrame.bytes (f : OutFrame) : List Byte :=
  match f with
  | .reply number tag epoch seq kind r =>
    sealFrame (trunkHead 0x81 (byteOf number) epoch f.units
      ++ [byteOf seq.toNat, kind, r.code.code] ++ tagBytes tag ++ [byteOf r.body.length] ++ r.body) f.units
  | .assign tag number epoch =>
    sealFrame (trunkHead 0x83 (byteOf number) epoch f.units ++ [byteOf number, 0, 0] ++ tagBytes tag) f.units
  | .notice number tag epoch dropped n =>
    sealFrame (trunkHead 0x82 (byteOf number) epoch f.units
      ++ [n.kind.code, flag dropped, byteOf n.body.length] ++ tagBytes tag ++ n.body) f.units

/-- A slot entry's 32 bits, most significant first (12, header). -/
def SlotEntry.word (e : SlotEntry) : BitVec 32 :=
  BitVec.ofNat 6 e.stream ++ BitVec.ofNat 6 e.channel ++ BitVec.ofNat 5 e.talker ++ BitVec.ofNat 9 (e.units - 1)
    ++ BitVec.ofNat 6 e.offset

/-- A slot entry's four bytes. -/
def SlotEntry.bytes (e : SlotEntry) : List Byte :=
  [e.word.extractLsb' 24 8, e.word.extractLsb' 16 8, e.word.extractLsb' 8 8, e.word.extractLsb' 0 8]

/-- The header size for s slots, h = 2 + ⌈s / 2⌉ (R18). -/
def headerUnits (slots : Nat) : Nat := 2 + (slots + 1) / 2

/-- A header's bytes; its check stands at bytes 14 and 15, over bytes 0 to 13 and every entry unit (R203, 12 header). -/
def Header.bytes (h : Header) : List Byte :=
  let front := trunkHead 0x5A 0 h.epoch (headerUnits h.entries.length)
    ++ be16 h.cycle.toNat ++ [h.generation, byteOf h.entries.length] ++ be16 h.windowOffset
    ++ [h.timing.code, byteOf h.stretch, byteOf h.lateRun]
  let entries := (h.entries.map SlotEntry.bytes).flatten
    ++ (if h.entries.length % 2 = 1 then [0xFF, 0xFF, 0xFF, 0xFF] else [])
  front ++ checkBytes (frameCheck (front ++ entries)) ++ entries

/-- The bytes of whatever the 4024 is sending on the trunk (R203). -/
def TrunkSending.bytes : TrunkSending → List Byte
  | .header h => h.bytes
  | .rollCall epoch period => sealFrame (trunkHead 0x3C 0 epoch 1 ++ [byteOf period]) 1
  | .outbound f => f.bytes

/-- What the Trunk Port takes from the line (R165, R204). -/
inductive Received where
  | request (number epoch : Byte) (seq : BitVec 4) (kind : Byte) (body : List Byte)
  | join (tag : Tag) (epoch : Byte)
  | rollAnswer (tag : Tag) (epoch : Byte)
  | other
deriving DecidableEq, Repr

/-- The type of a SLOT frame (R203). -/
def slotFrameType : Byte := 0x66

/-- The lengths in units that a frame type may have (12, table of trunk frames); none for a byte that is no type. -/
def frameLengths (type : Byte) : Option (Nat × Nat) :=
  if type = 0x5A then some (2, 22)
  else if type = 0x3C then some (1, 1)
  else if type = 0x73 then some (2, 2)
  else if type = 0x72 then some (2, 2)
  else if type = 0x71 then some (2, 8)
  else if type = 0x81 then some (3, 24)
  else if type = 0x82 then some (2, 8)
  else if type = 0x83 then some (2, 2)
  else if type = slotFrameType then some (1, 512)
  else none

/-- The last two bytes are the check over every byte ahead of them (R199, R203). -/
def checkHolds (bytes : List Byte) : Bool :=
  bytes.drop (bytes.length - 2) == checkBytes (frameCheck (bytes.take (bytes.length - 2)))

/-- A frame received whole (R204): its type is one of R203's, bytes 3 and 4 give a length of that type's, it runs for
exactly that many units, and its check matches. -/
def isWholeFrame (bytes : List Byte) : Bool :=
  match bytes with
  | type :: _ :: _ :: lhi :: llo :: _ =>
    match frameLengths type with
    | none => false
    | some (least, most) =>
      let units := word16 lhi llo
      least ≤ units && units ≤ most && bytes.length == units * Config.unitBytes && checkHolds bytes
  | _ => false

/-- The decoded opening of a slot frame: its first unit received whole with the type of a SLOT frame. It carries the
sender's number at byte 1 and the channel at byte 2 (R203, R204). -/
def slotOpening (bytes : List Byte) : Option (Byte × Byte) :=
  match bytes with
  | type :: sender :: channel :: _ :: _ :: _ :: _ :: _ :: _ =>
    if type = slotFrameType then some (sender, channel) else none
  | _ => none

/-- The whole units of the burst pattern at the head of a transmission (R131, R203). -/
def burstUnitsIn (bytes : List Byte) : Nat :=
  (bytes.takeWhile (fun b => b == Config.burstByte)).length / Config.unitBytes

/-- The frame in a transmission, or none when it is undecodable or its check fails (R204). A HEADER, which carries
its check elsewhere, is never taken from a station and counts as any other frame that is ignored (R165). -/
def receive (bytes : List Byte) : Option Received :=
  match bytes with
  | type :: station :: epoch :: _ :: _ :: b5 :: b6 :: b7 :: rest =>
    if !isWholeFrame bytes then none
    else if type = 0x71 then
      if bytes.length - 10 < b7.toNat then none
      else some (.request station epoch (b5.setWidth 4) b6 (rest.take b7.toNat))
    else
      match rest with
      | t0 :: t1 :: t2 :: t3 :: t4 :: t5 :: _ =>
        if type = 0x72 then some (.join (tagOf t0 t1 t2 t3 t4 t5) epoch)
        else if type = 0x73 then some (.rollAnswer (tagOf t0 t1 t2 t3 t4 t5) epoch)
        else some .other
      | _ => some .other
  | _ => none

/-! ### Decoding request bodies (R202)

A decoder answers the arguments, or the field number that the BAD_VALUE body names. -/

/-- The first field, counted from `at`, that a body of `n` bytes does not hold whole; none when it holds all. -/
def shortField : List Nat → Nat → Nat → Option Nat
  | [], _, _ => none
  | size :: sizes, n, pos => if n < size then some pos else shortField sizes (n - size) (pos + 1)

/-- What a body of the wrong length is answered with: the first field it does not hold whole, or, when it is longer
than the layout, the field number the spec leaves open (R202, entry 9). -/
def lengthField (kind : Kind) (sizes : List Nat) (body : List Byte) : Byte :=
  match shortField sizes body.length 1 with
  | some pos => byteOf pos
  | none => Config.unnamedField kind.code

/-- A request that carries no arguments. -/
def decodeNone (kind : Kind) : List Byte → Except Byte Unit
  | [] => .ok ()
  | body => .error (lengthField kind [] body)

/-- One byte. -/
def decodeByte (kind : Kind) : List Byte → Except Byte Byte
  | [a] => .ok a
  | body => .error (lengthField kind [1] body)

/-- Two bytes of one field each. -/
def decodeByteByte (kind : Kind) : List Byte → Except Byte (Byte × Byte)
  | [a, b] => .ok (a, b)
  | body => .error (lengthField kind [1, 1] body)

/-- One two-byte number. -/
def decodeWord (kind : Kind) : List Byte → Except Byte Nat
  | [a, b] => .ok (word16 a b)
  | body => .error (lengthField kind [2] body)

/-- Two two-byte numbers. -/
def decodeWordWord (kind : Kind) : List Byte → Except Byte (Nat × Nat)
  | [a, b, c, d] => .ok (word16 a b, word16 c d)
  | body => .error (lengthField kind [2, 2] body)

/-- A stream id and a two-byte number. -/
def decodeByteWord (kind : Kind) : List Byte → Except Byte (Byte × Nat)
  | [a, b, c] => .ok (a, word16 b c)
  | body => .error (lengthField kind [1, 2] body)

/-- A station tag. -/
def decodeTag (kind : Kind) : List Byte → Except Byte Tag
  | [a, b, c, d, e, f] => .ok (tagOf a b c d e f)
  | body => .error (lengthField kind [6] body)

/-- A station tag and one byte of a second field, which `take` reads (R202: a value that the layout cannot take
names its field). -/
def decodeTagWith {α : Type} (kind : Kind) (take : Byte → Option α) : List Byte → Except Byte (Tag × α)
  | a :: b :: c :: d :: e :: f :: g :: rest =>
    match take g, rest with
    | none, _ => .error 2
    | some v, [] => .ok (tagOf a b c d e f, v)
    | some _, _ => .error (Config.unnamedField kind.code)
  | body => .error (lengthField kind [6, 1] body)

/-- A flag byte: 0 or 1 (R201). -/
def flagOf (b : Byte) : Option Bool := if b = 0 then some false else if b = 1 then some true else none

/-- SET_RIGHTS(tag, rights). -/
def decodeSetRights : List Byte → Except Byte (Tag × Rights) := decodeTagWith .setRights Rights.ofByte

/-- EVICT(tag, bar). -/
def decodeEvict : List Byte → Except Byte (Tag × Bool) := decodeTagWith .evict flagOf

/-- ROSTER_READ(list, first index): whether the list is KNOWN, and the index (R148). -/
def decodeRosterRead : List Byte → Except Byte (Bool × Nat)
  | [] => .error 1
  | l :: rest =>
    match flagOf l, rest with
    | none, _ => .error 1
    | some known, [i] => .ok (known, i.toNat)
    | some _, [] => .error 2
    | some _, _ => .error (Config.unnamedField Kind.rosterRead.code)

/-- The channel numbers 0 to 255 that a list of bytes names, as a set; those above 39 lie outside the trunk's. -/
def namedSet (l : List Byte) : BitVec 256 := l.foldl (fun s b => s ||| 1#256 <<< b.toNat) 0

/-- Reads one channel set off a body (R201, R202): form 0 with 5 bytes, or form 1 with a count of 0 to 40 and one
byte per channel. The answer keeps numbers above 39, which fail at the range step (R45), not here. -/
def takeSet : List Byte → Option (BitVec 256 × List Byte)
  | form :: rest =>
    if form = 0 then
      match rest with
      | a :: b :: c :: d :: e :: more => some ((e ++ d ++ c ++ b ++ a : ChannelSet).setWidth 256, more)
      | _ => none
    else if form = 1 then
      match rest with
      | count :: more =>
        if count.toNat ≤ 40 ∧ count.toNat ≤ more.length then
          some (namedSet (more.take count.toNat), more.drop count.toNat)
        else none
      | [] => none
    else none
  | [] => none

/-- EXCHANGE_CHANNELS(expected set, proposed set) (R45). -/
def decodeSets (body : List Byte) : Except Byte (BitVec 256 × BitVec 256) :=
  match takeSet body with
  | none => .error 1
  | some (expected, rest) =>
    match takeSet rest with
    | none => .error 2
    | some (proposed, []) => .ok (expected, proposed)
    | some _ => .error (Config.unnamedField Kind.exchangeChannels.code)

/-- Every channel named lies in 0 to 39 (R45). -/
def setInRange (s : BitVec 256) : Bool := s >>> 40 == 0

/-- The arguments of an ADMIT as they arrive (R89, R92). -/
structure AdmitRequest where
  owner   : Option Party
  talker  : Option Tag
  channel : Nat
  units   : Nat
  period  : Nat
  phase   : Nat
  start   : Option Cycle
  stop    : Option Nat
deriving DecidableEq, Repr

/-- A party of seven bytes: the host with tag bytes all 0, or a station (R201, entry 16). -/
def partyOf (kind : Byte) (tag : Tag) : Option Party :=
  if kind = 0 then (if tag = 0 then some .host else none)
  else if kind = 1 then some (.station tag)
  else none

/-- ADMIT's 23 bytes: a presence byte for owner, talker, start cycle and stop count, then the fields of R89 in order
(R201, entry 10). An absent part's bytes are not looked at (entry 16). -/
def decodeAdmit : List Byte → Except Byte AdmitRequest
  | p :: k :: a :: b :: c :: d :: e :: f :: rest =>
    if 16 ≤ p.toNat then .error (Config.unnamedField Kind.admitStream.code)
    else
      match (if p.getLsbD 0 then (partyOf k (tagOf a b c d e f)).map some else some none) with
      | none => .error 1
      | some owner =>
        match rest with
        | [t0, t1, t2, t3, t4, t5, ch, u1, u0, per, ph, s1, s0, n1, n0] =>
          .ok { owner := owner
                talker := if p.getLsbD 1 then some (tagOf t0 t1 t2 t3 t4 t5) else none
                channel := ch.toNat
                units := word16 u1 u0
                period := per.toNat
                phase := ph.toNat
                start := if p.getLsbD 2 then some (s1 ++ s0) else none
                stop := if p.getLsbD 3 then some (word16 n1 n0) else none }
        | _ =>
          match shortField [6, 1, 2, 1, 1, 2, 2] rest.length 2 with
          | some pos => .error (byteOf pos)
          | none => .error (Config.unnamedField Kind.admitStream.code)
  | _ => .error 1

/-- A field of a CONFIGURE request: its identifier and its value (12, CONFIGURE). -/
structure ConfigField where
  field : Nat
  value : Nat
deriving DecidableEq, Repr

/-- How the reading of a CONFIGURE body ended: at its end, at an identifier that names no field (R9, step 1), or at
a field that fails decoding (R202). -/
inductive ConfigEnd where
  | complete
  | unknown (id : Byte)
  | undecodable (id : Byte)
deriving DecidableEq, Repr

/-- Whether a field's value is one that its layout can take (R202): a flag of 0 or 1, rights within bits 0 to 2. -/
def configValueDecodes (field value : Nat) : Bool :=
  if field = 5 then value ≤ 1 else if field = 6 then value ≤ 7 else true

/-- Adds a field in front of what the rest of the body gives. -/
def ConfigField.before (f : ConfigField) : List ConfigField × ConfigEnd → List ConfigField × ConfigEnd
  | (fields, how) => (f :: fields, how)

/-- Reads the pairs of a CONFIGURE body in order (12, CONFIGURE). -/
def configPairs : List Byte → List ConfigField × ConfigEnd
  | [] => ([], .complete)
  | id :: rest =>
    if id = 1 ∨ id = 2 ∨ id = 7 then
      match rest with
      | hi :: lo :: more => ConfigField.before ⟨id.toNat, word16 hi lo⟩ (configPairs more)
      | _ => ([], .undecodable id)
    else if id = 3 ∨ id = 4 ∨ id = 5 ∨ id = 6 then
      match rest with
      | v :: more =>
        if configValueDecodes id.toNat v.toNat then ConfigField.before ⟨id.toNat, v.toNat⟩ (configPairs more)
        else ([], .undecodable id)
      | [] => ([], .undecodable id)
    else ([], .unknown id)

end Sys2Proof.Machine
end

