-- ==== Sys2Proof/Machine/Flags.lean ====
section
/-! DEFINITION. What is read off the state: presence, rights, the state of the window and of the cycle, and the
output pins. -/

namespace Sys2Proof.Machine

/-! ### Roster and rights -/

/-- The entry is PRESENT (R141). -/
def Station.isPresent (e : Station) : Bool := e.state == .present

/-- The roster entry of a tag (R141: tags are unique). -/
def Roster.byTag (r : Roster) (t : Tag) : Option Station := r.stations.find? (fun e => e.tag == t)

/-- The roster entry with a number (R141: numbers are unique). -/
def Roster.byNumber (r : Roster) (n : Nat) : Option Station := r.stations.find? (fun e => e.number == n)

/-- The tag is held by a PRESENT station (R68). -/
def Roster.isPresent (r : Roster) (t : Tag) : Bool := r.stations.any (fun e => e.tag == t && e.isPresent)

/-- The tag is in the roster, PRESENT or DEPARTING. -/
def Roster.holds (r : Roster) (t : Tag) : Bool := r.stations.any (fun e => e.tag == t)

/-- The number of the PRESENT station that holds the tag. -/
def Roster.presentNumber (r : Roster) (t : Tag) : Option Nat :=
  (r.stations.find? (fun e => e.tag == t && e.isPresent)).map Station.number

/-- The known-tag entry of a tag (R142). -/
def Roster.knownOf (r : Roster) (t : Tag) : Option Known := r.known.find? (fun k => k.tag == t)

/-- No right. -/
def Rights.nothing : Rights := ⟨false, false, false⟩

/-- Every right. -/
def Rights.every : Rights := ⟨true, true, true⟩

/-- The rights of a party as they stand (R40). -/
def Roster.rightsOf (r : Roster) : Party → Rights
  | .host => .every
  | .station t => ((r.knownOf t).map Known.rights).getD .nothing

/-! ### Cycle and part -/

/-- The number of the last cycle opened, 0 if none since reset (R13, R191). -/
def Sequencer.cycleNumber (q : Sequencer) : Cycle := q.lastCycle.getD 0

/-- A halt is pending (R1). -/
def Sequencer.haltPending (q : Sequencer) : Bool := !q.haltWaiters.isEmpty

/-- The number that the next boundary opens (R23). -/
def Sequencer.nextCycle (q : Sequencer) : Cycle :=
  match q.lastCycle with
  | none => 0
  | some n => n + 1

/-- The stream is LIVE (R67). -/
def StreamRecord.isLive (r : StreamRecord) : Bool :=
  match r.state with
  | .live _ => true
  | _ => false

/-- The stream is HELD (R67). -/
def StreamRecord.isHeld (r : StreamRecord) : Bool :=
  match r.state with
  | .held _ => true
  | _ => false

/-- The stream is RETIRING (R67). -/
def StreamRecord.isRetiring (r : StreamRecord) : Bool :=
  match r.state with
  | .retiring _ => true
  | _ => false

/-- LIVE, WAITING_START or SUSPENDED: the states in which an edit is admitted (R67, R94) and that a departure or a
trunk reset acts on (R74, R79). -/
def StreamRecord.inService (r : StreamRecord) : Bool :=
  match r.state with
  | .live _ => true
  | .waitingStart => true
  | .suspended _ => true
  | _ => false

/-- The stream is due in cycle n: (n − phase) mod period = 0 (R63, R113). -/
def StreamRecord.dueIn (r : StreamRecord) (n : Cycle) : Bool := (n - BitVec.ofNat 16 r.phase).toNat % r.period == 0

/-- The charge of a stream: the larger of its units and its pending resize units (R65). -/
def StreamRecord.charge (r : StreamRecord) : Nat := max r.units (r.pendingResize.getD 0)

/-- The record in a position (R62). -/
def State.stream? (s : State) (id : Nat) : Option StreamRecord := s.streams.find? (fun r => r.id == id)

/-- Every slot of the current cycle has completed its observation, so the open-window offset is reached (R20, R114). -/
def State.slotsObserved (s : State) : Bool := s.svw.all (fun o => o.seen != .pending)

/-- The station portion of the open window is in progress (R21, R165): the 4024's share is over, or the open-window
offset is reached and the 4024 has nothing to send. -/
def State.portionOpen (s : State) : Bool :=
  s.csq.partState == .running && s.tpt.share.isNone &&
    (s.csq.phase == .window || (s.csq.phase == .slots && s.slotsObserved && s.tpt.outbound.isEmpty))

/-- A frame that has arrived whole came in the station portion of an open window of RUNNING (R21, R165): of the one in
progress, or of the one that the nominal instant just passed ended (R161, entry 42). -/
def State.stationPortion (s : State) : Bool := s.portionOpen || (s.csq.partState == .running && s.tpt.edge)

/-- ROLL_CALL is being sent. -/
def TrunkPort.isCalling (t : TrunkPort) : Bool :=
  match t.sending with
  | some (.rollCall _ _) => true
  | _ => false

/-- Stations may answer the roll call: STARTING, a period has been called, and the 4024 has sent its call and its share
(R135). With nothing in its queue an answer that is heard shows that the call has been sent (entry 17). -/
def State.answerPortion (s : State) : Bool :=
  s.csq.partState == .starting && 1 ≤ s.rst.rollPeriod && s.tpt.share.isNone &&
    (s.tpt.sending.isNone || (s.tpt.isCalling && s.tpt.outbound.isEmpty))

/-- The outbound queue has a free entry (R164). -/
def TrunkPort.hasRoom (t : TrunkPort) : Bool := t.outbound.length < Config.outboundRoom

/-- The reclaim window's state as STATUS shows it: CLOSED 0, COUNTING 1, PAUSED 2 (R13, R150, entry 12). -/
def State.windowCode (s : State) : Byte :=
  if !s.rcu.isOpen then 0 else if s.csq.partState == .running then 1 else 2

/-! ### Pins -/

/-- ATTN is high while the report queue holds a record (R197). -/
def State.attn (s : State) : Bool := !s.rpu.queue.isEmpty

/-- TRK_DIR is high while the 4024 transmits on the trunk (R18, R21, R31, R135). -/
def State.trkDir (s : State) : Bool := s.tpt.sending.isSome

/-- The frame being sent on HTX. -/
def HtxSending.frame : HtxSending → HostFrame
  | .reply _ f => f
  | .answer f => f
  | .report _ f => f

/-- The bytes of the frame on HTX; none while HTX idles high (R179, R185, R200). -/
def State.htxBytes (s : State) : Option (List Byte) := s.hlk.sending.map (fun x => x.frame.bytes)

/-- The bytes of the frame the 4024 is sending on the trunk; none while TRK_DIR is low (R31, R203). -/
def State.trkBytes (s : State) : Option (List Byte) := s.tpt.sending.map TrunkSending.bytes

end Sys2Proof.Machine
end

