-- ==== Sys2Proof/Machine/Ops.lean ====
section
/-! DEFINITION. The operations that many commands share: reports (chapter 11), replies, answers and the transmitter
(chapter 10), the outbound queue, notices and shares (chapter 9). -/

namespace Sys2Proof.Machine

/-! ### Lists -/

/-- Changes the first element that meets `p`. -/
def updateFirst {α : Type} (p : α → Bool) (f : α → α) : List α → List α
  | [] => []
  | a :: l => if p a then f a :: l else a :: updateFirst p f l

/-- Inserts into an ordered list, behind every element that stands before the new one. -/
def insertBy {α : Type} (before : α → α → Bool) (x : α) : List α → List α
  | [] => [x]
  | a :: l => if before a x then a :: insertBy before x l else x :: a :: l

/-- Sorts by insertion. -/
def sortBy {α : Type} (before : α → α → Bool) (l : List α) : List α := l.foldl (fun acc x => insertBy before x acc) []

/-! ### Reports -/

/-- Whether the mask view has a kind on; OVERFLOW is always on (R192). -/
def Reports.isOn (r : Reports) (k : ReportKind) : Bool := k == .overflow || r.mask.getLsbD (k.code - 1)

/-- Queues a record with the next sequence (R191). -/
def Reports.enqueue (r : Reports) (k : ReportKind) (cycle : Cycle) (epoch : Byte) (body : List Byte) : Reports :=
  { r with queue := r.queue ++ [⟨r.next, k, cycle, epoch, body, .waiting⟩], next := r.next + 1 }

/-- Counts a report lost at a full queue (R196). -/
def Reports.lose (r : Reports) : Reports := { r with marker := true, lost := min 255 (r.lost + 1) }

/-- Takes an offer: forgotten if its kind is off, queued if there is room, else lost (R191, R196). -/
def Reports.offer (r : Reports) (k : ReportKind) (cycle : Cycle) (epoch : Byte) (body : List Byte) : Reports :=
  if r.isOn k then
    if r.queue.length < Config.reportRoom then r.enqueue k cycle epoch body else r.lose
  else r

/-- A block offers a report; its record carries the cycle number and epoch then standing (R191). -/
def State.offer (s : State) (k : ReportKind) (body : List Byte) : State :=
  { s with rpu := s.rpu.offer k s.csq.cycleNumber s.rst.epoch body }

/-! ### Replies and answers -/

/-- An entry of the table still WAITING (R183). -/
def TableEntry.isWaiting (e : TableEntry) : Bool := e.state == .waiting

/-- The owner answers the WAITING request with this tag: its reply is formed and joins the transmit order (R183). -/
def HostLink.answer (h : HostLink) (tag : Byte) (r : Reply) : HostLink :=
  match h.table.find? (fun e => e.tag == tag && e.isWaiting) with
  | none => h
  | some e =>
    { h with
      table := updateFirst (fun e => e.tag == tag && e.isWaiting)
        (fun e => { e with state := .answered (replyFrame e.kind e.tag r) }) h.table
      order := h.order ++ [.reply e.tag] }

/-- Answers each of the requests named, in order. -/
def HostLink.answerEach (h : HostLink) (tags : List Byte) (r : Reply) : HostLink :=
  tags.foldl (fun h t => h.answer t r) h

/-- A frame joins the answer list (R186). -/
def HostLink.joinAnswers (h : HostLink) (f : HostFrame) : HostLink :=
  { h with answers := h.answers ++ [f], order := h.order ++ [.answer] }

/-- A frame is to join the answer list (R186): not formed when the list is full; behind a LINK_ERROR with cause
OVERRUN when answers were lost before, its kind and tag marked absent (entry 47). None joins after RESET is taken
(R188). -/
def HostLink.placeAnswer (h : HostLink) (f : HostFrame) : HostLink :=
  if h.resetting.isSome then h
  else if Config.answerRoom ≤ h.answers.length then { h with overrun := min 255 (h.overrun + 1) }
  else if h.overrun = 0 then h.joinAnswers f
  else
    let h1 := { h.joinAnswers (linkError linkErrorOverrun none none h.overrun) with overrun := 0 }
    if h1.answers.length < Config.answerRoom then h1.joinAnswers f else { h1 with overrun := 1 }

/-- The record that a free transmitter takes: the earliest due SENT record, else the oldest WAITING record while
fewer than 4 are SENT (R193, R194). -/
def Reports.pick (r : Reports) : Option ReportRecord :=
  match r.queue.find? (fun x => x.state == .sent .due) with
  | some x => some x
  | none =>
    if (r.queue.filter (fun x => x.state != .waiting)).length < Config.sentRoom then
      r.queue.find? (fun x => x.state == .waiting)
    else none

/-- A sending of the record begins: it is SENT from then on (R193). -/
def Reports.beginSending (r : Reports) (seq : Byte) : Reports :=
  { r with queue := updateFirst (fun x => x.seq == seq) (fun x => { x with state := .sent .unset }) r.queue }

/-- A free transmitter takes the earliest formed reply or answer, else a report frame (R185); no report frame begins
once RESET is taken (R188). -/
def State.transmit (s : State) : State :=
  if s.hlk.sending.isSome then s
  else
    match s.hlk.order with
    | .reply tag :: rest =>
      match (s.hlk.table.find? (fun e => e.tag == tag)).map TableEntry.state with
      | some (.answered f) => { s with hlk := { s.hlk with order := rest, sending := some (.reply tag f) } }
      | _ => { s with hlk := { s.hlk with order := rest } }
    | .answer :: rest =>
      match s.hlk.answers with
      | f :: _ => { s with hlk := { s.hlk with order := rest, sending := some (.answer f) } }
      | [] => { s with hlk := { s.hlk with order := rest } }
    | [] =>
      if s.hlk.resetting.isSome then s
      else
        match s.rpu.pick with
        | some x =>
          { s with
            hlk := { s.hlk with sending := some (.report x.seq x.frame) }
            rpu := s.rpu.beginSending x.seq }
        | none => s

/-! ### The outbound queue and notices -/

/-- A frame joins the tail of the outbound queue (R164). -/
def State.pushFrame (s : State) (f : OutFrame) : State :=
  { s with tpt := { s.tpt with outbound := s.tpt.outbound ++ [f] } }

/-- Changes the roster entry with a number. -/
def Roster.update (r : Roster) (number : Nat) (f : Station → Station) : Roster :=
  { r with stations := updateFirst (fun e => e.number == number) f r.stations }

/-- A notice joins the queue as a NOTICE frame, which carries and clears the notices-dropped flag (R174, R175); none
is formed for a number that has no entry. -/
def State.joinNotice (s : State) (number : Nat) (n : Notice) : State :=
  match s.rst.byNumber number with
  | none => s
  | some e =>
    let s1 := s.pushFrame (.notice number e.tag s.rst.epoch e.dropped n)
    { s1 with rst := s1.rst.update number (fun e => { e with dropped := false }) }

/-- A notice is parked behind the station's others; at 4 the station's oldest is dropped and its flag set (R175). -/
def State.parkNotice (s : State) (number : Nat) (n : Notice) : State :=
  let own := s.tpt.parked.filter (fun p => p.number == number)
  if own.length < Config.parkedRoom then
    { s with tpt := { s.tpt with parked := s.tpt.parked ++ [⟨number, n⟩] } }
  else
    { s with
      tpt := { s.tpt with parked := s.tpt.parked.eraseP (fun p => p.number == number) ++ [⟨number, n⟩] }
      rst := s.rst.update number (fun e => { e with dropped := true }) }

/-- A block hands a notice for the station with this number: it joins the queue, or is parked when the queue is full
(R174, R175). -/
def State.handNotice (s : State) (number : Nat) (kind : NoticeKind) (body : List Byte) : State :=
  match s.rst.byNumber number with
  | none => s
  | some _ => if s.tpt.hasRoom then s.joinNotice number ⟨kind, body⟩ else s.parkNotice number ⟨kind, body⟩

/-- A notice for a tag, handed over only while a PRESENT station holds the tag. -/
def State.noticeIfPresent (s : State) (t : Tag) (kind : NoticeKind) (body : List Byte) : State :=
  match s.rst.presentNumber t with
  | none => s
  | some number => s.handNotice number kind body

/-- A freed entry takes the notice that was parked earliest, across all stations (R176). -/
def State.unpark (s : State) : State :=
  match s.tpt.parked with
  | [] => s
  | p :: rest => State.joinNotice { s with tpt := { s.tpt with parked := rest } } p.number p.notice

/-! ### Shares (R21, R135, R172) -/

/-- The share is over and TRK_DIR falls (R21, R135). -/
def State.endShare (s : State) : State := { s with tpt := { s.tpt with share := none, sending := none } }

/-- With so many units of the share left, the frame at the head of the queue begins if it fits; else the share is
over (R21). -/
def State.continueShare (s : State) (left : Nat) : State :=
  match s.tpt.outbound with
  | [] => s.endShare
  | f :: _ =>
    if f.units ≤ left then { s with tpt := { s.tpt with share := some left, sending := some (.outbound f) } }
    else s.endShare

end Sys2Proof.Machine
end

