-- ==== Sys2Proof/Machine/Ledger.lean ====
section
/-! DEFINITION. The Resource Ledger (chapter 3): accounts, the services of 3.9, exchanges, reads, whole releases. -/

namespace Sys2Proof.Machine

/-- An account with nothing in it. -/
def Account.empty : Account := ⟨0, 0, 0, []⟩

/-- The claim record of a party, if it has one (R36). -/
def Ledger.account? (l : Ledger) : Party → Option Account
  | .host => some l.host
  | .station t => (l.claims.find? (fun c => c.tag == t)).map StationClaim.account

/-- The account of a party; a party without a record holds nothing (R43, R53, R55). -/
def Ledger.account (l : Ledger) (p : Party) : Account := (l.account? p).getD .empty

/-- Changes the account in a party's claim record. -/
def Ledger.update (l : Ledger) (p : Party) (f : Account → Account) : Ledger :=
  match p with
  | .host => { l with host := f l.host }
  | .station t =>
    { l with claims := updateFirst (fun c => c.tag == t) (fun c => { c with account := f c.account }) l.claims }

/-- Creates an empty record for a party that has none, at the end of the list (R36, R37, R49). -/
def Ledger.ensure (l : Ledger) (p : Party) : Ledger :=
  match p with
  | .host => l
  | .station t =>
    if l.claims.any (fun c => c.tag == t) then l
    else { l with claims := l.claims ++ [⟨t, .empty⟩], revision := l.revision + 1 }

/-- Removes a station record that holds nothing; the host record is kept (R37). -/
def Ledger.dropEmpty (l : Ledger) (p : Party) : Ledger :=
  match p with
  | .host => l
  | .station t =>
    match l.account? (.station t) with
    | some a =>
      if a.claimed = 0 ∧ a.held = 0 then
        { l with claims := l.claims.eraseP (fun c => c.tag == t), revision := l.revision + 1 }
      else l
    | none => l

/-- The holding of a tag (R38). -/
def Ledger.holding? (l : Ledger) (t : Tag) : Option Holding := l.holdings.find? (fun h => h.tag == t)

/-- Sum of claimed units over all claim records (R34, R48). -/
def Ledger.claimedTotal (l : Ledger) : Nat := l.host.claimed + (l.claims.map (fun c => c.account.claimed)).sum

/-- Sum of committed units over all claim records (R48). -/
def Ledger.committedTotal (l : Ledger) : Nat := l.host.committed + (l.claims.map (fun c => c.account.committed)).sum

/-- Sum of units over all holdings (R34, R48). -/
def Ledger.holdingTotal (l : Ledger) : Nat := (l.holdings.map Holding.units).sum

/-! ### Services (3.9) -/

/-- Charge (R53): none is OVER_CLAIM. -/
def Ledger.charge (l : Ledger) (p : Party) (u : Nat) : Option Ledger :=
  if (l.account p).committed + u ≤ (l.account p).claimed then
    some (l.update p (fun a => { a with committed := a.committed + u }))
  else none

/-- Uncharge (R54), for a stream that is not HELD. -/
def Ledger.uncharge (l : Ledger) (p : Party) (u : Nat) : Ledger :=
  l.update p (fun a => { a with committed := a.committed - u })

/-- Enters a channel with its stream, by ascending channel (R36, entry 15). -/
def bindIn (bound : List (Nat × Nat)) (channel id : Nat) : List (Nat × Nat) :=
  insertBy (fun a b => a.1 < b.1) (channel, id) bound

/-- Bind (R55): none is NOT_HELD. -/
def Ledger.bind (l : Ledger) (p : Party) (channel id : Nat) : Option Ledger :=
  if hasChannel (l.account p).held channel then
    some (l.update p (fun a => { a with bound := bindIn a.bound channel id }))
  else none

/-- Unbind (R56), for a stream that is not HELD. -/
def Ledger.unbind (l : Ledger) (p : Party) (channel : Nat) : Ledger :=
  l.update p (fun a => { a with bound := a.bound.filter (fun b => b.1 != channel) })

/-- A held stream leaves its holding, whose units and channels stay (R39, R54, R56). -/
def Ledger.dropHeld (l : Ledger) (t : Tag) (id : Nat) : Ledger :=
  { l with
    holdings := updateFirst (fun h => h.tag == t)
      (fun h => { h with streams := h.streams.filter (fun x => x.id != id) }) l.holdings }

/-- Frees the whole charge and the channel of a record, as one operation on the account that carries them (R56). -/
def Ledger.freeStream (l : Ledger) (r : StreamRecord) : Ledger :=
  match r.state, r.owner with
  | .held _, .station t => l.dropHeld t r.id
  | _, _ => (l.uncharge r.owner r.charge).unbind r.owner r.channel

/-- Releases a tag's claim record whole (R57). -/
def Ledger.releaseClaim (l : Ledger) (t : Tag) : Ledger :=
  match l.account? (.station t) with
  | none => l
  | some a =>
    { l with
      freeUnits := l.freeUnits + a.claimed
      freeChannels := l.freeChannels ||| a.held
      claims := l.claims.eraseP (fun c => c.tag == t)
      revision := l.revision + 1 }

/-- Ends a tag's holding and returns its units and channels to free (R51, R153, R156). -/
def Ledger.releaseHolding (l : Ledger) (t : Tag) : Ledger :=
  match l.holding? t with
  | none => l
  | some h =>
    { l with
      freeUnits := l.freeUnits + h.units
      freeChannels := l.freeChannels ||| h.channels
      holdings := l.holdings.eraseP (fun x => x.tag == t)
      revision := l.revision + 1 }

/-! ### EXCHANGE_UNITS (R41 to R44) -/

/-- The body of NOT_HELD, IN_USE and OVER_CLAIM: claimed and committed units (R44, R97). -/
def Account.unitsBody (a : Account) : List Byte := be16 a.claimed ++ be16 a.committed

/-- R42: the party claims expected − proposed units. -/
def Ledger.claimUnits (l : Ledger) (p : Party) (expected proposed : Nat) : Ledger :=
  let l1 := (l.ensure p).update p (fun a => { a with claimed := a.claimed + (expected - proposed) })
  { l1 with freeUnits := proposed }

/-- R43: the party releases proposed − expected units. -/
def Ledger.releaseUnits (l : Ledger) (p : Party) (expected proposed : Nat) : Ledger :=
  let l1 := l.update p (fun a => { a with claimed := a.claimed - (proposed - expected) })
  { l1 with freeUnits := proposed }.dropEmpty p

/-- EXCHANGE_UNITS by a party with these rights (R41). -/
def Ledger.exchangeUnits (l : Ledger) (budget : Nat) (rights : Rights) (p : Party) (expected proposed : Nat) :
    Ledger × Reply :=
  if !(if proposed = expected then rights.query else rights.claim) then (l, ⟨.notPermitted, []⟩)
  else if budget < proposed then (l, ⟨.badValue, be16 budget⟩)
  else if l.freeUnits ≠ expected then (l, ⟨.mismatch, be16 l.freeUnits⟩)
  else if proposed = expected then (l, ⟨.done, be16 l.freeUnits⟩)
  else if proposed < expected then (l.claimUnits p expected proposed, ⟨.done, be16 l.freeUnits⟩)
  else
    let a := l.account p
    if a.claimed < proposed - expected then (l, ⟨.notHeld, a.unitsBody⟩)
    else if a.claimed - a.committed < proposed - expected then (l, ⟨.inUse, a.unitsBody⟩)
    else (l.releaseUnits p expected proposed, ⟨.done, be16 l.freeUnits⟩)

/-! ### EXCHANGE_CHANNELS (R45 to R47) -/

/-- The bound channels of an account, as a set (R36). -/
def Account.boundSet (a : Account) : ChannelSet := a.bound.foldl (fun s b => s ||| channelBit b.1) 0

/-- R46: C joins the party's held channels and L leaves them. -/
def Ledger.moveChannels (l : Ledger) (p : Party) (expected proposed : ChannelSet) : Ledger :=
  let claimed := expected &&& ~~~proposed
  let released := proposed &&& ~~~expected
  let l1 := if claimed = 0 then l else l.ensure p
  let l2 := l1.update p (fun a => { a with held := (a.held ||| claimed) &&& ~~~released })
  { l2 with freeChannels := proposed }.dropEmpty p

/-- EXCHANGE_CHANNELS by a party with these rights (R45, R46). -/
def Ledger.exchangeChannels (l : Ledger) (rights : Rights) (p : Party) (expected proposed : BitVec 256) :
    Ledger × Reply :=
  if !(if proposed = expected then rights.query else rights.claim) then (l, ⟨.notPermitted, []⟩)
  else if !(setInRange expected && setInRange proposed) then (l, ⟨.badValue, []⟩)
  else
    let e : ChannelSet := expected.setWidth 40
    let n : ChannelSet := proposed.setWidth 40
    if l.freeChannels ≠ e then (l, ⟨.mismatch, setBytes l.freeChannels⟩)
    else if n = e then (l, ⟨.done, setBytes l.freeChannels⟩)
    else
      let a := l.account p
      let released := n &&& ~~~e
      if released &&& ~~~a.held ≠ 0 then (l, ⟨.notHeld, setBytes (released &&& ~~~a.held)⟩)
      else if released &&& a.boundSet ≠ 0 then (l, ⟨.inUse, setBytes (released &&& a.boundSet)⟩)
      else (l.moveChannels p e n, ⟨.done, setBytes l.freeChannels⟩)

/-! ### Reads -/

/-- The totals that the host reads (R48). -/
def Ledger.totals (l : Ledger) : List Byte :=
  be16 l.claimedTotal ++ be16 l.committedTotal ++ be16 l.holdingTotal
  ++ [byteOf (l.claims.length + 1), byteOf l.holdings.length]

/-- The own-holding part of LEDGER_READ (R48). -/
def Holding.ownPart (h : Holding) : List Byte :=
  be16 h.units ++ setBytes h.channels ++ [byteOf h.streams.length, h.epoch]

/-- LEDGER_READ's DONE body (R48), with a presence byte for free units, free channels, own claim record, own holding
and totals (entry 10). An absent part's bytes are 0 (R201). R48's table has a dash for the host's own holding; the host
is sent that part as an absent one (entry 36). -/
def Ledger.readBody (l : Ledger) (budget : Nat) (rights : Rights) (p : Party) : List Byte :=
  let sees := p == .host || rights.query
  let own := l.account? p
  let holding := match p with
    | .host => none
    | .station t => l.holding? t
  [presence [sees, sees, own.isSome, holding.isSome, p == .host]]
  ++ (if sees then be16 l.freeUnits ++ setBytes l.freeChannels else List.replicate 8 0)
  ++ (match own with
      | some a => claimEntry p a
      | none => List.replicate 18 0)
  ++ (match holding with
      | some h => h.ownPart
      | none => List.replicate 10 0)
  ++ (if p == .host then l.totals else List.replicate 8 0)
  ++ be16 budget

/-- A holding entry of CLAIM_LIST: tag, units, channels, epoch of creation, held streams with charge and saved state
(12, R201). The saved state stands in the stream record. -/
def State.holdingEntry (s : State) (h : Holding) : List Byte :=
  tagBytes h.tag ++ be16 h.units ++ setBytes h.channels ++ [h.epoch]
  ++ countedList
      (fun x => byteOf x.id :: be16 x.charge
        ++ [optionalCode SavedState.code ((s.stream? x.id).bind (fun r => r.state.saved?))]) h.streams

/-- The combined list of R50, each entry opened by 0 for a claim record or 1 for a holding. -/
def State.claimEntries (s : State) : List (List Byte) :=
  (0 :: claimEntry .host s.lgr.host)
    :: s.lgr.claims.map (fun c => 0 :: claimEntry (.station c.tag) c.account)
    ++ s.lgr.holdings.map (fun h => 1 :: s.holdingEntry h)

/-- The longest run of whole entries, at most `most`, within `room` bytes (12, R201). -/
def wholeEntries : Nat → Nat → List (List Byte) → List (List Byte)
  | 0, _, _ => []
  | _ + 1, _, [] => []
  | most + 1, room, e :: l => if e.length ≤ room then e :: wholeEntries most (room - e.length) l else []

/-- CLAIM_LIST(first index) (R50): N, list revision, "more" flag, entries. The reply's outcome byte and these four
bytes leave 243 of the 248 for entries. -/
def State.claimListReply (s : State) (first : Nat) : Reply :=
  let all := s.claimEntries
  if all.length < first then ⟨.badValue, [byteOf all.length]⟩
  else
    let page := wholeEntries 16 243 (all.drop first)
    ⟨.done, [byteOf all.length, s.lgr.revision, flag (first + page.length < all.length), byteOf page.length]
      ++ page.flatten⟩

end Sys2Proof.Machine
end

