-- ==== Sys2Proof/Machine/Streams.lean ====
section
/-! DEFINITION. The Stream Table (chapter 4): the start rule, removal of a record, announcements, reads. -/

namespace Sys2Proof.Machine

/-- The cause that STREAM_CHANGED and STREAM_STATE carry (R84). -/
inductive ChangeCause where
  | activated | vacancy | overlong | talkerAbsent | talkerPresent | restored | stopCount | departure
deriving DecidableEq, Repr

/-- R84's order (R201). -/
def ChangeCause.code : ChangeCause → Byte
  | .activated => 0 | .vacancy => 1 | .overlong => 2 | .talkerAbsent => 3 | .talkerPresent => 4 | .restored => 5
  | .stopCount => 6 | .departure => 7

/-! ### Records -/

/-- Replaces the record with the same id. -/
def State.putStream (s : State) (r : StreamRecord) : State :=
  { s with streams := updateFirst (fun x => x.id == r.id) (fun _ => r) s.streams }

/-- Acts on every record, in ascending stream id, each as it stands when its turn comes. -/
def State.eachStream (s : State) (f : StreamRecord → State → State) : State :=
  (s.streams.map StreamRecord.id).foldl
    (fun s id => match s.stream? id with
      | some r => f r s
      | none => s) s

/-- The lowest free position (R62). -/
def State.lowestFree (s : State) : Option Nat :=
  (List.range Config.streamPositions).find? (fun id => (s.stream? id).isNone)

/-- Removal of a record (R77): its charge and channel are freed on the account that carries them, its position is
freed, and an edit still pending for it leaves the staging list without uncharge of its own. -/
def State.removeRecord (s : State) (id : Nat) : State :=
  match s.stream? id with
  | none => s
  | some r =>
    { s with
      lgr := s.lgr.freeStream r
      streams := s.streams.eraseP (fun x => x.id == id)
      stg := { s.stg with edits := s.stg.edits.filter (fun e => e.stream != id) } }

/-- Removes several records, in the order given. -/
def State.removeRecords (s : State) (ids : List Nat) : State := ids.foldl State.removeRecord s

/-! ### Entering service (R68) -/

/-- The state that the start rule gives at boundary n, and whether it is late (R68). -/
def startRule (start : Option Cycle) (n : Cycle) : StreamState × Bool :=
  match start with
  | none => (.live none, false)
  | some c =>
    let d := forwardDistance n c
    if d = 0 then (.live none, false)
    else if d ≤ 32767 then (.waitingStart, false)
    else (.live none, true)

/-- The start rule behind the talker test: SUSPENDED(ABSENT) when the talker is not PRESENT (R68). -/
def State.enterService (s : State) (r : StreamRecord) (n : Cycle) : StreamState × Bool :=
  if s.rst.isPresent r.talker then startRule r.start n else (.suspended .absent, false)

/-! ### Announcements (R84) -/

/-- A new state as STREAM_CHANGED and STREAM_STATE carry it; none is "Removed", whose code is open (entry 8). -/
def newStateBytes : Option StreamState → List Byte
  | some st => stateWithCause st
  | none => [Config.removedStateCode, presence [false], 0]

/-- STREAM_CHANGED's body (R84). -/
def streamChangedBody (r : StreamRecord) (new : Option StreamState) (cause : ChangeCause) (late : Bool) : List Byte :=
  byteOf r.id :: partyBytes r.owner ++ [byteOf r.channel] ++ newStateBytes new ++ [cause.code, flag late]

/-- STREAM_STATE's body (R84, R174). -/
def streamStateBody (r : StreamRecord) (new : Option StreamState) (cause : ChangeCause) (late : Bool) : List Byte :=
  byteOf r.id :: newStateBytes new ++ [cause.code, flag late]

/-- Offers STREAM_CHANGED, and hands a PRESENT station owner a STREAM_STATE notice (R84). -/
def State.announce (s : State) (r : StreamRecord) (new : Option StreamState) (cause : ChangeCause) (late : Bool) : State :=
  let s1 := s.offer .streamChanged (streamChangedBody r new cause late)
  match r.owner with
  | .host => s1
  | .station t => s1.noticeIfPresent t .streamState (streamStateBody r new cause late)

/-- Gives a record a new state and announces it. -/
def State.changeState (s : State) (r : StreamRecord) (new : StreamState) (cause : ChangeCause) (late : Bool) : State :=
  (s.putStream { r with state := new }).announce r (some new) cause late

/-! ### Reads (4.10) -/

/-- STREAM_READ by a party (R85). A station without QUERY reads its own record as R85 has it, although R130 would let it
learn a slot's outcome so only with QUERY (entry 45). -/
def State.streamReadReply (s : State) (p : Party) (id : Nat) : Reply :=
  if Config.streamPositions ≤ id then ⟨.badValue, [1]⟩
  else
    match s.stream? id with
    | none => if (s.rst.rightsOf p).query then ⟨.noSuchStream, []⟩ else ⟨.notPermitted, []⟩
    | some r =>
      if (s.rst.rightsOf p).query || r.owner == p then ⟨.done, r.readBody⟩ else ⟨.notPermitted, []⟩

/-- A line of STREAM_LIST: stream id, state, owner kind, channel (R86). -/
def StreamRecord.listLine (r : StreamRecord) : List Byte :=
  [byteOf r.id, r.state.code, (if r.owner = .host then 0 else 1), byteOf r.channel]

/-- STREAM_LIST's DONE (R86): the number of records is the count byte of its entries. -/
def State.streamListReply (s : State) : Reply := ⟨.done, countedList StreamRecord.listLine s.streams⟩

end Sys2Proof.Machine
end

