-- ==== Sys2Proof/Machine/Reclaim.lean ====
section
/-! DEFINITION. Holdings and the reclaim window (chapter 8, and 3.3, 3.8): releases, conversions, the window's
opening, countdown and close, and RECLAIM. -/

namespace Sys2Proof.Machine

/-! ### Ending holdings -/

/-- Removes the streams held in a tag's holding and returns its units and channels to free (R51, R82, R153, R156). -/
def State.endHolding (s : State) (h : Holding) : State :=
  let s1 := s.removeRecords (h.streams.map HeldStream.id)
  { s1 with lgr := s1.lgr.releaseHolding h.tag }

/-- The causes of HOLDING_RELEASED (R201). -/
inductive ReleaseCause where
  | discard | evict | overflow
deriving DecidableEq, Repr

/-- 12, R201. -/
def ReleaseCause.code : ReleaseCause → Byte
  | .discard => 0 | .evict => 1 | .overflow => 2

/-- HOLDING_RELEASED's body: cause, tag, units, channel set, ids of the streams removed (R51, 11.1). -/
def holdingReleasedBody (cause : ReleaseCause) (h : Holding) : List Byte :=
  cause.code :: tagBytes h.tag ++ be16 h.units ++ setBytes h.channels
  ++ countedList (fun x => [byteOf x.id]) h.streams

/-- The causes of a CLAIM_RELEASED notice (12, trunk frames): 0 DISCARD, 1 EVICT, 2 WINDOW_CLOSED. -/
def claimReleasedBody (cause : Byte) (units : Nat) (channels : ChannelSet) (streams : Nat) : List Byte :=
  cause :: be16 units ++ setBytes channels ++ [byteOf streams]

/-- RECLAIM_CLOSED's body: cause, holdings, units, channels, streams, tags (R156): a number of streams and not their ids,
which R82 has the report of a holding's end carry (entry 44). -/
def reclaimClosedBody (cause : Byte) (released : List Holding) : List Byte :=
  [cause, byteOf released.length] ++ be16 (released.map Holding.units).sum
  ++ [byteOf (released.map (fun h => channelCount h.channels)).sum,
      byteOf (released.map (fun h => h.streams.length)).sum]
  ++ countedList (fun h => tagBytes h.tag) released

/-- When no holding is left while the window is open, it closes at once with cause EMPTIED (R157). -/
def State.closeIfEmptied (s : State) : State :=
  if s.rcu.isOpen && s.lgr.holdings.isEmpty then
    State.offer { s with rcu := { s.rcu with isOpen := false, remaining := 0 } } .reclaimClosed (reclaimClosedBody 1 [])
  else s

/-- A holding ends by the host's act: DISCARD_HOLDING (R51) or EVICT of an absent tag (R146). -/
def State.discardHolding (s : State) (h : Holding) (cause : ReleaseCause) : State :=
  let s1 := (s.endHolding h).offer .holdingReleased (holdingReleasedBody cause h)
  let s2 := match s1.rst.byTag h.tag with
    | some e =>
      s1.handNotice e.number .claimReleased (claimReleasedBody 0 h.units h.channels h.streams.length)
    | none => s1
  s2.closeIfEmptied

/-- What ended: units, number of channels, number of streams (R51, R146). -/
def Holding.releasedBody (h : Holding) : List Byte :=
  be16 h.units ++ [byteOf (channelCount h.channels), byteOf h.streams.length]

/-! ### Expiry (R155, R156) -/

/-- Releases one holding at the window's close, with a CLAIM_RELEASED notice to a PRESENT station (R156). -/
def State.expireHolding (s : State) (h : Holding) : State :=
  (s.endHolding h).noticeIfPresent h.tag .claimReleased (claimReleasedBody 2 h.units h.channels h.streams.length)

/-- The window closes because its count has reached 0 (R156). -/
def State.expireWindow (s : State) : State :=
  let released := s.lgr.holdings
  let s1 := released.foldl State.expireHolding s
  State.offer { s1 with rcu := { s1.rcu with isOpen := false, remaining := 0 } } .reclaimClosed
    (reclaimClosedBody 0 released)

/-- The countdown of a boundary (R155). -/
def State.countDown (s : State) : State :=
  if s.rcu.isOpen then
    let s1 := { s with rcu := { s.rcu with remaining := s.rcu.remaining - 1 } }
    if s1.rcu.remaining = 0 then s1.expireWindow else s1
  else s

/-! ### Conversion at a trunk reset (R151 to R154) -/

/-- The tag's HELD streams in ascending id, each with its entry in the holding if it has one already, else with its
units as charge (R152). -/
def heldList (streams : List StreamRecord) (t : Tag) (old : List HeldStream) : List HeldStream :=
  (streams.filter (fun r => r.isHeld && r.owner == .station t)).map
    (fun r => (old.find? (fun x => x.id == r.id)).getD ⟨r.id, r.units⟩)

/-- When 32 holdings exist, the oldest that this trunk reset has not touched is released to free, with
HOLDING_RELEASED(OVERFLOW) (R153). -/
def State.makeRoom (s : State) (touched : List Tag) : State :=
  if s.lgr.holdings.length < Config.holdingRoom then s
  else
    match s.lgr.holdings.find? (fun h => !touched.contains h.tag) with
    | none => s
    | some h => (s.endHolding h).offer .holdingReleased (holdingReleasedBody .overflow h)

/-- The record of a tag becomes a new holding at the newest end (R151). -/
def State.newHolding (s : State) (t : Tag) (a : Account) : State :=
  { s with
    lgr := { s.lgr with
      claims := s.lgr.claims.eraseP (fun c => c.tag == t)
      holdings := s.lgr.holdings ++ [⟨t, a.claimed, a.held, heldList s.streams t [], s.rst.epoch⟩]
      revision := s.lgr.revision + 2 } }

/-- The record of a tag merges into its holding, which keeps its place and its epoch of creation (R151, R152). -/
def State.mergeHolding (s : State) (t : Tag) (a : Account) : State :=
  { s with
    lgr := { s.lgr with
      claims := s.lgr.claims.eraseP (fun c => c.tag == t)
      holdings := updateFirst (fun h => h.tag == t)
        (fun h => { h with
          units := h.units + a.claimed
          channels := h.channels ||| a.held
          streams := heldList s.streams t h.streams }) s.lgr.holdings
      revision := s.lgr.revision + 1 } }

/-- Converts the claim record of one PRESENT tag; `touched` lists the tags whose holdings this trunk reset has
created or merged into (R151, R153). -/
def State.convertClaim (st : State × List Tag) (t : Tag) : State × List Tag :=
  let (s, touched) := st
  match s.lgr.account? (.station t), s.lgr.holding? t with
  | none, _ => (s, touched)
  | some a, some _ => (s.mergeHolding t a, t :: touched)
  | some a, none => ((s.makeRoom touched).newHolding t a, t :: touched)

/-- Converts the claim records of the PRESENT tags, in the order given (R132 step 3, R151). -/
def State.convertClaims (s : State) (tags : List Tag) : State := (tags.foldl State.convertClaim (s, [])).1

/-- After the conversions the window opens or restarts if a holding exists (R154). -/
def State.openWindow (s : State) : State :=
  if s.lgr.holdings.isEmpty then s
  else { s with rcu := ⟨true, s.cfg.reclaimWindow, s.cfg.reclaimWindow⟩ }

/-! ### RECLAIM (8.5) -/

/-- A held stream takes its saved state and its restore mark (R80). -/
def StreamRecord.leaveHeld (r : StreamRecord) : StreamRecord :=
  match r.state with
  | .held .live => { r with state := .live none, restoreMark := true }
  | .held .waitingStart => { r with state := .waitingStart, restoreMark := true }
  | .held (.suspended c) => { r with state := .suspended c, restoreMark := true }
  | _ => r

/-- The holding's charges and bindings pass to the account (R159). -/
def Account.takeHolding (a : Account) (h : Holding) (streams : List StreamRecord) : Account where
  claimed := a.claimed + h.units
  committed := a.committed + (h.streams.map HeldStream.charge).sum
  held := a.held ||| h.channels
  bound := h.streams.foldl
    (fun b x => match streams.find? (fun r => r.id == x.id) with
      | some r => bindIn b r.channel x.id
      | none => b) a.bound

/-- The ledger's part of a RECLAIM: the holding converts into the tag's claim record (R159). -/
def Ledger.convertHolding (l : Ledger) (h : Holding) (streams : List StreamRecord) : Ledger :=
  let l1 := (l.ensure (.station h.tag)).update (.station h.tag) (fun a => a.takeHolding h streams)
  { l1 with holdings := l1.holdings.eraseP (fun x => x.tag == h.tag), revision := l1.revision + 1 }

/-- RECLAIMED's body: tag, number, units, channel set, streams with saved states, epoch of creation, latched length,
cycles remaining (R160). -/
def State.reclaimedBody (s : State) (number : Nat) (h : Holding) : List Byte :=
  tagBytes h.tag ++ [byteOf number] ++ be16 h.units ++ setBytes h.channels
  ++ countedList
      (fun x => [byteOf x.id, optionalCode SavedState.code ((s.stream? x.id).bind (fun r => r.state.saved?))])
      h.streams
  ++ [h.epoch] ++ be16 s.rcu.latched ++ be16 s.rcu.remaining

/-- The conversion of a holding by RECLAIM, with its report (R159, R160, R157). -/
def State.reclaimHolding (s : State) (number : Nat) (h : Holding) : State :=
  let ids := h.streams.map HeldStream.id
  let s1 := { s with
    lgr := s.lgr.convertHolding h s.streams
    streams := s.streams.map (fun (r : StreamRecord) => if ids.contains r.id then r.leaveHeld else r) }
  (s1.offer .reclaimed (s.reclaimedBody number h)).closeIfEmptied

/-- RECLAIM by the station in this entry (R158, R160). NOT_HELD carries the tag's claimed units in two bytes, 0 for a tag
without a claim record (entry 39). -/
def takeReclaim (e : Station) (body : List Byte) (s : State) : State × Reply :=
  match decodeNone .reclaim body with
  | .error f => (s, ⟨.badValue, [f]⟩)
  | .ok _ =>
    if !(s.rst.rightsOf (.station e.tag)).claim then (s, ⟨.notPermitted, []⟩)
    else
      match s.lgr.holding? e.tag with
      | none => (s, ⟨.notHeld, be16 (s.lgr.account (.station e.tag)).claimed⟩)
      | some h =>
        (s.reclaimHolding e.number h,
          ⟨.done, be16 h.units ++ [byteOf (channelCount h.channels), byteOf h.streams.length, h.epoch]⟩)

/-- DISCARD_HOLDING(tag) (R51). -/
def takeDiscardHolding (body : List Byte) (s : State) : State × Reply :=
  match decodeTag .discardHolding body with
  | .error f => (s, ⟨.badValue, [f]⟩)
  | .ok t =>
    match s.lgr.holding? t with
    | none => (s, ⟨.notHeld, []⟩)
    | some h => (s.discardHolding h .discard, ⟨.done, h.releasedBody⟩)

end Sys2Proof.Machine
end

