-- ==== Sys2Proof/Machine/Staging.lean ====
section
/-! DEFINITION. The Staging List (chapter 5): acceptance, commit, freeze, withdrawal and discard. -/

namespace Sys2Proof.Machine

/-! ### Shared pieces -/

/-- The first check that fails decides (R91, R107). -/
def firstFailure (checks : List (Option Reply)) : Option Reply := checks.findSome? id

/-- A check: the reply when the condition does not hold. -/
def require (holds : Bool) (reply : Reply) : Option Reply := if holds then none else some reply

/-- The owner of the stream of an edit, while its record stands. -/
def State.editOwner (s : State) (e : Edit) : Option Party := (s.stream? e.stream).map StreamRecord.owner

/-- Whether the stream of an edit is owned by this party. -/
def State.editOwnedBy (s : State) (e : Edit) (p : Party) : Bool := s.editOwner e == some p

/-- Whether the stream of an edit is owned by a station (R109). -/
def State.editStationOwned (s : State) (e : Edit) : Bool :=
  match s.editOwner e with
  | some (.station _) => true
  | _ => false

/-- The station that an edit's outcome is told to: the submitting station, or the station owner of a stream that the
host's edit names (R103, R111). -/
def editRecipient (submitter : Party) (owner : Option Party) : Option Tag :=
  match submitter, owner with
  | .station t, _ => some t
  | .host, some (.station t) => some t
  | .host, _ => none

/-- EDIT_OUTCOME's body (R174). -/
def editOutcomeBody (e : Edit) (o : EditOutcome) : List Byte := be16 e.number.toNat ++ [byteOf e.stream, o.code]

/-- Hands an EDIT_OUTCOME notice to the recipient, while it is PRESENT (R103). -/
def State.tellOutcome (s : State) (recipient : Option Tag) (e : Edit) (o : EditOutcome) : State :=
  match recipient with
  | some t => s.noticeIfPresent t .editOutcome (editOutcomeBody e o)
  | none => s

/-- The number after a given one (R90): 0 and numbers held by pending edits are skipped. The first argument bounds
the search; 18 candidates always hold a free one. -/
def nextNumber (held : List (BitVec 16)) : Nat → BitVec 16 → BitVec 16
  | 0, n => n
  | k + 1, n => if n = 0 ∨ held.contains n then nextNumber held k (n + 1) else n

/-- An accepted edit receives the counter's value and joins the end of the list (R88, R90, R96). -/
def State.acceptEdit (s : State) (p : Party) (op : EditOp) (id : Nat) : State :=
  let edits := s.stg.edits ++ [⟨s.stg.next, p, op, id, s.csq.cycleNumber⟩]
  { s with
    stg := { s.stg with
      edits := edits
      next := nextNumber (edits.map Edit.number) 18 (s.stg.next + 1) } }

/-- STAGED's body: edit number, stream id, edits pending after acceptance, FROZEN (R97); `number` is the counter's
value before the acceptance. -/
def State.stagedReply (s : State) (number : BitVec 16) (id : Nat) : Reply :=
  ⟨.staged, be16 number.toNat ++ [byteOf id, byteOf s.stg.edits.length, flag s.stg.frozen]⟩

/-! ### Acceptance of ADMIT (R91 to R96) -/

/-- The first argument of an ADMIT that is out of range, by its position in the layout (R92). Of several, the one that
stands first in R89's layout, owner and talker ahead of the others (entry 37). -/
def admitRangeField (p : Party) (a : AdmitRequest) : Option Byte :=
  let ownerOk := match p with
    | .host => a.owner.isSome
    | .station _ => a.owner.isNone
  let talkerOk := match p, a.owner with
    | .station _, _ => a.talker.isNone
    | .host, some (.station t) => a.talker.isNone || a.talker == some t
    | .host, _ => a.talker.isSome
  if !ownerOk then some 1
  else if !talkerOk then some 2
  else if Config.channels ≤ a.channel then some 3
  else if a.units < 2 ∨ 512 < a.units then some 4
  else if !([1, 2, 4, 8, 16].contains a.period) then some 5
  else if a.period ≤ a.phase then some 6
  else if a.stop = some 0 then some 8
  else none

/-- The stream that an ADMIT asks for (R63, R92): a station's own tag is owner and talker; a station owner is its
stream's talker; a host-owned stream's talker is the tag the host named. -/
def admitArgs (p : Party) (a : AdmitRequest) : AdmitArgs :=
  let owner := match p with
    | .station t => .station t
    | .host => a.owner.getD .host
  let talker := match owner with
    | .station t => t
    | .host => a.talker.getD 0
  ⟨owner, talker, a.channel, a.units, a.period, a.phase, a.start, a.stop⟩

/-- (start − phase) mod period of a start cycle (R92). -/
def startMisalignment (a : AdmitArgs) : Nat :=
  match a.start with
  | some c => (c - BitVec.ofNat 16 a.phase).toNat % a.period
  | none => 0

/-- The ownership step of an ADMIT (R93). -/
def State.admitOwnership (s : State) (p : Party) (a : AdmitArgs) : Option Reply :=
  match p, a.owner with
  | .station _, _ => require (hasChannel (s.lgr.account p).held a.channel) ⟨.notHeld, [byteOf a.channel]⟩
  | .host, .host => none
  | .host, .station t => require (s.rst.isPresent t) ⟨.noSuchStation, tagBytes t⟩

/-- The ledger step of an ADMIT: the charge first and the bind second, both or neither (R56, R96). -/
def Ledger.chargeAndBind (l : Ledger) (a : AdmitArgs) (id : Nat) : Except Reply Ledger :=
  match l.charge a.owner a.units with
  | none => .error ⟨.overClaim, (l.account a.owner).unitsBody⟩
  | some l1 =>
    match l1.bind a.owner a.channel id with
    | none => .error ⟨.notHeld, [byteOf a.channel]⟩
    | some l2 => .ok l2

/-- A newly created record (R62 to R64). -/
def newRecord (id : Nat) (a : AdmitArgs) : StreamRecord where
  id := id
  owner := a.owner
  talker := a.talker
  channel := a.channel
  units := a.units
  period := a.period
  phase := a.phase
  start := a.start
  stop := a.stop
  state := .staged
  pendingResize := none
  restoreMark := false
  servicesDone := 0
  vacantRun := 0
  vacantTotal := 0
  overlongRun := 0

/-- Places a record among the others by ascending id. -/
def State.addRecord (s : State) (r : StreamRecord) : State :=
  { s with streams := insertBy (fun a b => a.id < b.id) r s.streams }

/-- Steps 1 to 7 of R91 for an ADMIT whose arguments have decoded. -/
def State.admitFailure (s : State) (p : Party) (a : AdmitRequest) : Option Reply :=
  let args := admitArgs p a
  firstFailure
    [require (s.rst.rightsOf p).stream ⟨.notPermitted, []⟩,
     (admitRangeField p a).map (fun f => ⟨.badValue, [f]⟩),
     require (startMisalignment args == 0) ⟨.badPhase, [byteOf (startMisalignment args)]⟩,
     s.admitOwnership p args,
     require s.lowestFree.isSome ⟨.tableFull, []⟩,
     require (s.streams.all (fun r => r.channel != args.channel)) ⟨.channelTaken, [byteOf args.channel]⟩,
     require (s.stg.edits.length < Config.editRoom) ⟨.listFull, [flag s.stg.frozen]⟩]

/-- ADMIT by a party (R91 to R97). -/
def takeAdmit (p : Party) (body : List Byte) (s : State) : State × Reply :=
  match decodeAdmit body with
  | .error f => (s, ⟨.badValue, [f]⟩)
  | .ok a =>
    match s.admitFailure p a with
    | some r => (s, r)
    | none =>
      let args := admitArgs p a
      let id := s.lowestFree.getD 0
      match s.lgr.chargeAndBind args id with
      | .error r => (s, r)
      | .ok l =>
        let s1 := (State.addRecord { s with lgr := l } (newRecord id args)).acceptEdit p (.admitStream args) id
        (s1, s1.stagedReply s.stg.next id)

/-! ### Acceptance of RETIRE, RESIZE, SUSPEND, RESUME (R91 to R96) -/

/-- The edit that a kind asks for on a record; the direction of a RESIZE compares with the units at acceptance (R89). -/
def editOpFor (kind : Kind) (r : StreamRecord) (units : Nat) : EditOp :=
  match kind with
  | .retire => .retire
  | .suspend => .suspend
  | .resume => .resume
  | _ => .resize units (if r.units < units then .up else if units < r.units then .down else .same)

/-- The states in which a kind is accepted (R94). -/
def stateAdmits (kind : Kind) (st : StreamState) : Bool :=
  match kind, st with
  | .resume, .suspended _ => true
  | .resume, _ => false
  | _, .live _ => true
  | _, .waitingStart => true
  | _, .suspended _ => true
  | _, _ => false

/-- The ownership step for an edit of a stream: a station cannot tell a free position from another party's stream
(R93). -/
def State.editPermitted (s : State) (p : Party) (id : Nat) : Bool :=
  match p with
  | .host => true
  | .station _ => (s.stream? id).any (fun r => r.owner == p)

/-- PENDING, naming the edit already pending for the stream by its number and kind (R95, R97); its stream id, which R90
puts beside an edit number, is not in R97's body and is not sent (entry 38). -/
def State.pendingFailure (s : State) (id : Nat) : Option Reply :=
  (s.stg.edits.find? (fun e => e.stream == id)).map
    (fun e => ⟨.pending, be16 e.number.toNat ++ [e.op.kind.code]⟩)

/-- The stream-and-state step (R94). -/
def State.stateFailure (s : State) (kind : Kind) (id : Nat) : Option Reply :=
  match s.stream? id with
  | none => some ⟨.noSuchStream, [byteOf id]⟩
  | some r => require (stateAdmits kind r.state) ⟨.wrongState, stateWithCause r.state⟩

/-- Steps 1 to 7 of R91 for RETIRE, RESIZE, SUSPEND and RESUME; `units` is looked at for RESIZE only. -/
def State.editFailure (s : State) (kind : Kind) (p : Party) (id units : Nat) : Option Reply :=
  firstFailure
    [require (s.rst.rightsOf p).stream ⟨.notPermitted, []⟩,
     require (id < Config.streamPositions) ⟨.badValue, [1]⟩,
     require (kind != .resize || (2 ≤ units && units ≤ 512)) ⟨.badValue, [2]⟩,
     require (s.editPermitted p id) ⟨.notPermitted, []⟩,
     s.stateFailure kind id,
     s.pendingFailure id,
     require (s.stg.edits.length < Config.editRoom) ⟨.listFull, [flag s.stg.frozen]⟩]

/-- The ledger step of an edit of a stream: an upward RESIZE charges the increase (R96). -/
def Ledger.chargeEdit (l : Ledger) (r : StreamRecord) (op : EditOp) : Option Ledger :=
  match op with
  | .resize units .up => l.charge r.owner (units - r.units)
  | _ => some l

/-- The record after an edit of it is accepted: a RESIZE sets the pending resize units (R96). -/
def StreamRecord.staged (r : StreamRecord) (op : EditOp) : StreamRecord :=
  match op with
  | .resize units _ => { r with pendingResize := some units }
  | _ => r

/-- An edit of a stream by a party, its body decoded (R91 to R97). -/
def State.submitEdit (s : State) (kind : Kind) (p : Party) (id units : Nat) : State × Reply :=
  match s.editFailure kind p id units, s.stream? id with
  | some r, _ => (s, r)
  | none, none => (s, ⟨.noSuchStream, [byteOf id]⟩)
  | none, some r =>
    let op := editOpFor kind r units
    match s.lgr.chargeEdit r op with
    | none => (s, ⟨.overClaim, (s.lgr.account r.owner).unitsBody⟩)
    | some l =>
      let s1 := (State.putStream { s with lgr := l } (r.staged op)).acceptEdit p op id
      (s1, s1.stagedReply s.stg.next id)

/-- RETIRE, SUSPEND or RESUME by a party: the body is the stream id. -/
def takeStreamEdit (kind : Kind) (p : Party) (body : List Byte) (s : State) : State × Reply :=
  match decodeByte kind body with
  | .error f => (s, ⟨.badValue, [f]⟩)
  | .ok id => s.submitEdit kind p id.toNat 0

/-- RESIZE by a party: the body is the stream id and the new units. -/
def takeResize (p : Party) (body : List Byte) (s : State) : State × Reply :=
  match decodeByteWord .resize body with
  | .error f => (s, ⟨.badValue, [f]⟩)
  | .ok (id, units) => s.submitEdit .resize p id.toNat units

/-! ### Commit (R99 to R103) -/

/-- The outcome of a start rule (R100, R101). -/
def lateOutcome (late : Bool) : EditOutcome := if late then .lateStart else .applied

/-- Applies an edit at boundary n (R100, R101). -/
def State.commitEdit (s : State) (n : Cycle) (e : Edit) : State × EditOutcome :=
  match s.stream? e.stream with
  | none => (s, .stale)
  | some r =>
    match e.op with
    | .admitStream _ =>
      if r.state = .staged then
        let (st, late) := s.enterService r n
        (s.putStream { r with state := st }, lateOutcome late)
      else (s, .stale)
    | .retire => if r.inService then (s.removeRecord r.id, .applied) else (s, .stale)
    | .resize units direction =>
      if r.inService then
        let s1 := s.putStream { r with units := units, pendingResize := none }
        (if direction = .down then { s1 with lgr := s1.lgr.uncharge r.owner (r.units - units) } else s1, .applied)
      else (s, .stale)
    | .suspend =>
      if r.inService then
        (s.putStream { r with state := .suspended .owner, restoreMark := false }, .applied)
      else (s, .stale)
    | .resume =>
      match r.state with
      | .suspended _ =>
        if s.rst.isPresent r.talker then
          let (st, late) := startRule r.start n
          (s.putStream { r with state := st, vacantRun := 0, overlongRun := 0 }, lateOutcome late)
        else (s.putStream { r with state := .suspended .absent }, .applied)
      | _ => (s, .stale)

/-- Takes the edit at the head of the list out and commits it, with its EDIT_OUTCOME notice (R99, R103). -/
def State.commitHead (s : State) (n : Cycle) (e : Edit) (rest : List Edit) : State × EditOutcome :=
  let recipient := editRecipient e.submitter (s.editOwner e)
  let (s1, o) := State.commitEdit { s with stg := { s.stg with edits := rest } } n e
  (s1.tellOutcome recipient e o, o)

/-- Takes up to so many edits from the head of the list, and lists them with their outcomes in the order taken (R99). -/
def State.commitUpTo (n : Cycle) : Nat → State → State × List (Edit × EditOutcome)
  | 0, s => (s, [])
  | k + 1, s =>
    match s.stg.edits with
    | [] => (s, [])
    | e :: rest =>
      let (s1, o) := s.commitHead n e rest
      let (s2, taken) := State.commitUpTo n k s1
      (s2, (e, o) :: taken)

/-- PLAN_COMMITTED's body (R102). -/
def planCommittedBody (n : Cycle) (taken : List (Edit × EditOutcome)) (pending : Nat) (frozen : Bool) : List Byte :=
  be16 n.toNat ++ countedList (fun x => x.1.entry ++ [x.2.code]) taken ++ [byteOf pending, flag frozen]

/-- The commit of boundary n (R99, R102). -/
def State.commit (s : State) (n : Cycle) : State :=
  if s.stg.frozen then s
  else
    let (s1, taken) := State.commitUpTo n s.cfg.commitLimit s
    if taken.isEmpty then s1
    else s1.offer .planCommitted (planCommittedBody n taken s1.stg.edits.length s1.stg.frozen)

/-! ### Withdrawal and discard (R106 to R111) -/

/-- Undoes the acceptance of an edit on its stream and the ledger, once the edit has left the list (R106). -/
def State.undoEdit (s : State) (e : Edit) : State :=
  match e.op, s.stream? e.stream with
  | .admitStream _, some r => s.removeRecord r.id
  | .resize units direction, some r =>
    let s1 := s.putStream { r with pendingResize := none }
    if direction = .up then { s1 with lgr := s1.lgr.uncharge r.owner (units - r.units) } else s1
  | _, _ => s

/-- Takes an edit out of the list unapplied and undoes it (R106). -/
def State.dropEdit (s : State) (e : Edit) : State :=
  State.undoEdit { s with stg := { s.stg with edits := s.stg.edits.filter (fun x => x.number != e.number) } } e

/-- Discards several edits, in the order of the list. -/
def State.dropEdits (s : State) (edits : List Edit) : State := edits.foldl State.dropEdit s

/-- The causes of EDITS_DISCARDED (12, R201); DEPARTURE names the departing tag. -/
inductive DiscardReason where
  | trunkReset
  | departure (tag : Tag)
  | removal
deriving DecidableEq, Repr

/-- EDITS_DISCARDED's body: cause, presence byte, departing tag, edits (R109, R110, R111). -/
def editsDiscardedBody (why : DiscardReason) (edits : List Edit) : List Byte :=
  (match why with
    | .trunkReset => [0, presence [false]] ++ List.replicate 6 0
    | .departure t => [1, presence [true]] ++ tagBytes t
    | .removal => [2, presence [false]] ++ List.replicate 6 0)
  ++ countedList Edit.entry edits

/-- Offers one EDITS_DISCARDED report if at least one edit was discarded (R109, R110, R111). -/
def State.reportDiscards (s : State) (why : DiscardReason) (edits : List Edit) : State :=
  if edits.isEmpty then s else s.offer .editsDiscarded (editsDiscardedBody why edits)

/-- WITHDRAW(edit number) by a party (R107). -/
def takeWithdraw (p : Party) (body : List Byte) (s : State) : State × Reply :=
  match decodeWord .withdraw body with
  | .error f => (s, ⟨.badValue, [f]⟩)
  | .ok number =>
    if !(s.rst.rightsOf p).stream then (s, ⟨.notPermitted, []⟩)
    else if number = 0 then (s, ⟨.badValue, [1]⟩)
    else
      match s.stg.edits.find? (fun e => e.number.toNat == number) with
      | none => (s, ⟨.noSuchEdit, []⟩)
      | some e =>
        if p ≠ .host ∧ e.submitter ≠ p then (s, ⟨.notPermitted, []⟩)
        else
          let s1 := s.dropEdit e
          let s2 := match p, e.submitter with
            | .host, .station t => s1.noticeIfPresent t .editOutcome (editOutcomeBody e .discarded)
            | _, _ => s1
          (s2, ⟨.done, be16 number ++ [e.op.kind.code, byteOf e.stream, byteOf s2.stg.edits.length]⟩)

/-! ### Freeze (R104) -/

/-- The DONE of FREEZE and THAW: FROZEN after the request, edits pending (R104). -/
def Staging.freezeReply (g : Staging) : Reply := ⟨.done, [flag g.frozen, byteOf g.edits.length]⟩

/-- FREEZE or THAW, by the value it gives FROZEN (R104). -/
def takeFreeze (kind : Kind) (frozen : Bool) (body : List Byte) (s : State) : State × Reply :=
  match decodeNone kind body with
  | .error f => (s, ⟨.badValue, [f]⟩)
  | .ok _ =>
    let s1 := { s with stg := { s.stg with frozen := frozen } }
    (s1, s1.stg.freezeReply)

end Sys2Proof.Machine
end

