-- ==== Sys2Proof/Machine/Roster.lean ====
section
/-! DEFINITION. The Roster (chapter 7): the known-tag list, numbering, departures, and the roster's requests. -/

namespace Sys2Proof.Machine

/-! ### The known-tag list (R142) -/

/-- The entry of a tag moves to the most recent end. -/
def Roster.touch (r : Roster) (t : Tag) : Roster :=
  match r.knownOf t with
  | none => r
  | some k => { r with known := r.known.eraseP (fun x => x.tag == t) ++ [k] }

/-- The entry that a full list gives up: the least recent whose tag is not in the roster. -/
def Roster.evictable (r : Roster) : Option Known := r.known.find? (fun k => !r.holds k.tag)

/-- A new entry joins at the most recent end; a full list evicts first. The tag evicted is answered with it. -/
def Roster.addKnown (r : Roster) (k : Known) : Roster × Option Tag :=
  if r.known.length < Config.knownRoom then ({ r with known := r.known ++ [k] }, none)
  else
    match r.evictable with
    | some v => ({ r with known := r.known.eraseP (fun x => x.tag == v.tag) ++ [k] }, some v.tag)
    | none => (r, none)

/-- Replaces the rights of a tag's entry, in its place. -/
def Roster.putRights (r : Roster) (t : Tag) (rights : Rights) : Roster :=
  { r with known := updateFirst (fun k => k.tag == t) (fun k => { k with rights := rights }) r.known }

/-- Gives a tag these rights: in its entry's place, or in a new entry with no last number (R146, R147). -/
def Roster.giveRights (r : Roster) (t : Tag) (rights : Rights) : Roster × Option Tag :=
  match r.knownOf t with
  | some _ => (r.putRights t rights, none)
  | none => r.addKnown ⟨t, rights, none⟩

/-- A tag has been numbered: its entry records the number and moves to the recent end; a new tag gets an entry with
the default rights (R136 step 2). -/
def Roster.recordNumber (r : Roster) (t : Tag) (number : Nat) (defaults : Rights) : Roster :=
  match r.knownOf t with
  | some k => { r with known := r.known.eraseP (fun x => x.tag == t) ++ [{ k with last := some number }] }
  | none => (r.addKnown ⟨t, defaults, some number⟩).1

/-! ### Numbering (R136) -/

/-- No entry, PRESENT or DEPARTING, holds the number. -/
def Roster.isFree (r : Roster) (n : Nat) : Bool := r.stations.all (fun e => e.number != n)

/-- The lowest free number in 1 to 24. -/
def Roster.lowestFree (r : Roster) : Option Nat := (List.range' 1 Config.rosterRoom).find? r.isFree

/-- The number for a tag that has none: 0 when the roster is full, its last number if that is free, else the lowest
free one. -/
def Roster.numberFor (r : Roster) (t : Tag) : Nat :=
  if Config.rosterRoom ≤ r.stations.length then 0
  else
    match (r.knownOf t).bind Known.last with
    | some n => if r.isFree n then n else r.lowestFree.getD 0
    | none => r.lowestFree.getD 0

/-- A new PRESENT entry (R136 step 1). -/
def newStation (number : Nat) (t : Tag) (epoch : Byte) (cycle : Cycle) : Station :=
  ⟨number, t, .present, epoch, cycle, none, none, false⟩

/-- Places an entry by ascending number (R141). -/
def Roster.addStation (r : Roster) (e : Station) : Roster :=
  { r with stations := insertBy (fun a b => a.number < b.number) e r.stations }

/-- Numbers a tag that holds no number; 0 changes nothing (R136). -/
def State.numberStation (s : State) (t : Tag) : State × Nat :=
  let n := s.rst.numberFor t
  if n = 0 then (s, 0)
  else
    let r := (s.rst.addStation (newStation n t s.rst.epoch s.csq.cycleNumber)).recordNumber t n s.cfg.defaultRights
    ({ s with rst := r }, n)

/-- Hands the Trunk Port NUMBER_ASSIGN(tag, number, epoch) (R136 step 3). -/
def State.assign (s : State) (t : Tag) (number : Nat) : State := s.pushFrame (.assign t number s.rst.epoch)

/-- A tag that holds a number gets it again, and its known-tag entry moves (R137, R143). -/
def State.renumber (s : State) (e : Station) : State := State.assign { s with rst := s.rst.touch e.tag } e.tag e.number

/-- ROLL_ANSWER(tag), its epoch and the queue's room checked (R136, R137). -/
def State.answerRollCall (s : State) (t : Tag) : State :=
  match s.rst.byTag t with
  | some e => s.renumber e
  | none =>
    let (s1, n) := s.numberStation t
    s1.assign t n

/-- STATION_JOINED's body: tag, number, rights, whether a holding exists (R143). -/
def State.joinedBody (s : State) (t : Tag) (number : Nat) : List Byte :=
  tagBytes t ++ [byteOf number, (s.rst.rightsOf (.station t)).byte, flag (s.lgr.holding? t).isSome]

/-- JOIN(tag), its epoch and the queue's room checked (R143). -/
def State.joinStation (s : State) (t : Tag) : State :=
  match s.rst.byTag t with
  | some e => if e.isPresent then s.renumber e else s.assign t 0
  | none =>
    let (s1, n) := s.numberStation t
    if n = 0 then s1.assign t 0
    else (s1.assign t n).offer .stationJoined (s1.joinedBody t n)

/-! ### Departures (R144, R145) -/

/-- Removes a roster entry with all that the Trunk Port keeps in it (R132 step 4, R145, R177). -/
def State.removeEntry (s : State) (number : Nat) : State :=
  { s with
    rst := { s.rst with stations := s.rst.stations.eraseP (fun e => e.number == number) }
    tpt := { s.tpt with parked := s.tpt.parked.filter (fun p => p.number != number) } }

/-- STATION_LEFT's body: tag, former number, cause, units and channels released, streams removed (R145, entry 20). -/
def stationLeftBody (e : Station) (cause : DepartCause) (a : Account) (streams : Nat) : List Byte :=
  tagBytes e.tag ++ [byteOf e.number, cause.code] ++ be16 a.claimed ++ [byteOf (channelCount a.held), byteOf streams]

/-- Completes the departure of a DEPARTING entry (R145). -/
def State.completeDeparture (s : State) (e : Station) : State :=
  match e.state with
  | .present => s
  | .departing cause streams =>
    let a := s.lgr.account (.station e.tag)
    let s1 := State.removeEntry { s with lgr := s.lgr.releaseClaim e.tag } e.number
    State.offer { s1 with rst := s1.rst.touch e.tag } .stationLeft (stationLeftBody e cause a streams)

/-- Completes every departure, in ascending order of number (R145). -/
def State.completeDepartures (s : State) : State := s.rst.stations.foldl State.completeDeparture s

/-- The number of DEPARTING entries. -/
def Roster.departingCount (r : Roster) : Nat := (r.stations.filter (fun e => !e.isPresent)).length

/-- Every entry is removed, in ascending order of number, and its tag's known-tag entry moves (R132 step 4, R140). -/
def State.clearRoster (s : State) : State :=
  { s with
    rst := { s.rst.stations.foldl (fun r e => r.touch e.tag) s.rst with stations := [], rollPeriod := 0 }
    tpt := { s.tpt with parked := [] } }

/-- The tag owns the record and its departure takes the record out of service (R74, R145). -/
def StreamRecord.leavesWith (r : StreamRecord) (t : Tag) : Bool :=
  r.owner == .station t && (r.inService || r.state == .staged)

/-- The number of streams that a departure of the tag takes: made RETIRING, or removed as STAGED (R145). -/
def State.departingStreams (s : State) (t : Tag) : Nat := (s.streams.filter (fun r => r.leavesWith t)).length

/-- A record of a departing owner that is in service enters RETIRING(DEPARTURE), its marks cleared (R74). -/
def StreamRecord.depart (r : StreamRecord) (t : Tag) : StreamRecord :=
  if r.owner = .station t ∧ r.inService then { r with state := .retiring .departure, restoreMark := false } else r

/-- A PRESENT station becomes DEPARTING: its streams' edits are discarded, its STAGED records removed and its other
streams made RETIRING (R110, R74, R144 steps 1 to 3). -/
def State.beginDeparture (s : State) (e : Station) (cause : DepartCause) : State :=
  let edits := s.stg.edits.filter (fun x => s.editOwnedBy x (.station e.tag))
  let count := s.departingStreams e.tag
  let s1 := { s with rst := s.rst.update e.number (fun x => { x with state := .departing cause count }) }
  let s2 := s1.dropEdits edits
  State.reportDiscards { s2 with streams := s2.streams.map (fun r => r.depart e.tag) } (.departure e.tag) edits

/-- LEAVE by the station in this entry (R144): streams to be removed, claimed units, held channels. -/
def takeLeave (e : Station) (body : List Byte) (s : State) : State × Reply :=
  match decodeNone .leave body with
  | .error f => (s, ⟨.badValue, [f]⟩)
  | .ok _ =>
    let a := s.lgr.account (.station e.tag)
    (s.beginDeparture e .leave,
      ⟨.done, byteOf (s.departingStreams e.tag) :: be16 a.claimed ++ setBytes a.held⟩)

/-- EVICT of a PRESENT station: the CLAIM_RELEASED notice first, then the departure (R146). -/
def State.evictPresent (s : State) (e : Station) : State :=
  let a := s.lgr.account (.station e.tag)
  (s.handNotice e.number .claimReleased
    (claimReleasedBody 1 a.claimed a.held (s.departingStreams e.tag))).beginDeparture e .evict

/-- The action of an EVICT, by the tag's standing (R146). -/
def State.evict (s : State) (t : Tag) : State × Reply :=
  match s.rst.byTag t with
  | some e => (if e.isPresent then s.evictPresent e else s, ⟨.done, [byteOf e.number]⟩)
  | none =>
    match s.lgr.holding? t with
    | some h => (s.discardHolding h .evict, ⟨.done, h.releasedBody⟩)
    | none => (s, ⟨.noSuchStation, []⟩)

/-- EVICT(tag, bar): when the outcome is DONE and bar is set, the tag's rights become none (R146). -/
def takeEvict (body : List Byte) (s : State) : State × Reply :=
  match decodeEvict body with
  | .error f => (s, ⟨.badValue, [f]⟩)
  | .ok (t, bar) =>
    let (s1, reply) := s.evict t
    (if bar ∧ reply.code = .done then { s1 with rst := (s1.rst.giveRights t .nothing).1 } else s1, reply)

/-! ### SET_RIGHTS and ROSTER_READ -/

/-- SET_RIGHTS(tag, rights) (R147): a presence byte, the previous rights, the tag evicted. -/
def takeSetRights (body : List Byte) (s : State) : State × Reply :=
  match decodeSetRights body with
  | .error f => (s, ⟨.badValue, [f]⟩)
  | .ok (t, rights) =>
    let previous := (s.rst.knownOf t).map Known.rights
    let (r, evicted) := s.rst.giveRights t rights
    ({ s with rst := r },
      ⟨.done, [presence [previous.isSome, evicted.isSome], (previous.map Rights.byte).getD 0]
        ++ tagBytes (evicted.getD 0)⟩)

/-- The departure cause of an entry; absent while PRESENT (R141). -/
def Station.cause? (e : Station) : Option DepartCause :=
  match e.state with
  | .present => none
  | .departing c _ => some c

/-- An entry of ROSTER_READ(ROSTER) (R148). -/
def State.rosterLine (s : State) (e : Station) : List Byte :=
  byteOf e.number :: tagBytes e.tag
  ++ [(if e.isPresent then 0 else 1), presence [e.cause?.isSome], optionalCode DepartCause.code e.cause?, e.joinedEpoch]
  ++ be16 e.joinedCycle.toNat
  ++ [byteOf (s.tpt.parked.filter (fun p => p.number == e.number)).length, flag e.dropped]

/-- An entry of ROSTER_READ(KNOWN) (R148). -/
def Roster.knownLine (r : Roster) (k : Known) : List Byte :=
  tagBytes k.tag ++ [k.rights.byte, presence [k.last.isSome], byteOf (k.last.getD 0), flag (r.holds k.tag)]

/-- A page of up to 16 entries of a list (R148). -/
def State.rosterPage (s : State) (lines : List (List Byte)) (first : Nat) : Reply :=
  if lines.length < first then ⟨.badValue, [byteOf lines.length]⟩
  else
    let page := (lines.drop first).take 16
    ⟨.done, [s.rst.epoch, s.csq.partState.code, byteOf lines.length, flag (first + page.length < lines.length),
      byteOf page.length] ++ page.flatten⟩

/-- ROSTER_READ(list, first index) (R148). -/
def takeRosterRead (body : List Byte) (s : State) : Reply :=
  match decodeRosterRead body with
  | .error f => ⟨.badValue, [f]⟩
  | .ok (known, first) =>
    s.rosterPage (if known then s.rst.known.map s.rst.knownLine else s.rst.stations.map s.rosterLine) first

end Sys2Proof.Machine
end

