-- ==== Sys2Proof/Machine/Boundary.lean ====
section
/-! DEFINITION. The boundary (R24): the Stream Table's boundary work (R83), the slot list (R20, R113), the plan
generation (R25), the header (R19) and the observation list (R114). -/

namespace Sys2Proof.Machine

/-! ### Step 1: removals and departures (R75, R145) -/

/-- The cause that the announcement of a removal carries (R84). -/
def RetireCause.change : RetireCause → ChangeCause
  | .stopCount => .stopCount
  | .departure => .departure

/-- Removes a RETIRING record and announces it (R75, R77, R84). -/
def State.removeRetiring (r : StreamRecord) (s : State) : State :=
  match r.state with
  | .retiring cause => (s.removeRecord r.id).announce r none cause.change false
  | _ => s

/-- The edits still pending for RETIRING records, each with the station its discard is told to (R111), in the order of the
staging list (entry 14). -/
def State.strandedEdits (s : State) : List (Edit × Option Tag) :=
  (s.stg.edits.filter (fun e => (s.stream? e.stream).any StreamRecord.isRetiring)).map
    (fun e => (e, editRecipient e.submitter (s.editOwner e)))

/-- Hands the DISCARDED notices of the edits that removals took with them (R111). -/
def State.tellDiscards (s : State) (l : List (Edit × Option Tag)) : State :=
  l.foldl (fun s x => s.tellOutcome x.2 x.1 .discarded) s

/-- Step 1: every RETIRING record is removed, the edits removed with them are reported, and departures complete
(R83, R111, R145). -/
def State.removals (s : State) : State :=
  let stranded := s.strandedEdits
  let s1 := s.eachStream State.removeRetiring
  ((s1.reportDiscards .removal (stranded.map Prod.fst)).tellDiscards stranded).completeDepartures

/-! ### Steps 2 to 6 -/

/-- Step 2: a host-owned LIVE or WAITING_START stream whose talker departed becomes SUSPENDED(ABSENT) (R74). -/
def State.suspendDeparted (departed : List Tag) (r : StreamRecord) (s : State) : State :=
  if r.owner = .host ∧ departed.contains r.talker then
    match r.state with
    | .live _ => s.changeState r (.suspended .absent) .talkerAbsent false
    | .waitingStart => s.changeState r (.suspended .absent) .talkerAbsent false
    | _ => s
  else s

/-- The VACANCY mark of a LIVE stream, brought into line with vacancy_limit (R125). -/
def reevaluate (limit run : Nat) (mark : Option Mark) : Option Mark :=
  match mark with
  | some .overlong => some .overlong
  | _ => if limit ≠ 0 ∧ limit ≤ run then some .vacancy else none

/-- The suspension that a mark stands for (R73). -/
def Mark.suspendCause : Mark → SuspendCause
  | .vacancy => .vacancy
  | .overlong => .overlong

/-- The cause that the announcement of a suspension by mark carries (R84). -/
def Mark.change : Mark → ChangeCause
  | .vacancy => .vacancy
  | .overlong => .overlong

/-- Step 3: marks are re-evaluated (R125), then applied (R73). -/
def State.applyMark (r : StreamRecord) (s : State) : State :=
  match r.state with
  | .live mark =>
    match reevaluate s.cfg.vacancyLimit r.vacantRun mark with
    | some m => s.changeState r (.suspended m.suspendCause) m.change false
    | none => s.putStream { r with state := .live none }
  | _ => s

/-- Step 4: a record with the restore mark completes its restoration (R81). -/
def State.restore (n : Cycle) (r : StreamRecord) (s : State) : State :=
  if r.restoreMark then
    let r1 := { r with restoreMark := false }
    match r.state with
    | .live _ => let (st, late) := s.enterService r n; s.changeState r1 st .restored late
    | .waitingStart => let (st, late) := s.enterService r n; s.changeState r1 st .restored late
    | st => s.changeState r1 st .restored false
  else s

/-- Step 5: a WAITING_START stream whose start cycle is n is activated (R70). -/
def State.activate (n : Cycle) (r : StreamRecord) (s : State) : State :=
  if r.state = .waitingStart ∧ r.start = some n then
    s.changeState r (if s.rst.isPresent r.talker then .live none else .suspended .absent) .activated false
  else s

/-- Step 6: a host-owned SUSPENDED(ABSENT) stream whose talker is PRESENT is restored (R76). -/
def State.returnTalker (n : Cycle) (r : StreamRecord) (s : State) : State :=
  if r.owner = .host ∧ r.state = .suspended .absent ∧ s.rst.isPresent r.talker then
    let (st, late) := startRule r.start n
    s.changeState r st .talkerPresent late
  else s

/-- The tags of DEPARTING stations. -/
def Roster.departing (r : Roster) : List Tag := (r.stations.filter (fun e => !e.isPresent)).map Station.tag

/-- The Stream Table's boundary work, with the Roster's departures in it, in the order of R83. A projection takes
step 3 at its first boundary only (R116). -/
def State.boundaryWork (s : State) (n : Cycle) (marks : Bool) : State :=
  let departed := s.rst.departing
  let s1 := s.removals
  let s2 := s1.eachStream (State.suspendDeparted departed)
  let s3 := if marks then s2.eachStream State.applyMark else s2
  let s4 := s3.eachStream (State.restore n)
  let s5 := s4.eachStream (State.activate n)
  s5.eachStream (State.returnTalker n)

/-! ### The slot list (R20, R113) -/

/-- Plan order: ascending period, then ascending channel. -/
def planBefore (a b : StreamRecord) : Bool := a.period < b.period || (a.period == b.period && a.channel < b.channel)

/-- The LIVE streams due in cycle n, in plan order. -/
def State.dueStreams (s : State) (n : Cycle) : List StreamRecord :=
  sortBy planBefore (s.streams.filter (fun r => r.isLive && r.dueIn n))

/-- Gives each stream its start offset: the first at `pos`, each other at the end of the one before (R20). -/
def layOut (r : Roster) : Nat → List StreamRecord → List SlotEntry
  | _, [] => []
  | pos, x :: l =>
    ⟨x.id, x.channel, (r.presentNumber x.talker).getD 0, pos, x.units⟩ :: layOut r (pos + x.units) l

/-- The slot list of cycle n (R20). -/
def State.slotList (s : State) (n : Cycle) : List SlotEntry :=
  layOut s.rst (headerUnits (s.dueStreams n).length) (s.dueStreams n)

/-- The open-window offset h + U of a slot list (R17, R20). -/
def windowOffset (entries : List SlotEntry) : Nat :=
  headerUnits entries.length + (entries.map SlotEntry.units).sum

/-! ### The plan generation (R25) -/

/-- The LIVE streams as the plan basis holds them. -/
def State.basisNow (s : State) : List BasisEntry :=
  (s.streams.filter StreamRecord.isLive).map (fun r => ⟨r.id, r.units, r.period, r.phase⟩)

/-- A stream is LIVE now that the basis lacks, or holds with other values, or the basis holds one that is not LIVE as
it stands there. -/
def planChanged (old new : List BasisEntry) : Bool :=
  new.any (fun b => !old.contains b) || old.any (fun b => !new.contains b)

/-! ### The boundary (R24) -/

/-- The header of cycle n (R19). -/
def State.headerOf (s : State) (n : Cycle) (generation : Byte) (entries : List SlotEntry) (timing : Timing)
    (stretch : Nat) : Header :=
  ⟨s.rst.epoch, n, generation, entries, windowOffset entries, timing, stretch, s.csq.lateRun⟩

/-- The slot list is formed, the generation updated, the header sent, and the observation list replaced (R19, R20,
R25, R114). -/
def State.formPlan (s : State) (n : Cycle) (timing : Timing) (stretch : Nat) : State :=
  let entries := s.slotList n
  let basis := s.basisNow
  let generation := if planChanged s.csq.basis basis then s.csq.generation + 1 else s.csq.generation
  { s with
    csq := { s.csq with generation := generation, basis := basis, plan := entries, phase := .slots }
    svw := entries.map (fun e => ⟨e, .pending⟩)
    tpt := { s.tpt with
      share := none, edge := false
      sending := some (.header (s.headerOf n generation entries timing stretch)) } }

/-- Boundary n is raised (R23, R24): commit, boundary work, countdown, plan and header. -/
def State.boundary (s : State) (timing : Timing) (stretch : Nat) : State :=
  let n := s.csq.nextCycle
  let s1 := { s with csq := { s.csq with lastCycle := some n } }
  (((s1.commit n).boundaryWork n true).countDown).formPlan n timing stretch

end Sys2Proof.Machine
end

