-- ==== Sys2Proof/Machine/TrunkReset.lean ====
section
/-! DEFINITION. The trunk reset (R3, R79, R109, R132, R133), its meeting with a pending halt (R6), and the
abandonment of a roll call (R5, R140). -/

namespace Sys2Proof.Machine

/-! ### Streams and edits (R79, R109) -/

/-- The edits that a trunk reset discards: those of station-owned streams and of RETIRING records (R109). -/
def State.resetDiscards (s : State) : List Edit :=
  s.stg.edits.filter (fun e => s.editStationOwned e || (s.stream? e.stream).any StreamRecord.isRetiring)

/-- The ids of RETIRING records. -/
def State.retiringIds (s : State) : List Nat := (s.streams.filter StreamRecord.isRetiring).map StreamRecord.id

/-- The saved state of a record that enters HELD: the state held, cause included (R79). -/
def StreamState.saved : StreamState → SavedState
  | .live _ => .live
  | .suspended c => .suspended c
  | _ => .waitingStart

/-- What a trunk reset makes of a record that it keeps (R79). -/
def StreamRecord.atTrunkReset (r : StreamRecord) : StreamRecord :=
  match r.owner with
  | .station _ =>
    if r.inService then
      { r with state := .held r.state.saved, restoreMark := false, vacantRun := 0, overlongRun := 0 }
    else r
  | .host =>
    match r.state with
    | .live _ => { r with state := .suspended .absent }
    | .waitingStart => { r with state := .suspended .absent }
    | _ => r

/-- Removals, departures, discards and the changes of the records kept, ahead of the conversion (R79, R109, R132
step 2). -/
def State.resetStreams (s : State) : State :=
  let discards := s.resetDiscards
  let s1 := (s.removeRecords s.retiringIds).completeDepartures
  let left := s1.stg.edits.filter s1.editStationOwned
  let s2 := (s1.dropEdits left).reportDiscards .trunkReset discards
  { s2 with streams := s2.streams.map StreamRecord.atTrunkReset }

/-! ### The blocks' shares -/

/-- The tags of PRESENT stations, by ascending number (R132 step 3). -/
def Roster.presentTags (r : Roster) : List Tag := (r.stations.filter Station.isPresent).map Station.tag

/-- The Cycle Sequencer's share: the cycle ends where it stands and the part enters STARTING (R3). -/
def Sequencer.enterStarting (q : Sequencer) : Sequencer :=
  { q with partState := .starting, lateRun := 0, phase := .none, plan := [] }

/-- The Trunk Port's share (R133): the queue is emptied, what is being sent is cut off, and the detector begins
afresh, the burst that caused the reset counted. -/
def TrunkPort.atTrunkReset (t : TrunkPort) : TrunkPort :=
  { t with outbound := [], share := none, sending := none, edge := false,
           burst := if t.burst = Config.burstUnits then Config.burstUnits else 0 }

/-- TRUNK_RESET's body: cause, part state, previous epoch, new epoch, stations cleared, departures completed (R134). -/
def trunkResetBody (cause : ResetCause) (was : PartState) (previous new : Byte) (cleared departures : Nat) : List Byte :=
  [cause.code, was.code, previous, new, byteOf cleared, byteOf departures]

/-- The epoch increments (R132 step 1). -/
def State.nextEpoch (s : State) : State := { s with rst := { s.rst with epoch := s.rst.epoch + 1 } }

/-- A trunk reset, every block's share in order (R3, R132, R133). -/
def State.trunkReset (s : State) (cause : ResetCause) : State :=
  let s1 := s.nextEpoch.resetStreams
  let s2 := (s1.convertClaims s1.rst.presentTags).openWindow.clearRoster
  let s3 := { s2 with csq := s2.csq.enterStarting, svw := [], tpt := s2.tpt.atTrunkReset }
  s3.offer .trunkReset
    (trunkResetBody cause s.csq.partState s.rst.epoch s3.rst.epoch s1.rst.stations.length s.rst.departingCount)

/-! ### Waiters -/

/-- The owner answers a request of the outstanding-request table (R183). -/
def State.answer (s : State) (tag : Byte) (r : Reply) : State := { s with hlk := s.hlk.answer tag r }

/-- Answers every start waiter, in order of receipt, and empties the list (R4, R5). -/
def State.answerStarts (s : State) (r : Reply) : State :=
  { s with hlk := s.hlk.answerEach s.csq.startWaiters r, csq := { s.csq with startWaiters := [] } }

/-- HALT's DONE: the number of the last cycle opened (R5, entry 13). -/
def State.haltReply (s : State) : Reply := ⟨.done, be16 s.csq.cycleNumber.toNat⟩

/-- Answers every halt waiter DONE, in order of receipt, and empties the list (R5). -/
def State.answerHalts (s : State) : State :=
  { s with hlk := s.hlk.answerEach s.csq.haltWaiters s.haltReply, csq := { s.csq with haltWaiters := [] } }

/-- The part enters HALTED: no cycle and nothing on the trunk (R5, R31, R178). -/
def State.enterHalted (s : State) : State :=
  { s with
    csq := { s.csq with partState := .halted, phase := .none }
    tpt := { s.tpt with share := none, sending := none, burst := 0, edge := false } }

/-- The roll call is abandoned by a HALT: departures complete, the roster is left empty, the start waiters are answered
ABORTED and the part enters HALTED (R5, R140). -/
def State.abandonRollCall (s : State) : State := (s.completeDepartures.clearRoster.answerStarts ⟨.aborted, []⟩).enterHalted

/-- A trunk reset cause taken in a part that it reaches; halt waiters then act as a HALT taken in STARTING (R3, R6). -/
def State.takeCause (s : State) (cause : ResetCause) : State :=
  let s1 := s.trunkReset cause
  if s.csq.haltPending then s1.abandonRollCall.answerHalts else s1

end Sys2Proof.Machine
end

