-- ==== Sys2Proof/Machine/Control.lean ====
section
/-! DEFINITION. Control requests and the configuration record (chapter 1), and the acknowledgement of reports
(11.4). A request whose reply waits answers none. -/

namespace Sys2Proof.Machine

/-! ### CONFIGURE (R9 to R11) -/

/-- Step 1 of R9: the first field that repeats an earlier one. -/
def firstRepeated : List Nat → List ConfigField → Option Nat
  | _, [] => none
  | seen, f :: l => if seen.contains f.field then some f.field else firstRepeated (f.field :: seen) l

/-- A value lies in its field's range (R8, R9 step 2, R202). -/
def ConfigField.inRange (f : ConfigField) : Bool :=
  match f.field with
  | 1 => f.value ≤ Config.budgetMax
  | 2 => 64 ≤ f.value && f.value ≤ 4096
  | 4 => 1 ≤ f.value && f.value ≤ 8
  | 7 => f.value / 2048 == 1
  | _ => true

/-- The value that a request carries for a field. -/
def fieldValue (fields : List ConfigField) (id : Nat) : Option Nat :=
  (fields.find? (fun f => f.field == id)).map ConfigField.value

/-- Sets one field. -/
def ConfigRecord.set (c : ConfigRecord) (f : ConfigField) : ConfigRecord :=
  match f.field with
  | 1 => { c with budget := f.value }
  | 2 => { c with reclaimWindow := f.value }
  | 3 => { c with vacancyLimit := f.value }
  | 4 => { c with commitLimit := f.value }
  | 5 => { c with remoteRequests := f.value == 1 }
  | 6 => { c with defaultRights := (Rights.ofByte (byteOf f.value)).getD c.defaultRights }
  | 7 => { c with reportMask := BitVec.ofNat 12 f.value }
  | _ => c

/-- Units that claim records and holdings have between them, the least budget that can pass (R10). -/
def Ledger.usedUnits (l : Ledger) : Nat := l.claimedTotal + l.holdingTotal

/-- The refusal of a CONFIGURE whose body has been read, if a step of R9 fails. -/
def State.configureFailure (s : State) (fields : List ConfigField) (how : ConfigEnd) : Option Reply :=
  match how with
  | .undecodable id => some ⟨.badValue, [id]⟩
  | _ =>
    match firstRepeated [] fields, how with
    | some id, _ => some ⟨.badValue, [byteOf id]⟩
    | none, .unknown id => some ⟨.badValue, [id]⟩
    | none, _ =>
      match fields.find? (fun f => !f.inRange) with
      | some f => some ⟨.badValue, [byteOf f.field]⟩
      | none =>
        match fieldValue fields 1 with
        | some b => if b < s.lgr.usedUnits then some ⟨.inUse, be16 s.lgr.usedUnits⟩ else none
        | none => none

/-- An accepted CONFIGURE sets every field at once: FREE_UNITS moves with the budget (R10), and the mask view takes a
report_mask that the request carries (R192). -/
def State.configure (s : State) (fields : List ConfigField) : State :=
  let cfg := fields.foldl ConfigRecord.set s.cfg
  { s with
    cfg := cfg
    lgr := { s.lgr with freeUnits := s.lgr.freeUnits + cfg.budget - s.cfg.budget }
    rpu := { s.rpu with mask := if (fieldValue fields 7).isSome then cfg.reportMask else s.rpu.mask } }

/-- CONFIGURE (R9). -/
def takeConfigure (body : List Byte) (s : State) : State × Reply :=
  let (fields, how) := configPairs body
  match s.configureFailure fields how with
  | some r => (s, r)
  | none => (s.configure fields, ⟨.done, (s.configure fields).cfg.pairs⟩)

/-- READ_CONFIG (R12). -/
def takeReadConfig (body : List Byte) (s : State) : Reply :=
  match decodeNone .readConfig body with
  | .error f => ⟨.badValue, [f]⟩
  | .ok _ => ⟨.done, s.cfg.pairs⟩

/-! ### STATUS (R13) -/

/-- The values of R13, in its order. -/
def State.statusBody (s : State) : List Byte :=
  [s.csq.partState.code, flag s.csq.haltPending] ++ be16 s.csq.cycleNumber.toNat
  ++ [s.rst.epoch, s.csq.generation] ++ be16 s.lgr.freeUnits
  ++ [byteOf (channelCount s.lgr.freeChannels), byteOf s.stg.edits.length, flag s.stg.frozen, s.windowCode]
  ++ be16 s.rcu.remaining ++ [byteOf s.rst.stations.length, byteOf s.rpu.queue.length, byteOf s.csq.lateRun]

/-- STATUS (R13). -/
def takeStatus (body : List Byte) (s : State) : Reply :=
  match decodeNone .status body with
  | .error f => ⟨.badValue, [f]⟩
  | .ok _ => ⟨.done, s.statusBody⟩

/-! ### START, TRUNK_RESET, HALT, RESET -/

/-- A tag joins the start waiters (R2, R3). -/
def State.waitStart (s : State) (tag : Byte) : State :=
  { s with csq := { s.csq with startWaiters := s.csq.startWaiters ++ [tag] } }

/-- START (R2). -/
def takeStart (tag : Byte) (body : List Byte) (s : State) : State × Option Reply :=
  match decodeNone .start body with
  | .error f => (s, some ⟨.badValue, [f]⟩)
  | .ok _ =>
    match s.csq.partState with
    | .quiescent => ((s.waitStart tag).trunkReset .start, none)
    | .halted => ((s.waitStart tag).trunkReset .start, none)
    | .starting => (s, some ⟨.wrongState, []⟩)
    | .running => (s, some ⟨.wrongState, []⟩)

/-- TRUNK_RESET (R3, R6). -/
def takeTrunkReset (tag : Byte) (body : List Byte) (s : State) : State × Option Reply :=
  match decodeNone .trunkReset body with
  | .error f => (s, some ⟨.badValue, [f]⟩)
  | .ok _ =>
    match s.csq.partState with
    | .quiescent => (s, some ⟨.notRunning, []⟩)
    | .halted => (s, some ⟨.notRunning, []⟩)
    | .starting => ((s.waitStart tag).takeCause .trunkReset, none)
    | .running => ((s.waitStart tag).takeCause .trunkReset, none)

/-- HALT (R5, R30). -/
def takeHalt (tag : Byte) (body : List Byte) (s : State) : State × Option Reply :=
  match decodeNone .halt body with
  | .error f => (s, some ⟨.badValue, [f]⟩)
  | .ok _ =>
    match s.csq.partState with
    | .quiescent => (s, some s.haltReply)
    | .halted => (s, some s.haltReply)
    | .starting => (s.abandonRollCall, some s.haltReply)
    | .running =>
      if s.csq.phase = .stretch then (s.enterHalted, some s.haltReply)
      else ({ s with csq := { s.csq with haltWaiters := s.csq.haltWaiters ++ [tag] } }, none)

/-- The requests still WAITING, but for the one with this tag, in order of receipt (R7, R188). -/
def HostLink.otherWaiting (h : HostLink) (tag : Byte) : List Byte :=
  (h.table.filter (fun e => e.isWaiting && e.tag != tag)).map TableEntry.tag

/-- The phase after RESET is taken: a stretch is abandoned (R30). -/
def CyclePhase.afterReset (p : CyclePhase) : CyclePhase := if p = .stretch then .none else p

/-- RESET (R7, R188): the others are answered ABORTED, and nothing is judged until the soft reset. -/
def takeReset (tag : Byte) (body : List Byte) (s : State) : State × Option Reply :=
  match decodeNone .reset body with
  | .error f => (s, some ⟨.badValue, [f]⟩)
  | .ok _ =>
    ({ s with
        hlk := { s.hlk.answerEach (s.hlk.otherWaiting tag) ⟨.aborted, []⟩ with resetting := some tag }
        csq := { s.csq with startWaiters := [], haltWaiters := [], phase := s.csq.phase.afterReset } },
      some ⟨.done, [s.csq.partState.code]⟩)

/-! ### REPORT_ACK (R195, R196) -/

/-- A record that is SENT. -/
def ReportRecord.isSent (r : ReportRecord) : Bool := r.state != .waiting

/-- BAD_VALUE's body: a presence byte, the sequences of the oldest and newest SENT records (R195). -/
def Reports.ackBody (r : Reports) : List Byte :=
  let sent := (r.queue.filter ReportRecord.isSent).map ReportRecord.seq
  [presence [!sent.isEmpty, !sent.isEmpty], sent.headD 0, sent.getLastD 0]

/-- A queued OVERFLOW record carries the count and clears it and the marker (R196). -/
def Reports.queueOverflow (r : Reports) (cycle : Cycle) (epoch : Byte) : Reports :=
  if r.marker then
    { r.enqueue .overflow cycle epoch [byteOf r.lost] with marker := false, lost := 0 }
  else r

/-- Acknowledges the first so many records (R195). -/
def State.acknowledge (s : State) (count : Nat) : State :=
  let r := { s.rpu with queue := s.rpu.queue.drop count }
  { s with rpu := r.queueOverflow s.csq.cycleNumber s.rst.epoch }

/-- REPORT_ACK(seq) (R195). -/
def takeReportAck (body : List Byte) (s : State) : State × Reply :=
  match body with
  | [seq] =>
    match s.rpu.queue.findIdx? (fun r => r.isSent && r.seq == seq) with
    | none => (s, ⟨.badValue, s.rpu.ackBody⟩)
    | some i =>
      let s1 := s.acknowledge (i + 1)
      (s1, ⟨.done, [byteOf (i + 1), byteOf s1.rpu.queue.length]⟩)
  | _ => (s, ⟨.badValue, s.rpu.ackBody⟩)

end Sys2Proof.Machine
end

