-- ==== Sys2Proof/Machine/Plan.lean ====
section
/-! DEFINITION. Reading the plan ahead and watching the slots (chapter 6). -/

namespace Sys2Proof.Machine

/-! ### The projection (R116) -/

/-- A LIVE stream due in cycle n counts one projected service, and is RETIRING after the one that reaches its stop
count. -/
def StreamRecord.projectService (n : Cycle) (r : StreamRecord) : StreamRecord :=
  if r.isLive && r.dueIn n then
    let done := min 65535 (r.servicesDone + 1)
    if r.stop = some done then { r with servicesDone := done, state := .retiring .stopCount }
    else { r with servicesDone := done }
  else r

/-- The slot list of the cycle so many boundaries after the one that opens n, on a working copy; `marks` says that
the boundary of n is the first projected one. -/
def State.project (marks : Bool) (n : Cycle) : Nat → State → List SlotEntry
  | 0, s => (s.boundaryWork n marks).slotList n
  | k + 1, s =>
    let s1 := s.boundaryWork n marks
    State.project false (n + 1) k { s1 with streams := s1.streams.map (StreamRecord.projectService n) }

/-- The projected slot list of an offset of 1 to 15 (R115, R116). -/
def State.projected (s : State) (offset : Nat) : List SlotEntry := s.project true s.csq.nextCycle (offset - 1)

/-! ### PLAN_READ (R115, R117) -/

/-- The target cycle of an offset; none for offset 0 with no cycle opened (R115). -/
def Sequencer.target (q : Sequencer) (offset : Nat) : Option Cycle :=
  if offset = 0 then q.lastCycle else some (q.nextCycle + BitVec.ofNat 16 (offset - 1))

/-- A slot entry's five fields (R117). -/
def SlotEntry.line (e : SlotEntry) : List Byte :=
  [byteOf e.stream, byteOf e.channel, byteOf e.talker] ++ be16 e.offset ++ be16 e.units

/-- A slot list with the lines that its page is cut from (R117); a line of a projected list has no observation byte
(entry 48). -/
def State.planLines (s : State) (offset : Nat) : List SlotEntry × List (List Byte) :=
  if offset = 0 then (s.csq.plan, List.zipWith (fun e o => e.line ++ [o.seen.code]) s.csq.plan s.svw)
  else (s.projected offset, (s.projected offset).map SlotEntry.line)

/-- The reply to a PLAN_READ whose offset is in range (R115, R117). -/
def State.planReply (s : State) (offset first : Nat) : Reply :=
  let (entries, lines) := s.planLines offset
  let target := s.csq.target offset
  if entries.length < first then ⟨.badValue, [byteOf entries.length]⟩
  else
    let page := (lines.drop first).take 24
    ⟨.done, [(if offset = 0 then 0 else 1), presence [target.isSome]] ++ be16 (target.getD 0).toNat
      ++ [s.csq.partState.code, s.csq.generation, byteOf entries.length, byteOf (headerUnits entries.length),
        byteOf page.length]
      ++ page.flatten ++ [flag (first + page.length < entries.length)] ++ be16 (windowOffset entries)
      ++ [byteOf s.stg.edits.length, flag s.stg.frozen]⟩

/-- PLAN_READ(offset, first index) (R115); the offset in cycles is read from one byte (entry 40). -/
def takePlanRead (body : List Byte) (s : State) : Reply :=
  match decodeByteByte .planRead body with
  | .error f => ⟨.badValue, [f]⟩
  | .ok (offset, first) =>
    if 15 < offset.toNat then ⟨.badValue, [1]⟩ else s.planReply offset.toNat first.toNat

/-! ### Slot observation (R118 to R124) -/

/-- The outcome of a slot (R118, R204): what matters of a transmission whose opening names the entry's talker and
channel is whether it still holds the line, and if not, whether it is a whole frame whose check passes. -/
def SlotEntry.judge (e : SlotEntry) : SlotSeen → Observation
  | .nothing => .vacant
  | .transmission bytes busyAtEnd =>
    match slotOpening bytes with
    | none => .vacant
    | some (sender, channel) =>
      if sender.toNat = e.talker ∧ channel.toNat = e.channel then
        if busyAtEnd then .overlong else if isWholeFrame bytes then .served else .vacant
      else .vacant

/-- Services done and the outcome's counters (R122 steps 1 and 2). -/
def StreamRecord.tally (r : StreamRecord) (o : Observation) : StreamRecord :=
  let r1 := { r with servicesDone := min 65535 (r.servicesDone + 1) }
  match o with
  | .served => { r1 with vacantRun := 0, overlongRun := 0 }
  | .vacant => { r1 with vacantRun := min 255 (r.vacantRun + 1), vacantTotal := min 65535 (r.vacantTotal + 1) }
  | .overlong => { r1 with vacantRun := 0, overlongRun := min Config.overlongLimit (r.overlongRun + 1) }
  | _ => r1

/-- The mark tests after a counted observation (R123, R124). -/
def StreamRecord.markAfter (limit : Nat) (r : StreamRecord) (o : Observation) : StreamRecord :=
  if o = .vacant ∧ limit ≠ 0 ∧ limit ≤ r.vacantRun then { r with state := .live (some .vacancy) }
  else if o = .overlong ∧ r.overlongRun = Config.overlongLimit then { r with state := .live (some .overlong) }
  else r

/-- The stream enters RETIRING(STOP_COUNT) (R72). -/
def StreamRecord.stopCount (r : StreamRecord) : StreamRecord := { r with state := .retiring .stopCount }

/-- A counted observation of a LIVE stream, as one act (R122). -/
def StreamRecord.count (limit : Nat) (r : StreamRecord) (o : Observation) : StreamRecord :=
  let r1 := r.tally o
  if r1.stop = some r1.servicesDone then r1.stopCount else r1.markAfter limit o

/-- The slot next to be observed takes its observation (R114). -/
def completeNext (o : Observation) (l : List ObsEntry) : List ObsEntry :=
  updateFirst (fun x => x.seen == .pending) (fun x => { x with seen := o }) l

/-- The observation of the next slot completes: counted if its stream is still LIVE, else UNCOUNTED (R118, R121). -/
def State.observeSlot (s : State) (seen : SlotSeen) : State :=
  match s.svw.find? (fun x => x.seen == .pending) with
  | none => s
  | some x =>
    let live := (s.stream? x.slot.stream).filter StreamRecord.isLive
    let o := match live with
      | some _ => x.slot.judge seen
      | none => .uncounted
    let s1 := match live with
      | some r => s.putStream (r.count s.cfg.vacancyLimit o)
      | none => s
    { s1 with svw := completeNext o s1.svw, tpt := { s1.tpt with sending := none, edge := false } }

/-- A slot of the current cycle can complete: RUNNING, before the open window (R118, R128). -/
def State.watching (s : State) : Bool := s.csq.partState == .running && s.csq.phase == .slots

/-- SLOT_OBSERVATION; at any other time there is no slot (entry 1). -/
def takeSlotObservation (seen : SlotSeen) (s : State) : State := if s.watching then s.observeSlot seen else s

/-- STOP_COUNT_REACHED for a LIVE stream whose services done equal its stop count (R72, entry 6). -/
def takeStopCount (id : Nat) (s : State) : State :=
  match s.stream? id with
  | none => s
  | some r => if r.isLive && r.stop == some r.servicesDone then s.putStream r.stopCount else s

end Sys2Proof.Machine
end

