-- ==== Sys2Proof/Machine/Requests.lean ====
section
/-! DEFINITION. Each request as its owner takes it, and which kinds the host and the stations may send (10.6, 9.2). -/

namespace Sys2Proof.Machine

/-! ### Ledger and stream requests, by party -/

/-- EXCHANGE_UNITS(expected, proposed) (R41). -/
def takeExchangeUnits (p : Party) (body : List Byte) (s : State) : State × Reply :=
  match decodeWordWord .exchangeUnits body with
  | .error f => (s, ⟨.badValue, [f]⟩)
  | .ok (expected, proposed) =>
    let (l, reply) := s.lgr.exchangeUnits s.cfg.budget (s.rst.rightsOf p) p expected proposed
    ({ s with lgr := l }, reply)

/-- EXCHANGE_CHANNELS(expected set, proposed set) (R45). -/
def takeExchangeChannels (p : Party) (body : List Byte) (s : State) : State × Reply :=
  match decodeSets body with
  | .error f => (s, ⟨.badValue, [f]⟩)
  | .ok (expected, proposed) =>
    let (l, reply) := s.lgr.exchangeChannels (s.rst.rightsOf p) p expected proposed
    ({ s with lgr := l }, reply)

/-- LEDGER_READ (R48). -/
def takeLedgerRead (p : Party) (body : List Byte) (s : State) : Reply :=
  match decodeNone .ledgerRead body with
  | .error f => ⟨.badValue, [f]⟩
  | .ok _ => ⟨.done, s.lgr.readBody s.cfg.budget (s.rst.rightsOf p) p⟩

/-- CLAIM_LIST(first index) (R50). -/
def takeClaimList (body : List Byte) (s : State) : Reply :=
  match decodeByte .claimList body with
  | .error f => ⟨.badValue, [f]⟩
  | .ok first => s.claimListReply first.toNat

/-- STREAM_READ(id) (R85). -/
def takeStreamRead (p : Party) (body : List Byte) (s : State) : Reply :=
  match decodeByte .streamRead body with
  | .error f => ⟨.badValue, [f]⟩
  | .ok id => s.streamReadReply p id.toNat

/-- STREAM_LIST (R86). -/
def takeStreamList (body : List Byte) (s : State) : Reply :=
  match decodeNone .streamList body with
  | .error f => ⟨.badValue, [f]⟩
  | .ok _ => s.streamListReply

/-! ### The requests that both may send -/

/-- The requests that are executed alike for the host and for a station (00 Trunk side, R40). -/
def partyRequest (kind : Kind) (p : Party) (body : List Byte) (s : State) : Option (State × Reply) :=
  match kind with
  | .exchangeUnits => some (takeExchangeUnits p body s)
  | .exchangeChannels => some (takeExchangeChannels p body s)
  | .ledgerRead => some (s, takeLedgerRead p body s)
  | .admitStream => some (takeAdmit p body s)
  | .retire => some (takeStreamEdit .retire p body s)
  | .resize => some (takeResize p body s)
  | .suspend => some (takeStreamEdit .suspend p body s)
  | .resume => some (takeStreamEdit .resume p body s)
  | .withdraw => some (takeWithdraw p body s)
  | .streamRead => some (s, takeStreamRead p body s)
  | _ => none

/-! ### The two catalogues -/

/-- A host request with its owner (10.6): none for a kind that is no host request; the reply is none while it waits. -/
def hostOwner (kind : Kind) (tag : Byte) (body : List Byte) (s : State) : Option (State × Option Reply) :=
  let now (x : State × Reply) : Option (State × Option Reply) := some (x.1, some x.2)
  match kind with
  | .configure => now (takeConfigure body s)
  | .readConfig => now (s, takeReadConfig body s)
  | .start => some (takeStart tag body s)
  | .halt => some (takeHalt tag body s)
  | .reset => some (takeReset tag body s)
  | .trunkReset => some (takeTrunkReset tag body s)
  | .status => now (s, takeStatus body s)
  | .claimList => now (s, takeClaimList body s)
  | .discardHolding => now (takeDiscardHolding body s)
  | .freeze => now (takeFreeze .freeze true body s)
  | .thaw => now (takeFreeze .thaw false body s)
  | .streamList => now (s, takeStreamList body s)
  | .planRead => now (s, takePlanRead body s)
  | .rosterRead => now (s, takeRosterRead body s)
  | .setRights => now (takeSetRights body s)
  | .evict => now (takeEvict body s)
  | .reportAck => now (takeReportAck body s)
  | .reclaim => none
  | .leave => none
  | k => (partyRequest k .host body s).bind now

/-- A station request with its owner (9.2): none for a kind that is no station request. -/
def stationOwner (kind : Kind) (e : Station) (body : List Byte) (s : State) : Option (State × Reply) :=
  match kind with
  | .leave => some (takeLeave e body s)
  | .reclaim => some (takeReclaim e body s)
  | k => partyRequest k (.station e.tag) body s

end Sys2Proof.Machine
end

