-- ==== Sys2Proof/Machine/HostLink.lean ====
section
/-! DEFINITION. The Host Link (chapter 10): judging and taking requests, the receive framer, the ends of sendings and
the soft reset. -/

namespace Sys2Proof.Machine

/-! ### Judging (R182, R183) -/

/-- A frame is to join the answer list (R186). -/
def State.placeAnswer (s : State) (f : HostFrame) : State := { s with hlk := s.hlk.placeAnswer f }

/-- The entry that a taken request gets, WAITING (R183). -/
def HostRequest.entry (q : HostRequest) : TableEntry := ⟨q.tag, q.kind, q.length, q.check, .waiting⟩

/-- An entry is made in the outstanding-request table (R182 step 7). -/
def State.openEntry (s : State) (q : HostRequest) : State :=
  { s with hlk := { s.hlk with table := s.hlk.table ++ [q.entry] } }

/-- Step 7: an entry is made and the request passes to its owner, whose reply is formed when it answers (R182, R183);
none for a kind that is no host request. -/
def State.takeHostRequest (s : State) (q : HostRequest) : Option State :=
  match (Kind.ofCode q.kind).bind (fun k => hostOwner k q.tag q.body (s.openEntry q)) with
  | some (s2, some r) => some (s2.answer q.tag r)
  | some (s2, none) => some s2
  | none => none

/-- Steps 4 to 7 of R182. -/
def State.judgeFresh (s : State) (q : HostRequest) : State :=
  match s.hlk.table.find? (fun e => e.tag == q.tag) with
  | some e => s.placeAnswer (replyFrame q.kind q.tag ⟨.duplicateTag, [e.kind]⟩)
  | none =>
    if Config.tableRoom ≤ s.hlk.table.length then s.placeAnswer (replyFrame q.kind q.tag ⟨.busy, []⟩)
    else (s.takeHostRequest q).getD (s.placeAnswer (replyFrame q.kind q.tag ⟨.unknownKind, [q.kind]⟩))

/-- The cache entry is of this very frame (R182 step 2). -/
def CacheEntry.isReplayOf (c : CacheEntry) (q : HostRequest) : Bool :=
  c.kind == q.kind && c.length == q.length && c.check == q.check

/-- A complete frame that has passed its check is judged (R182); not once RESET is taken (R188). -/
def State.judge (s : State) (q : HostRequest) : State :=
  if s.hlk.resetting.isSome then s
  else if q.tag = 0 then s.placeAnswer (replyFrame q.kind 0 ⟨.badValue, []⟩)
  else
    match s.hlk.cache.find? (fun c => c.tag == q.tag) with
    | some c =>
      if c.isReplayOf q then s.placeAnswer c.reply
      else State.judgeFresh { s with hlk := { s.hlk with cache := s.hlk.cache.eraseP (fun c => c.tag == q.tag) } } q
    | none => s.judgeFresh q

/-- A request of this kind from the host, as a frame that has passed its check (entry 5). -/
def State.hostRequest (s : State) (kind : Kind) (tag : Byte) (body : List Byte) : State :=
  s.judge (.of kind.code tag body)

/-! ### The framer (R180, R181) -/

/-- The framer returns to HUNTING. -/
def State.hunt (s : State) : State := { s with hlk := { s.hlk with framer := .hunting } }

/-- A frame is abandoned with a LINK_ERROR (R181). -/
def State.abandonFrame (s : State) (cause : Byte) (kind tag : Option Byte) : State :=
  s.hunt.placeAnswer (linkError cause kind tag 0)

/-- A frame whose second check byte has arrived: judged if its check passes, else BAD_CHECK (R181). The bytes are
those from the length byte on. -/
def State.finishFrame (s : State) (bytes : List Byte) (damaged : Bool) : State :=
  let content := bytes.take (bytes.length - 2)
  match content, bytes.drop (bytes.length - 2) with
  | _ :: kind :: tag :: body, [hi, lo] =>
    if damaged = false ∧ [hi, lo] = checkBytes (frameCheck content) then s.hunt.judge ⟨kind, tag, body, hi ++ lo⟩
    else s.abandonFrame linkErrorBadCheck (some kind) (some tag)
  | _, _ => s.abandonFrame linkErrorTruncated bytes[1]? bytes[2]?

/-- A byte of a frame being assembled (R180, R181). -/
def State.assemble (s : State) (bytes : List Byte) (damaged : Bool) (b : HostByte) : State :=
  let bytes1 := bytes ++ [b.value]
  let damaged1 := damaged || b.damaged
  let length := (bytes1.headD 0).toNat
  if length < 2 then s.abandonFrame linkErrorTruncated none none
  else if 250 < length then s.abandonFrame linkErrorTooLong none none
  else if length + 3 ≤ bytes1.length then s.finishFrame bytes1 damaged1
  else { s with hlk := { s.hlk with framer := .assembling bytes1 damaged1 } }

/-- The receiver takes a byte (R179, R180): in HUNTING all but an undamaged start byte are skipped. -/
def State.receiveByte (s : State) (b : HostByte) : State :=
  match s.hlk.framer with
  | .hunting =>
    if b.value = startByte ∧ b.damaged = false then { s with hlk := { s.hlk with framer := .assembling [] false } } else s
  | .assembling bytes damaged => s.assemble bytes damaged b

/-- The 5 ms timer expires, which runs in ASSEMBLING only (R181). -/
def State.byteTimeout (s : State) : State :=
  match s.hlk.framer with
  | .hunting => s
  | .assembling bytes _ => s.abandonFrame linkErrorTruncated bytes[1]? bytes[2]?

/-! ### Resets -/

/-- The line rate that the straps select (00 Pins, R179). -/
def lineRate (rateA rateB : Bool) : Nat :=
  match rateA, rateB with
  | false, false => 115200
  | true, false => 460800
  | false, true => 921600
  | true, true => 2000000

/-- Power-on reset (R14): the waiting commands are the environment's and stay. -/
def State.powerOn (s : State) (rateA rateB : Bool) : State := .atReset .defaults (lineRate rateA rateB) s.pending

/-- Soft reset (R15): the configuration record is kept and the straps are sampled again. -/
def State.softReset (s : State) (rateA rateB : Bool) : State := .atReset s.cfg (lineRate rateA rateB) s.pending

/-! ### The ends of sendings -/

/-- A reply enters the cache; a ninth makes the one that finished first leave (R184). -/
def HostLink.cacheReply (h : HostLink) (c : CacheEntry) : HostLink :=
  let cache := h.cache ++ [c]
  { h with cache := if Config.cacheRoom < cache.length then cache.drop 1 else cache }

/-- The entry whose reply has been sent leaves the table for the cache, and HTX is free (R183, R184). -/
def HostLink.replySent (h : HostLink) (tag : Byte) (f : HostFrame) : HostLink :=
  let h1 := { h with sending := none, table := h.table.eraseP (fun e => e.tag == tag) }
  match h.table.find? (fun e => e.tag == tag) with
  | some e => h1.cacheReply ⟨e.tag, e.kind, e.length, e.check, f⟩
  | none => h1

/-- The last byte of the reply on HTX has been sent (R183); if it was the DONE of a RESET, the soft reset takes
effect (R188). -/
def State.replySent (s : State) (rateA rateB : Bool) : State :=
  match s.hlk.sending with
  | some (.reply tag f) =>
    if s.hlk.resetting = some tag then s.softReset rateA rateB else { s with hlk := s.hlk.replySent tag f }
  | _ => s

/-- The last byte of the answer on HTX has been sent: the frame leaves the list (R186). -/
def State.answerSent (s : State) : State :=
  match s.hlk.sending with
  | some (.answer _) => { s with hlk := { s.hlk with sending := none, answers := s.hlk.answers.drop 1 } }
  | _ => s

/-- The resend interval of a record begins to run when its sending ends (R193). -/
def Reports.sendingEnds (r : Reports) (seq : Byte) : Reports :=
  { r with
    queue := updateFirst (fun x => x.seq == seq && x.state == .sent .unset)
      (fun x => { x with state := .sent .running }) r.queue }

/-- The sending of the report frame on HTX ends (R193). -/
def State.reportSent (s : State) : State :=
  match s.hlk.sending with
  | some (.report seq _) => { s with hlk := { s.hlk with sending := none }, rpu := s.rpu.sendingEnds seq }
  | _ => s

/-- The resend interval of a record has expired: the record is due (R194). -/
def Reports.resendDue (r : Reports) (seq : Byte) : Reports :=
  { r with
    queue := updateFirst (fun x => x.seq == seq && x.state == .sent .running)
      (fun x => { x with state := .sent .due }) r.queue }

end Sys2Proof.Machine
end

