-- ==== Sys2Proof/Machine/Stations.lean ====
section
/-! DEFINITION. What stations send (chapter 9, and 7.2, 7.3): REQUEST, JOIN and ROLL_ANSWER frames and the reset
burst. -/

namespace Sys2Proof.Machine

/-- A frame of the station portion has arrived: in the window in progress, the 4024's share is over and TRK_DIR is low
(R21, entry 24); at the nominal instant just passed, the cycle opened there goes on, and no further frame can have
arrived at that instant (entry 42). -/
def State.enterPortion (s : State) : State :=
  { s with
    csq := { s.csq with phase := if s.tpt.edge then s.csq.phase else .window }
    tpt := { s.tpt with sending := if s.tpt.edge then s.tpt.sending else none, edge := false } }

/-! ### REQUEST (R166 to R170) -/

/-- The outcome of a request that is not a repeat: NOT_PERMITTED with remote_requests off, but for LEAVE (R168), its
owner's outcome (R169), or UNKNOWN_KIND (R170). -/
def State.executeStation (s : State) (e : Station) (kind : Byte) (body : List Byte) : State × Reply :=
  if s.cfg.remoteRequests = false ∧ kind ≠ Kind.leave.code then (s, ⟨.notPermitted, []⟩)
  else ((Kind.ofCode kind).bind (fun k => stationOwner k e body s)).getD (s, ⟨.unknownKind, [kind]⟩)

/-- The station's request state takes the reply and its sequence (R169). -/
def Station.remember (e : Station) (seq : BitVec 4) (f : OutFrame) : Station :=
  { e with lastSeq := some seq, cachedReply := some f }

/-- A request that finds room: executed, and its reply queued and remembered, in one act (R169). -/
def State.answerStation (s : State) (e : Station) (seq : BitVec 4) (kind : Byte) (body : List Byte) : State :=
  let (s1, reply) := s.executeStation e kind body
  let f := OutFrame.reply e.number e.tag s.rst.epoch seq kind reply
  let s2 := s1.pushFrame f
  { s2 with rst := s2.rst.update e.number (fun x => x.remember seq f) }

/-- A repeat: a copy of the cached reply joins the queue (R167). -/
def State.repeatReply (s : State) (e : Station) : State :=
  match e.cachedReply with
  | some f => s.pushFrame f
  | none => s

/-- A request that is not a repeat would be executed by its owner: it has an owner, and remote_requests is on or it is a
LEAVE (R168, R170). -/
def State.reachesOwner (s : State) (e : Station) (kind : Byte) (body : List Byte) : Bool :=
  (s.cfg.remoteRequests || kind == Kind.leave.code) && ((Kind.ofCode kind).bind (fun k => stationOwner k e body s)).isSome

/-- The checks of R166, R167 and R169 on a frame in the station portion. From the instant RESET is taken until the soft
reset no request is executed (R7): one that would be is dropped unanswered, as at a full queue (entry 33). -/
def State.takeRequest (s : State) (number epoch : Byte) (seq : BitVec 4) (kind : Byte) (body : List Byte) : State :=
  match s.rst.byNumber number.toNat with
  | none => s
  | some e =>
    if !(e.isPresent && epoch == s.rst.epoch && s.tpt.hasRoom) then s
    else if e.lastSeq = some seq then s.repeatReply e
    else if s.hlk.resetting.isSome && s.reachesOwner e kind body then s
    else s.answerStation e seq kind body

/-- A REQUEST frame arrives (R165): taken in the station portion only. -/
def State.stationFrame (s : State) (number epoch : Byte) (seq : BitVec 4) (kind : Byte) (body : List Byte) : State :=
  if s.stationPortion then s.enterPortion.takeRequest number epoch seq kind body else s

/-- A request of this kind from the host or a station. -/
def State.request (s : State) (sender : Sender) (kind : Kind) (body : List Byte) : State :=
  match sender with
  | .host tag => s.hostRequest kind tag body
  | .station number epoch seq => s.stationFrame number epoch seq kind.code body

/-! ### JOIN and ROLL_ANSWER (R135, R143) -/

/-- A JOIN frame arrives: taken in the station portion, with the current epoch, when the queue has room (R143). -/
def State.takeJoin (s : State) (t : Tag) (epoch : Byte) : State :=
  if s.stationPortion then
    if epoch = s.rst.epoch ∧ s.tpt.hasRoom then s.enterPortion.joinStation t else s.enterPortion
  else s

/-- A ROLL_ANSWER frame arrives in the answer part of a period, where TRK_DIR is low (R135): taken with the roll call's
epoch, when the queue has room (R136). -/
def State.takeRollAnswer (s : State) (t : Tag) (epoch : Byte) : State :=
  if s.answerPortion then
    let s1 := s.endShare
    if epoch = s.rst.epoch ∧ s.tpt.hasRoom then s1.answerRollCall t else s1
  else s

/-! ### The reset burst (R131) -/

/-- The detector watches in STARTING and RUNNING (R131). -/
def PartState.watchesBurst (p : PartState) : Bool := p == .starting || p == .running

/-- The detector counts units of the pattern; the sixteenth makes the cause STATION_BURST (R131). -/
def State.countBurst (s : State) (units : Nat) : State :=
  let count := min Config.burstUnits (s.tpt.burst + units)
  let s1 := { s with tpt := { s.tpt with burst := count } }
  if s.tpt.burst < Config.burstUnits ∧ count = Config.burstUnits then s1.takeCause .stationBurst else s1

/-- Quiet returns, or the pattern breaks off: the next burst is a new one (R131). -/
def State.burstQuiet (s : State) : State := { s with tpt := { s.tpt with burst := 0 } }

/-- A transmission is discarded without trace (R165, R22, R204); a burst pattern that breaks off also ends the run of
units that the detector counts (R131, entry 23). -/
def State.discardTransmission (s : State) (why : DiscardCause) : State :=
  match why with
  | .tooLong => s
  | .checkFailed => s
  | .unreadable => s
  | .heldNominalInstant => s
  | .brokenBurst => s.burstQuiet

/-- Units of the pattern arrive, and perhaps their end (R131). -/
def State.takeBurst (s : State) (units : Nat) (quiet : Bool) : State :=
  if s.csq.partState.watchesBurst then
    if quiet then (s.countBurst units).burstQuiet else s.countBurst units
  else s

/-! ### Transmissions (R165, R203, R204) -/

/-- A frame arrives whole at the Trunk Port (R165): REQUEST, JOIN and ROLL_ANSWER frames are passed on, any other is
ignored. -/
def State.takeFrame (s : State) : Received → State
  | .request number epoch seq kind body => s.stationFrame number epoch seq kind body
  | .join t epoch => s.takeJoin t epoch
  | .rollAnswer t epoch => s.takeRollAnswer t epoch
  | .other => s

/-- A transmission of the burst pattern arrives whole, from its first unit to quiet (R131, R203): its units are counted
afresh, and the count ends with it. -/
def State.takePattern (s : State) (bytes : List Byte) : State :=
  if s.csq.partState.watchesBurst then s.burstQuiet.takeBurst (burstUnitsIn bytes) true else s

/-- A transmission arrives whole (R165, R203, R204): a burst is told from a frame by its first byte; a frame longer than
8 units, or undecodable, is discarded. -/
def State.takeTransmission (s : State) (bytes : List Byte) : State :=
  if bytes.head? = some Config.burstByte then s.takePattern bytes
  else if Config.requestUnitsMax * Config.unitBytes < bytes.length then s
  else ((receive bytes).map s.takeFrame).getD s

end Sys2Proof.Machine
end

