-- ==== Sys2Proof/Machine/Cycle.lean ====
section
/-! DEFINITION. The instants of the cycle and of the roll call (chapters 2 and 7). At an instant that the state
rules out nothing happens (entry 1). -/

namespace Sys2Proof.Machine

/-! ### The grid (R16, R27 to R29) -/

/-- The late run takes a value (R28). -/
def State.setLateRun (s : State) (n : Nat) : State := { s with csq := { s.csq with lateRun := n } }

/-- A busy line at the nominal instant: the cycle that ends there is over and the stretch begins (R22, R27). -/
def State.beginStretch (s : State) : State :=
  State.endShare { s with csq := { s.csq with phase := .stretch }, tpt := { s.tpt with edge := false } }

/-- Whether a frame may still be taken that arrived whole at the nominal instant just passed (R161, entry 42). -/
def State.setEdge (s : State) (b : Bool) : State := { s with tpt := { s.tpt with edge := b } }

/-- The boundary of a nominal instant with the line quiet, raised on time (R27, R28); a frame that arrived whole in the
station portion it ended may reach its owner behind the boundary (R161). -/
def State.onTimeBoundary (s : State) : State := ((s.setLateRun 0).boundary .onTime 0).setEdge s.portionOpen

/-- The halt takes effect at the end of the open window (R5). -/
def State.haltAtInstant (s : State) : State := s.enterHalted.answerHalts

/-- A nominal instant of RUNNING, other than one inside a stretch (R5, R27). -/
def State.nominalInstant (s : State) (busy : Bool) : State :=
  if s.csq.partState = .running ∧ s.csq.phase ≠ .stretch then
    if s.csq.haltPending then s.haltAtInstant
    else if busy then s.beginStretch
    else s.onTimeBoundary
  else s

/-- The timing and the stretch that the end of a stretch gives (R27). -/
def stretchOutcome : Option Nat → Timing × Nat
  | some t => (.late, t)
  | none => (.forced, Config.stretchLimit)

/-- CYCLE_LATE's body: the cycle the boundary opens, LATE or FORCED, the stretch (R28). -/
def State.cycleLateBody (s : State) (timing : Timing) (stretch : Nat) : List Byte :=
  be16 s.csq.nextCycle.toNat ++ [timing.code, byteOf stretch]

/-- The end of a stretch that does not bring the late run to 8: the late run increments, CYCLE_LATE is offered on 0
to 1, and the boundary is raised LATE or FORCED (R27, R28). -/
def State.lateBoundary (s : State) (timing : Timing) (stretch : Nat) : State :=
  let s1 := s.setLateRun (s.csq.lateRun + 1)
  let s2 := if s.csq.lateRun = 0 then s1.offer .cycleLate (s1.cycleLateBody timing stretch) else s1
  s2.boundary timing stretch

/-- The part is in a stretch. -/
def State.stretching (s : State) : Bool := s.csq.partState == .running && s.csq.phase == .stretch

/-- The end of the stretch (R27 to R29). -/
def State.stretchEnd (s : State) (quietAt : Option Nat) : State :=
  if s.stretching then
    if Config.lateLimit ≤ s.csq.lateRun + 1 then s.takeCause .trunkFault
    else s.lateBoundary (stretchOutcome quietAt).1 (stretchOutcome quietAt).2
  else s

/-- TRUNK_FAULT: the increment that a stretch brings makes the late run 8 (R29, entry 6). -/
def State.trunkFault (s : State) : State :=
  if s.stretching ∧ Config.lateLimit ≤ s.csq.lateRun + 1 then s.takeCause .trunkFault else s

/-- The reclaim window's count stands at 0 (R156, entry 6). -/
def State.windowExpiry (s : State) : State := if s.rcu.isOpen ∧ s.rcu.remaining = 0 then s.expireWindow else s

/-! ### Shares (R21, R135, R176) -/

/-- The open-window offset of a cycle, or quiet after it, with so many units left to the next nominal instant (R21). -/
def State.openShare (s : State) (unitsLeft : Nat) : State :=
  if s.csq.partState = .running ∧ s.csq.phase = .slots ∧ s.slotsObserved then
    let s1 := { s with csq := { s.csq with phase := .window }, tpt := { s.tpt with edge := false } }
    if unitsLeft < Config.shareUnits then s1.endShare else s1.continueShare Config.shareUnits
  else s

/-- The frame at the head of the queue has been sent in a share: it leaves, the earliest parked notice takes the freed
entry, and the share goes on (R172, R176). -/
def State.queuedFrameSent (s : State) : State :=
  match s.tpt.share, s.tpt.outbound with
  | some left, f :: rest =>
    (State.unpark { s with tpt := { s.tpt with outbound := rest } }).continueShare (left - f.units)
  | _, _ => s

/-- The frame being sent has been sent (entry 17): behind a header TRK_DIR falls (R18), behind a ROLL_CALL the share of
its period begins (R135), and a frame of the queue leaves it (R176). -/
def State.frameSent (s : State) : State :=
  match s.tpt.sending with
  | some (.header _) => s.endShare
  | some (.rollCall _ _) => s.continueShare Config.shareUnits
  | _ => s.queuedFrameSent

/-! ### The roll call (R135, R139) -/

/-- ROLL_CALL of the next period begins to be sent (R135): at the period's start, or at the end of the wait for quiet where
another transmission held the line there (entry 46). -/
def State.callPeriod (s : State) : State :=
  if s.csq.partState = .starting ∧ s.rst.rollPeriod < Config.rollPeriods then
    let period := s.rst.rollPeriod + 1
    { s with
      rst := { s.rst with rollPeriod := period }
      tpt := { s.tpt with share := none, sending := some (.rollCall s.rst.epoch period) } }
  else s

/-- What ROLL_CALL_DONE and the start waiters' DONE carry: the epoch, the stations numbered, the holdings (R4, R139). -/
def State.rollCallBody (s : State) : List Byte :=
  [s.rst.epoch, byteOf s.rst.stations.length, byteOf s.lgr.holdings.length]

/-- The roll call ends: ROLL_CALL_DONE, RUNNING, the first boundary, and the start waiters' DONE (R4, R139). -/
def State.endRollCall (s : State) : State :=
  let s1 := s.offer .rollCallDone s.rollCallBody
  let s2 := { s1 with csq := { s1.csq with partState := .running }, rst := { s1.rst with rollPeriod := 0 } }
  (s2.boundary .onTime 0).answerStarts ⟨.done, s.rollCallBody⟩

/-- The end of period 8 (R139). -/
def State.rollCallEnd (s : State) : State :=
  if s.csq.partState = .starting ∧ Config.rollPeriods ≤ s.rst.rollPeriod then s.endRollCall else s

end Sys2Proof.Machine
end

