-- ==== Sys2Proof/WellFormed.lean ====
section
/-! DEFINITION. Which commands a host, a station or the clock can produce. -/

namespace Sys2Proof

/-- A host request's body is at most 248 bytes (R180, R200). -/
def hostBodyFits (body : List Byte) : Bool := body.length ≤ Config.hostBodyMax

/-- A station request's body is at most 54 bytes (R203). -/
def requestBodyFits (body : List Byte) : Bool := body.length ≤ Config.requestBodyMax

/-- A request's body fits the frame its sender sends it in. -/
def bodyFits : Sender → List Byte → Bool
  | .host _, body => hostBodyFits body
  | .station _ _ _, body => requestBodyFits body

/-- A stretch that ends by quiet lasts 1 to 64 units (R27). -/
def stretchFits : Option Nat → Bool
  | some t => 1 ≤ t && t ≤ Config.stretchLimit
  | none => true

/-- The commands that can be sent (entry 25); the others have no transmission or instant that they could stand for. -/
def wellFormed : Instr → Bool
  | .powerOnReset _ _ => true
  | .hostFrame _ => true
  | .interByteTimeout => true
  | .replySent _ _ => true
  | .answerSent => true
  | .reportFrameSent => true
  | .reportResendDue _ => true
  | .configure _ body => hostBodyFits body
  | .readConfig _ body => hostBodyFits body
  | .start _ body => hostBodyFits body
  | .halt _ body => hostBodyFits body
  | .reset _ body => hostBodyFits body
  | .trunkReset _ body => hostBodyFits body
  | .status _ body => hostBodyFits body
  | .exchangeUnits sender body => bodyFits sender body
  | .exchangeChannels sender body => bodyFits sender body
  | .ledgerRead sender body => bodyFits sender body
  | .claimList _ body => hostBodyFits body
  | .discardHolding _ body => hostBodyFits body
  | .admitStream sender body => bodyFits sender body
  | .retire sender body => bodyFits sender body
  | .resize sender body => bodyFits sender body
  | .suspend sender body => bodyFits sender body
  | .resume sender body => bodyFits sender body
  | .withdraw sender body => bodyFits sender body
  | .freeze _ body => hostBodyFits body
  | .thaw _ body => hostBodyFits body
  | .streamRead sender body => bodyFits sender body
  | .streamList _ body => hostBodyFits body
  | .planRead _ body => hostBodyFits body
  | .rosterRead _ body => hostBodyFits body
  | .setRights _ body => hostBodyFits body
  | .evict _ body => hostBodyFits body
  | .reportAck _ body => hostBodyFits body
  | .requestFrame _ => true
  | .leave _ _ _ body => requestBodyFits body
  | .reclaim _ _ _ body => requestBodyFits body
  | .join _ _ => true
  | .rollAnswer _ _ => true
  | .trunkTransmissionDiscarded _ => true
  | .resetBurst _ _ => true
  | .nominalInstant _ => true
  | .stretchEnd quietAt => stretchFits quietAt
  | .trunkFault => true
  | .reclaimWindowExpiry => true
  | .slotObservation _ => true
  | .stopCountReached _ => true
  | .openWindowShare _ => true
  | .outboundFrameSent => true
  | .rollCallPeriod => true
  | .rollCallEnd => true
  | .hostByteReceived _ => true

end Sys2Proof
end

