-- ==== Sys2Proof/Machine/ExecHost.lean ====
section
/-! DEFINITION. The meanings of the commands of the host link and of control: one per row. -/

namespace Sys2Proof.Machine

/-- A command's outcome: the state it leaves, with a free transmitter taking its next frame (R185); a command that
nothing can send is a fault (entry 25). -/
def outcome (fits : Bool) (t : State) : Host.Outcome State Fault Refusal :=
  if fits then .next t.transmit else .fault .operandOutOfRange

/-- POWER_ON_RESET (R14): nothing is sent. -/
def execPowerOnReset (rateA rateB : Bool) (s : State) : Host.Outcome State Fault Refusal :=
  outcome true (s.powerOn rateA rateB)

/-- HOST_FRAME (R182): its bytes arrive, and it is judged where it ends. -/
def execHostFrame (bytes : List HostByte) (s : State) : Host.Outcome State Fault Refusal :=
  outcome true (bytes.foldl State.receiveByte s)

/-- HOST_BYTE_RECEIVED (R180). -/
def execHostByteReceived (byte : HostByte) (s : State) : Host.Outcome State Fault Refusal :=
  outcome true (s.receiveByte byte)

/-- INTER_BYTE_TIMEOUT (R181). -/
def execInterByteTimeout (s : State) : Host.Outcome State Fault Refusal := outcome true s.byteTimeout

/-- REPLY_SENT (R183, R188). -/
def execReplySent (rateA rateB : Bool) (s : State) : Host.Outcome State Fault Refusal :=
  outcome true (s.replySent rateA rateB)

/-- ANSWER_SENT (R186). -/
def execAnswerSent (s : State) : Host.Outcome State Fault Refusal := outcome true s.answerSent

/-- REPORT_FRAME_SENT (R193). -/
def execReportFrameSent (s : State) : Host.Outcome State Fault Refusal := outcome true s.reportSent

/-- REPORT_RESEND_DUE (R194). -/
def execReportResendDue (seq : Byte) (s : State) : Host.Outcome State Fault Refusal :=
  outcome true { s with rpu := s.rpu.resendDue seq }

/-- CONFIGURE (R9). -/
def execConfigure (tag : Byte) (body : List Byte) (s : State) : Host.Outcome State Fault Refusal :=
  outcome (hostBodyFits body) (s.hostRequest .configure tag body)

/-- READ_CONFIG (R12). -/
def execReadConfig (tag : Byte) (body : List Byte) (s : State) : Host.Outcome State Fault Refusal :=
  outcome (hostBodyFits body) (s.hostRequest .readConfig tag body)

/-- START (R2). -/
def execStart (tag : Byte) (body : List Byte) (s : State) : Host.Outcome State Fault Refusal :=
  outcome (hostBodyFits body) (s.hostRequest .start tag body)

/-- HALT (R5). -/
def execHalt (tag : Byte) (body : List Byte) (s : State) : Host.Outcome State Fault Refusal :=
  outcome (hostBodyFits body) (s.hostRequest .halt tag body)

/-- RESET (R7). -/
def execReset (tag : Byte) (body : List Byte) (s : State) : Host.Outcome State Fault Refusal :=
  outcome (hostBodyFits body) (s.hostRequest .reset tag body)

/-- TRUNK_RESET (R3). -/
def execTrunkReset (tag : Byte) (body : List Byte) (s : State) : Host.Outcome State Fault Refusal :=
  outcome (hostBodyFits body) (s.hostRequest .trunkReset tag body)

/-- STATUS (R13). -/
def execStatus (tag : Byte) (body : List Byte) (s : State) : Host.Outcome State Fault Refusal :=
  outcome (hostBodyFits body) (s.hostRequest .status tag body)

end Sys2Proof.Machine
end

