-- ==== Sys2Proof/Machine/ExecRequests.lean ====
section
/-! DEFINITION. The meanings of the requests on the ledger, the staging list, the streams, the roster and the
reports: one per row. -/

namespace Sys2Proof.Machine

/-- EXCHANGE_UNITS (R41), from the host or a station. -/
def execExchangeUnits (sender : Sender) (body : List Byte) (s : State) : Host.Outcome State Fault Refusal :=
  outcome (bodyFits sender body) (s.request sender .exchangeUnits body)

/-- EXCHANGE_CHANNELS (R45), from the host or a station. -/
def execExchangeChannels (sender : Sender) (body : List Byte) (s : State) : Host.Outcome State Fault Refusal :=
  outcome (bodyFits sender body) (s.request sender .exchangeChannels body)

/-- LEDGER_READ (R48), from the host or a station. -/
def execLedgerRead (sender : Sender) (body : List Byte) (s : State) : Host.Outcome State Fault Refusal :=
  outcome (bodyFits sender body) (s.request sender .ledgerRead body)

/-- CLAIM_LIST (R50). -/
def execClaimList (tag : Byte) (body : List Byte) (s : State) : Host.Outcome State Fault Refusal :=
  outcome (hostBodyFits body) (s.hostRequest .claimList tag body)

/-- DISCARD_HOLDING (R51). -/
def execDiscardHolding (tag : Byte) (body : List Byte) (s : State) : Host.Outcome State Fault Refusal :=
  outcome (hostBodyFits body) (s.hostRequest .discardHolding tag body)

/-- ADMIT (R91), from the host or a station. -/
def execAdmit (sender : Sender) (body : List Byte) (s : State) : Host.Outcome State Fault Refusal :=
  outcome (bodyFits sender body) (s.request sender .admitStream body)

/-- RETIRE (R91), from the host or a station. -/
def execRetire (sender : Sender) (body : List Byte) (s : State) : Host.Outcome State Fault Refusal :=
  outcome (bodyFits sender body) (s.request sender .retire body)

/-- RESIZE (R91, R96), from the host or a station. -/
def execResize (sender : Sender) (body : List Byte) (s : State) : Host.Outcome State Fault Refusal :=
  outcome (bodyFits sender body) (s.request sender .resize body)

/-- SUSPEND (R91), from the host or a station. -/
def execSuspend (sender : Sender) (body : List Byte) (s : State) : Host.Outcome State Fault Refusal :=
  outcome (bodyFits sender body) (s.request sender .suspend body)

/-- RESUME (R91), from the host or a station. -/
def execResume (sender : Sender) (body : List Byte) (s : State) : Host.Outcome State Fault Refusal :=
  outcome (bodyFits sender body) (s.request sender .resume body)

/-- WITHDRAW (R107), from the host or a station. -/
def execWithdraw (sender : Sender) (body : List Byte) (s : State) : Host.Outcome State Fault Refusal :=
  outcome (bodyFits sender body) (s.request sender .withdraw body)

/-- FREEZE (R104). -/
def execFreeze (tag : Byte) (body : List Byte) (s : State) : Host.Outcome State Fault Refusal :=
  outcome (hostBodyFits body) (s.hostRequest .freeze tag body)

/-- THAW (R104). -/
def execThaw (tag : Byte) (body : List Byte) (s : State) : Host.Outcome State Fault Refusal :=
  outcome (hostBodyFits body) (s.hostRequest .thaw tag body)

/-- STREAM_READ (R85), from the host or a station. -/
def execStreamRead (sender : Sender) (body : List Byte) (s : State) : Host.Outcome State Fault Refusal :=
  outcome (bodyFits sender body) (s.request sender .streamRead body)

/-- STREAM_LIST (R86). -/
def execStreamList (tag : Byte) (body : List Byte) (s : State) : Host.Outcome State Fault Refusal :=
  outcome (hostBodyFits body) (s.hostRequest .streamList tag body)

/-- PLAN_READ (R115). -/
def execPlanRead (tag : Byte) (body : List Byte) (s : State) : Host.Outcome State Fault Refusal :=
  outcome (hostBodyFits body) (s.hostRequest .planRead tag body)

/-- ROSTER_READ (R148). -/
def execRosterRead (tag : Byte) (body : List Byte) (s : State) : Host.Outcome State Fault Refusal :=
  outcome (hostBodyFits body) (s.hostRequest .rosterRead tag body)

/-- SET_RIGHTS (R147). -/
def execSetRights (tag : Byte) (body : List Byte) (s : State) : Host.Outcome State Fault Refusal :=
  outcome (hostBodyFits body) (s.hostRequest .setRights tag body)

/-- EVICT (R146). -/
def execEvict (tag : Byte) (body : List Byte) (s : State) : Host.Outcome State Fault Refusal :=
  outcome (hostBodyFits body) (s.hostRequest .evict tag body)

/-- REPORT_ACK (R195). -/
def execReportAck (tag : Byte) (body : List Byte) (s : State) : Host.Outcome State Fault Refusal :=
  outcome (hostBodyFits body) (s.hostRequest .reportAck tag body)

end Sys2Proof.Machine
end

