-- ==== Sys2Proof/Machine/ExecTrunk.lean ====
section
/-! DEFINITION. The meanings of what arrives on the trunk and of the instants of the cycle: one per row. -/

namespace Sys2Proof.Machine

/-- REQUEST_FRAME (R165, R166): a transmission arrives whole. -/
def execRequestFrame (bytes : List Byte) (s : State) : Host.Outcome State Fault Refusal :=
  outcome true (s.takeTransmission bytes)

/-- LEAVE (R144), the REQUEST frame of a station. -/
def execLeave (number epoch : Byte) (seq : BitVec 4) (body : List Byte) (s : State) : Host.Outcome State Fault Refusal :=
  outcome (requestBodyFits body) (s.stationFrame number epoch seq Kind.leave.code body)

/-- RECLAIM (R158), the REQUEST frame of a station. -/
def execReclaim (number epoch : Byte) (seq : BitVec 4) (body : List Byte) (s : State) : Host.Outcome State Fault Refusal :=
  outcome (requestBodyFits body) (s.stationFrame number epoch seq Kind.reclaim.code body)

/-- JOIN (R143). -/
def execJoin (tag : Tag) (epoch : Byte) (s : State) : Host.Outcome State Fault Refusal :=
  outcome true (s.takeJoin tag epoch)

/-- ROLL_ANSWER (R136). -/
def execRollAnswer (tag : Tag) (epoch : Byte) (s : State) : Host.Outcome State Fault Refusal :=
  outcome true (s.takeRollAnswer tag epoch)

/-- TRUNK_TRANSMISSION_DISCARDED (R165, R22, R131). -/
def execTrunkTransmissionDiscarded (why : DiscardCause) (s : State) : Host.Outcome State Fault Refusal :=
  outcome true (s.discardTransmission why)

/-- RESET_BURST (R131). -/
def execResetBurst (units : Nat) (quiet : Bool) (s : State) : Host.Outcome State Fault Refusal :=
  outcome true (s.takeBurst units quiet)

/-- NOMINAL_INSTANT (R27). -/
def execNominalInstant (busy : Bool) (s : State) : Host.Outcome State Fault Refusal :=
  outcome true (s.nominalInstant busy)

/-- STRETCH_END (R27, R28). -/
def execStretchEnd (quietAt : Option Nat) (s : State) : Host.Outcome State Fault Refusal :=
  outcome (stretchFits quietAt) (s.stretchEnd quietAt)

/-- TRUNK_FAULT (R29). -/
def execTrunkFault (s : State) : Host.Outcome State Fault Refusal := outcome true s.trunkFault

/-- RECLAIM_WINDOW_EXPIRY (R156). -/
def execReclaimWindowExpiry (s : State) : Host.Outcome State Fault Refusal := outcome true s.windowExpiry

/-- SLOT_OBSERVATION (R118). -/
def execSlotObservation (seen : SlotSeen) (s : State) : Host.Outcome State Fault Refusal :=
  outcome true (takeSlotObservation seen s)

/-- STOP_COUNT_REACHED (R72). -/
def execStopCountReached (id : Nat) (s : State) : Host.Outcome State Fault Refusal := outcome true (takeStopCount id s)

/-- OPEN_WINDOW_SHARE (R21). -/
def execOpenWindowShare (unitsLeft : Nat) (s : State) : Host.Outcome State Fault Refusal :=
  outcome true (s.openShare unitsLeft)

/-- OUTBOUND_FRAME_SENT (R135, R172, R176). -/
def execOutboundFrameSent (s : State) : Host.Outcome State Fault Refusal := outcome true s.frameSent

/-- ROLL_CALL_PERIOD (R135). -/
def execRollCallPeriod (s : State) : Host.Outcome State Fault Refusal := outcome true s.callPeriod

/-- ROLL_CALL_END (R139). -/
def execRollCallEnd (s : State) : Host.Outcome State Fault Refusal := outcome true s.rollCallEnd

end Sys2Proof.Machine
end

