-- ==== Sys2Proof/Machine/Dispatch.lean ====
section
/-! DEFINITION. The meaning of a command: one arm per row of spec/opcode_table.json. -/

namespace Sys2Proof.Machine

/-- The command's effect on everything but the queue of waiting commands. -/
def exec (i : Instr) (s : State) : Host.Outcome State Fault Refusal :=
  match i with
  | .powerOnReset rateA rateB => Sys2Proof.Machine.execPowerOnReset rateA rateB s
  | .hostFrame bytes => Sys2Proof.Machine.execHostFrame bytes s
  | .interByteTimeout => Sys2Proof.Machine.execInterByteTimeout s
  | .replySent rateA rateB => Sys2Proof.Machine.execReplySent rateA rateB s
  | .answerSent => Sys2Proof.Machine.execAnswerSent s
  | .reportFrameSent => Sys2Proof.Machine.execReportFrameSent s
  | .reportResendDue seq => Sys2Proof.Machine.execReportResendDue seq s
  | .configure tag body => Sys2Proof.Machine.execConfigure tag body s
  | .readConfig tag body => Sys2Proof.Machine.execReadConfig tag body s
  | .start tag body => Sys2Proof.Machine.execStart tag body s
  | .halt tag body => Sys2Proof.Machine.execHalt tag body s
  | .reset tag body => Sys2Proof.Machine.execReset tag body s
  | .trunkReset tag body => Sys2Proof.Machine.execTrunkReset tag body s
  | .status tag body => Sys2Proof.Machine.execStatus tag body s
  | .exchangeUnits sender body => Sys2Proof.Machine.execExchangeUnits sender body s
  | .exchangeChannels sender body => Sys2Proof.Machine.execExchangeChannels sender body s
  | .ledgerRead sender body => Sys2Proof.Machine.execLedgerRead sender body s
  | .claimList tag body => Sys2Proof.Machine.execClaimList tag body s
  | .discardHolding tag body => Sys2Proof.Machine.execDiscardHolding tag body s
  | .admitStream sender body => Sys2Proof.Machine.execAdmit sender body s
  | .retire sender body => Sys2Proof.Machine.execRetire sender body s
  | .resize sender body => Sys2Proof.Machine.execResize sender body s
  | .suspend sender body => Sys2Proof.Machine.execSuspend sender body s
  | .resume sender body => Sys2Proof.Machine.execResume sender body s
  | .withdraw sender body => Sys2Proof.Machine.execWithdraw sender body s
  | .freeze tag body => Sys2Proof.Machine.execFreeze tag body s
  | .thaw tag body => Sys2Proof.Machine.execThaw tag body s
  | .streamRead sender body => Sys2Proof.Machine.execStreamRead sender body s
  | .streamList tag body => Sys2Proof.Machine.execStreamList tag body s
  | .planRead tag body => Sys2Proof.Machine.execPlanRead tag body s
  | .rosterRead tag body => Sys2Proof.Machine.execRosterRead tag body s
  | .setRights tag body => Sys2Proof.Machine.execSetRights tag body s
  | .evict tag body => Sys2Proof.Machine.execEvict tag body s
  | .reportAck tag body => Sys2Proof.Machine.execReportAck tag body s
  | .requestFrame bytes => Sys2Proof.Machine.execRequestFrame bytes s
  | .leave number epoch seq body => Sys2Proof.Machine.execLeave number epoch seq body s
  | .reclaim number epoch seq body => Sys2Proof.Machine.execReclaim number epoch seq body s
  | .join tag epoch => Sys2Proof.Machine.execJoin tag epoch s
  | .rollAnswer tag epoch => Sys2Proof.Machine.execRollAnswer tag epoch s
  | .trunkTransmissionDiscarded why => Sys2Proof.Machine.execTrunkTransmissionDiscarded why s
  | .resetBurst units quiet => Sys2Proof.Machine.execResetBurst units quiet s
  | .nominalInstant busy => Sys2Proof.Machine.execNominalInstant busy s
  | .stretchEnd quietAt => Sys2Proof.Machine.execStretchEnd quietAt s
  | .trunkFault => Sys2Proof.Machine.execTrunkFault s
  | .reclaimWindowExpiry => Sys2Proof.Machine.execReclaimWindowExpiry s
  | .slotObservation seen => Sys2Proof.Machine.execSlotObservation seen s
  | .stopCountReached id => Sys2Proof.Machine.execStopCountReached id s
  | .openWindowShare unitsLeft => Sys2Proof.Machine.execOpenWindowShare unitsLeft s
  | .outboundFrameSent => Sys2Proof.Machine.execOutboundFrameSent s
  | .rollCallPeriod => Sys2Proof.Machine.execRollCallPeriod s
  | .rollCallEnd => Sys2Proof.Machine.execRollCallEnd s
  | .hostByteReceived byte => Sys2Proof.Machine.execHostByteReceived byte s

end Sys2Proof.Machine
end

