-- ==== Sys2Proof/Safety.lean ====
section
/-! DEFINITION. The terms that statements use: invariants of the state, when a request is taken, and what the answer
to a request leaves. -/

namespace Sys2Proof.Machine

/-! ### Invariants -/

/-- R34: FREE_UNITS, the claimed units and the holding units together are the budget. -/
abbrev Ledger.balanced (l : Ledger) (budget : Nat) : Prop := l.freeUnits + l.claimedTotal + l.holdingTotal = budget

/-- In how many places of the ledger a channel stands: free, or held by a claim record or a holding (R35). -/
def Ledger.places (l : Ledger) (c : Nat) : Nat :=
  (hasChannel l.freeChannels c).toNat + (hasChannel l.host.held c).toNat
  + (l.claims.map (fun x => (hasChannel x.account.held c).toNat)).sum
  + (l.holdings.map (fun h => (hasChannel h.channels c).toNat)).sum

/-- R35: every channel stands in exactly one place. -/
abbrev Ledger.partitioned (l : Ledger) : Prop := ∀ c < Config.channels, l.places c = 1

/-- Every configuration field lies in its range (R8); OVERFLOW is always on. -/
abbrev ConfigRecord.valid (c : ConfigRecord) : Prop :=
  c.budget ≤ Config.budgetMax ∧ 64 ≤ c.reclaimWindow ∧ c.reclaimWindow ≤ 4096 ∧ c.vacancyLimit ≤ 255 ∧
  1 ≤ c.commitLimit ∧ c.commitLimit ≤ 8 ∧ c.reportMask.getLsbD 11 = true

/-- The bounds of the queues, tables and counters (R28, R64, R88, R131, R135, R141, R142, R150, R164, R175, R183, R184,
R186, R191, R196). -/
abbrev State.bounded (s : State) : Prop :=
  s.stg.edits.length ≤ Config.editRoom ∧ s.rst.stations.length ≤ Config.rosterRoom ∧
  s.rst.known.length ≤ Config.knownRoom ∧ s.tpt.outbound.length ≤ Config.outboundRoom ∧
  s.hlk.table.length ≤ Config.tableRoom ∧ s.hlk.cache.length ≤ Config.cacheRoom ∧
  s.hlk.answers.length ≤ Config.answerRoom ∧ s.hlk.overrun ≤ 255 ∧
  s.rpu.queue.length ≤ Config.reportRoom ∧ s.rpu.lost ≤ 255 ∧
  s.csq.lateRun < Config.lateLimit ∧ s.tpt.burst ≤ Config.burstUnits ∧ s.rst.rollPeriod ≤ Config.rollPeriods ∧
  (∀ p ∈ s.tpt.parked, (s.tpt.parked.filter (fun x => x.number == p.number)).length ≤ Config.parkedRoom) ∧
  (∀ r ∈ s.streams, r.servicesDone ≤ 65535 ∧ r.vacantRun ≤ 255 ∧ r.vacantTotal ≤ 65535 ∧
    r.overlongRun ≤ Config.overlongLimit) ∧
  (64 ≤ s.rcu.latched ∧ s.rcu.latched ≤ 4096) ∧ s.rcu.remaining ≤ 4096

/-- Where waiters and a cycle can be: start waiters in STARTING, halt waiters in RUNNING outside a stretch, and no
cycle outside RUNNING (R1, R16, R30). -/
abbrev Sequencer.inPlace (q : Sequencer) : Prop :=
  (q.startWaiters ≠ [] → q.partState = .starting) ∧ (q.haltWaiters ≠ [] → q.partState = .running) ∧
  (q.phase = .stretch → q.haltWaiters = []) ∧ (q.partState ≠ .running → q.phase = .none)

/-- The reclaim window is open exactly while a holding exists, and counts nothing while closed (R150). -/
abbrev State.windowInPlace (s : State) : Prop :=
  (s.rcu.isOpen = true ↔ s.lgr.holdings ≠ []) ∧ (s.rcu.isOpen = false → s.rcu.remaining = 0)

/-- The stream records stand by strictly rising id, all of positions 0 to 39 (R62). -/
abbrev State.positioned (s : State) : Prop :=
  (s.streams.map StreamRecord.id).Pairwise (· < ·) ∧ ∀ r ∈ s.streams, r.id < Config.streamPositions

/-- No two stream records have one channel (R63). -/
abbrev State.channelsApart (s : State) : Prop := (s.streams.map StreamRecord.channel).Nodup

/-- Keys are unique: one claim record and one holding per party, one roster entry per tag and per number, one
known-tag entry per tag, and no host tag twice in the outstanding-request table and the reply cache together
(R36, R38, R141, R142, R183, R184). -/
abbrev State.keyed (s : State) : Prop :=
  (s.lgr.claims.map StationClaim.tag).Nodup ∧ (s.lgr.holdings.map Holding.tag).Nodup ∧
  (s.rst.stations.map Station.tag).Nodup ∧ (s.rst.stations.map Station.number).Nodup ∧
  (s.rst.known.map Known.tag).Nodup ∧
  (s.hlk.table.map TableEntry.tag ++ s.hlk.cache.map CacheEntry.tag).Nodup

/-- The staging list holds at most 16 edits, at most one per stream, each for a record of the table; their numbers and
the number that the next edit will take are distinct and none is 0 (R88 to R90). -/
abbrev State.editsInPlace (s : State) : Prop :=
  s.stg.edits.length ≤ Config.editRoom ∧ (s.stg.edits.map Edit.stream).Nodup ∧
  (∀ e ∈ s.stg.edits, (s.stream? e.stream).isSome = true) ∧
  (s.stg.next :: s.stg.edits.map Edit.number).Nodup ∧ 0 ∉ s.stg.next :: s.stg.edits.map Edit.number

/-- The sequences in the report queue are consecutive, the last one just behind the counter; the SENT records stand
ahead of the WAITING ones and are at most 4; the overflow marker is set only while the queue is full (R191, R193,
R196). -/
abbrev Reports.inOrder (r : Reports) : Prop :=
  r.queue.length ≤ Config.reportRoom ∧
  r.queue.map ReportRecord.seq = (List.range r.queue.length).map (fun i => r.next - byteOf (r.queue.length - i)) ∧
  (r.queue.map ReportRecord.isSent).Pairwise (fun a b => b = true → a = true) ∧
  (r.queue.filter ReportRecord.isSent).length ≤ Config.sentRoom ∧
  (r.marker = true → r.queue.length = Config.reportRoom)

/-- A record is STAGED exactly while an ADMIT is pending for it (R88). -/
abbrev State.stagedInPlace (s : State) : Prop :=
  ∀ r ∈ s.streams, r.state = .staged ↔ ∃ e ∈ s.stg.edits, e.stream = r.id ∧ e.op.kind = .admitStream

/-- Roster entries stand by rising number, all of 1 to 24, and each tag has a known-tag entry; the last numbers that
those record are of 1 to 24 too (R141, R142). -/
abbrev State.rosterInPlace (s : State) : Prop :=
  (s.rst.stations.map Station.number).Pairwise (· < ·) ∧
  (∀ e ∈ s.rst.stations, (1 ≤ e.number ∧ e.number ≤ Config.rosterRoom) ∧ ∃ k ∈ s.rst.known, k.tag = e.tag) ∧
  ∀ k ∈ s.rst.known, ∀ n, k.last = some n → 1 ≤ n ∧ n ≤ Config.rosterRoom

/-- Every entry of a holding's held-stream list is a HELD stream that the holding's tag owns (R38, R152). -/
abbrev State.heldInPlace (s : State) : Prop :=
  ∀ h ∈ s.lgr.holdings, ∀ x ∈ h.streams, ∃ r ∈ s.streams, r.id = x.id ∧ r.owner = .station h.tag ∧ r.isHeld = true

/-- What an edit will make of its stream's units (R89). -/
def EditOp.resizedTo : EditOp → Option Nat
  | .resize units _ => some units
  | _ => none

/-- A stream's pending resize units are those of the RESIZE pending for it, whose direction compares them with its units;
no edit is pending for a HELD stream (R65, R79, R89, R96, R106). -/
abbrev State.resizesInPlace (s : State) : Prop :=
  ∀ r ∈ s.streams, r.pendingResize = (s.stg.edits.find? (fun e => e.stream == r.id)).bind (fun e => e.op.resizedTo) ∧
    ∀ e ∈ s.stg.edits, e.stream = r.id → r.isHeld = false ∧
      ∀ units ∈ e.op.resizedTo, e.op = .resize units
        (if r.units < units then .up else if units < r.units then .down else .same)

/-- Station claim records are those of stations in the roster, and none exists in STARTING; the streams of a DEPARTING
station are RETIRING or HELD (R1, R37, R74, R132, R145). -/
abbrev State.claimsInPlace (s : State) : Prop :=
  (∀ c ∈ s.lgr.claims, ∃ e ∈ s.rst.stations, e.tag = c.tag) ∧ (s.csq.partState = .starting → s.lgr.claims = []) ∧
  ∀ e ∈ s.rst.stations, e.state ≠ .present → ∀ r ∈ s.streams, r.owner = .station e.tag →
    r.isRetiring = true ∨ r.isHeld = true

/-- The streams that a party's claim record carries: those it owns that are not HELD (R39, R53, R55). -/
def State.carriedBy (s : State) (p : Party) : List StreamRecord := s.streams.filter (fun r => r.owner == p && !r.isHeld)

/-- The streams that a tag's holding carries: the HELD ones that the tag owns (R38, R152). -/
def State.heldFor (s : State) (t : Tag) : List StreamRecord := s.streams.filter (fun r => r.owner == .station t && r.isHeld)

/-- An account's committed units are the charges of the streams it carries, within its claimed units, and its bound
channels are those streams' channels, each with its stream, within its held channels (R36, R53, R55, R65). -/
abbrev Account.carries (a : Account) (l : List StreamRecord) : Prop :=
  a.committed = (l.map (fun r => max r.units (r.pendingResize.getD 0))).sum ∧ a.committed ≤ a.claimed ∧
  a.bound.Perm (l.map (fun r => (r.channel, r.id))) ∧ ∀ b ∈ a.bound, hasChannel a.held b.1 = true

/-- A holding lists the streams it carries, by ascending id, each charged with its units, within its units, and their
channels are within its channels (R38, R152). -/
abbrev Holding.carries (h : Holding) (l : List StreamRecord) : Prop :=
  h.streams = l.map (fun r => ⟨r.id, r.units⟩) ∧ (h.streams.map HeldStream.charge).sum ≤ h.units ∧
  ∀ r ∈ l, hasChannel h.channels r.channel = true

/-- Every claim record and every holding carries what its party's streams ask of it, and every stream of a station is
carried by one (R36, R38, R39, R53, R55). -/
abbrev State.accountsInPlace (s : State) : Prop :=
  s.lgr.host.carries (s.carriedBy .host) ∧
  (∀ c ∈ s.lgr.claims, c.account.carries (s.carriedBy (.station c.tag))) ∧
  (∀ h ∈ s.lgr.holdings, h.carries (s.heldFor h.tag)) ∧
  ∀ r ∈ s.streams,
    if r.isHeld then ∃ h ∈ s.lgr.holdings, r.owner = .station h.tag
    else r.owner = .host ∨ ∃ c ∈ s.lgr.claims, r.owner = .station c.tag

/-- QUIESCENT and HALTED are silent: the 4024 sends nothing on the trunk. In QUIESCENT the roster and the holdings are
empty (R1, R31). -/
abbrev State.silentInPlace (s : State) : Prop :=
  (s.csq.partState = .quiescent ∨ s.csq.partState = .halted → s.tpt.sending = none ∧ s.tpt.share = none) ∧
  (s.csq.partState = .quiescent → s.rst.stations = [] ∧ s.lgr.holdings = [])

/-! ### Frames and rows -/

/-- The host requests with their kinds and rows (10.6). -/
def hostRows (tag : Byte) (body : List Byte) : List (Kind × Instr) :=
  [(.configure, .configure tag body), (.readConfig, .readConfig tag body), (.start, .start tag body),
   (.halt, .halt tag body), (.reset, .reset tag body), (.trunkReset, .trunkReset tag body),
   (.status, .status tag body), (.exchangeUnits, .exchangeUnits (.host tag) body),
   (.exchangeChannels, .exchangeChannels (.host tag) body), (.ledgerRead, .ledgerRead (.host tag) body),
   (.claimList, .claimList tag body), (.discardHolding, .discardHolding tag body), (.admitStream, .admitStream (.host tag) body),
   (.retire, .retire (.host tag) body), (.resize, .resize (.host tag) body), (.suspend, .suspend (.host tag) body),
   (.resume, .resume (.host tag) body), (.withdraw, .withdraw (.host tag) body), (.freeze, .freeze tag body),
   (.thaw, .thaw tag body), (.streamRead, .streamRead (.host tag) body), (.streamList, .streamList tag body),
   (.planRead, .planRead tag body), (.rosterRead, .rosterRead tag body), (.setRights, .setRights tag body),
   (.evict, .evict tag body), (.reportAck, .reportAck tag body)]

/-- The station requests with their kinds and rows (9.2). -/
def stationRows (number epoch : Byte) (seq : BitVec 4) (body : List Byte) : List (Kind × Instr) :=
  [(.leave, .leave number epoch seq body), (.exchangeUnits, .exchangeUnits (.station number epoch seq) body),
   (.exchangeChannels, .exchangeChannels (.station number epoch seq) body),
   (.ledgerRead, .ledgerRead (.station number epoch seq) body), (.admitStream, .admitStream (.station number epoch seq) body),
   (.retire, .retire (.station number epoch seq) body), (.resize, .resize (.station number epoch seq) body),
   (.suspend, .suspend (.station number epoch seq) body), (.resume, .resume (.station number epoch seq) body),
   (.withdraw, .withdraw (.station number epoch seq) body),
   (.streamRead, .streamRead (.station number epoch seq) body), (.reclaim, .reclaim number epoch seq body)]

/-- A frame as it stands on the line: start byte, length, kind, tag and body, and the check over all but the first
(R199, R200). -/
def HostFrame.onLine (f : HostFrame) : List Byte :=
  let covered := byteOf (f.body.length + 2) :: f.kind :: f.tag :: f.body
  0xA5 :: covered ++ checkBytes (frameCheck covered)

/-- A frame's bytes as HRX receives them, none damaged. -/
def HostFrame.received (f : HostFrame) : List HostByte := f.onLine.map (fun b => ⟨b, false⟩)

/-- A trunk frame other than a HEADER, of so many units of 8 bytes: its fields, bytes of 0, and the check over both
(R199, R203). -/
def trunkFrame (fields : List Byte) (units : Nat) : List Byte :=
  let covered := fields ++ List.replicate (units * 8 - 2 - fields.length) 0
  covered ++ checkBytes (frameCheck covered)

/-- The REQUEST frame of a station, in the fewest units that hold it (R203, R204). -/
def requestFrameBytes (number epoch : Byte) (seq : BitVec 4) (kind : Byte) (body : List Byte) : List Byte :=
  let units := max 2 ((body.length + 17) / 8)
  trunkFrame ([0x71, number, epoch] ++ be16 units ++ [byteOf seq.toNat, kind, byteOf body.length] ++ body) units

/-- The JOIN and ROLL_ANSWER frames of a station (R203). -/
def tagFrameBytes (type epoch : Byte) (t : Tag) : List Byte :=
  trunkFrame ([type, 0, epoch] ++ be16 2 ++ [0, 0, 0] ++ tagBytes t) 2

/-- The header's bytes: 14 fixed ones, the check over them and the entry units, and two entries of 4 bytes in each entry
unit, the last one filled with 0xFF where the slots are odd in number (R199, R203, R205). -/
def Header.onLine (h : Header) : List Byte :=
  let slots := h.entries.length
  let front := [0x5A, 0, h.epoch] ++ be16 (2 + (slots + 1) / 2) ++ be16 h.cycle.toNat ++ [h.generation, byteOf slots]
    ++ be16 h.windowOffset
    ++ [match h.timing with | .onTime => (0 : Byte) | .late => 1 | .forced => 2, byteOf h.stretch, byteOf h.lateRun]
  let units := (h.entries.map (fun e =>
      let word := BitVec.ofNat 6 e.stream ++ BitVec.ofNat 6 e.channel ++ BitVec.ofNat 5 e.talker
        ++ BitVec.ofNat 9 (e.units - 1) ++ BitVec.ofNat 6 e.offset
      [word.extractLsb' 24 8, word.extractLsb' 16 8, word.extractLsb' 8 8, word.extractLsb' 0 8])).flatten
    ++ if slots % 2 = 1 then [0xFF, 0xFF, 0xFF, 0xFF] else []
  front ++ checkBytes (frameCheck (front ++ units)) ++ units

/-- A request whose body is a fixed layout: its kind, the sizes of its fields, and its row from the host. -/
structure PlainRow where
  kind  : Kind
  sizes : List Nat
  row   : Instr

/-- The host requests whose bodies are fixed layouts of numbers and tags (12, request layouts). -/
def plainRows (tag : Byte) (body : List Byte) : List PlainRow :=
  [⟨.readConfig, [], .readConfig tag body⟩, ⟨.start, [], .start tag body⟩, ⟨.halt, [], .halt tag body⟩,
   ⟨.reset, [], .reset tag body⟩, ⟨.trunkReset, [], .trunkReset tag body⟩, ⟨.status, [], .status tag body⟩,
   ⟨.ledgerRead, [], .ledgerRead (.host tag) body⟩, ⟨.freeze, [], .freeze tag body⟩, ⟨.thaw, [], .thaw tag body⟩,
   ⟨.streamList, [], .streamList tag body⟩, ⟨.exchangeUnits, [2, 2], .exchangeUnits (.host tag) body⟩,
   ⟨.claimList, [1], .claimList tag body⟩, ⟨.discardHolding, [6], .discardHolding tag body⟩,
   ⟨.retire, [1], .retire (.host tag) body⟩, ⟨.resize, [1, 2], .resize (.host tag) body⟩,
   ⟨.suspend, [1], .suspend (.host tag) body⟩, ⟨.resume, [1], .resume (.host tag) body⟩,
   ⟨.withdraw, [2], .withdraw (.host tag) body⟩, ⟨.streamRead, [1], .streamRead (.host tag) body⟩,
   ⟨.planRead, [1, 1], .planRead tag body⟩]

/-- The station requests whose bodies are fixed layouts of numbers (12, request layouts). -/
def plainStationRows (number epoch : Byte) (seq : BitVec 4) (body : List Byte) : List PlainRow :=
  [⟨.leave, [], .leave number epoch seq body⟩, ⟨.reclaim, [], .reclaim number epoch seq body⟩,
   ⟨.ledgerRead, [], .ledgerRead (.station number epoch seq) body⟩,
   ⟨.exchangeUnits, [2, 2], .exchangeUnits (.station number epoch seq) body⟩,
   ⟨.retire, [1], .retire (.station number epoch seq) body⟩,
   ⟨.resize, [1, 2], .resize (.station number epoch seq) body⟩,
   ⟨.suspend, [1], .suspend (.station number epoch seq) body⟩,
   ⟨.resume, [1], .resume (.station number epoch seq) body⟩,
   ⟨.withdraw, [2], .withdraw (.station number epoch seq) body⟩,
   ⟨.streamRead, [1], .streamRead (.station number epoch seq) body⟩]

/-- A field as a CONFIGURE carries it: its identifier and its value (12, CONFIGURE). -/
def ConfigField.bytes (f : ConfigField) : List Byte :=
  byteOf f.field :: (if f.field ∈ [1, 2, 7] then be16 f.value else [byteOf f.value])

/-- A field of R8 with a value that its layout can carry (R201, R202). -/
abbrev ConfigField.encodable (f : ConfigField) : Prop :=
  (f.field ∈ [1, 2, 7] ∧ f.value < 65536) ∨ (f.field ∈ [3, 4] ∧ f.value < 256) ∨ (f.field = 5 ∧ f.value ≤ 1) ∨
  (f.field = 6 ∧ f.value ≤ 7)

/-- A field of R8 with a value in its range; a report_mask has OVERFLOW on (R8, R9). -/
abbrev ConfigField.legal (f : ConfigField) : Prop :=
  (f.field = 1 ∧ f.value ≤ 1792) ∨ (f.field = 2 ∧ 64 ≤ f.value ∧ f.value ≤ 4096) ∨ (f.field = 3 ∧ f.value ≤ 255) ∨
  (f.field = 4 ∧ 1 ≤ f.value ∧ f.value ≤ 8) ∨ (f.field = 5 ∧ f.value ≤ 1) ∨ (f.field = 6 ∧ f.value ≤ 7) ∨
  (f.field = 7 ∧ 0x800 ≤ f.value ∧ f.value ≤ 0xFFF)

/-! ### When a request is taken -/

/-- A frame joins the answer list as it is: there is room, no answer was lost before, and RESET is not taken (R186,
R188). -/
abbrev HostLink.takesAnswer (h : HostLink) : Prop :=
  h.resetting = none ∧ h.answers.length < Config.answerRoom ∧ h.overrun = 0

/-- A host request under this tag is judged and taken (R182 step 7, R188). -/
abbrev State.HostReady (s : State) (tag : Byte) : Prop :=
  s.hlk.resetting = none ∧ tag ≠ 0 ∧ (∀ c ∈ s.hlk.cache, c.tag ≠ tag) ∧ (∀ e ∈ s.hlk.table, e.tag ≠ tag) ∧
  s.hlk.table.length < Config.tableRoom

/-- A REQUEST frame with this number, epoch and sequence is no repeat and finds room (R165 to R167, R169); `e` is the
sender's entry. -/
abbrev State.StationFresh (s : State) (number epoch : Byte) (seq : BitVec 4) (e : Station) : Prop :=
  s.stationPortion = true ∧ s.rst.byNumber number.toNat = some e ∧ e.isPresent = true ∧ epoch = s.rst.epoch ∧
  s.tpt.hasRoom = true ∧ e.lastSeq ≠ some seq

/-- Such a REQUEST is also executed, for RESET is not taken (R7). -/
abbrev State.StationReady (s : State) (number epoch : Byte) (seq : BitVec 4) (e : Station) : Prop :=
  s.StationFresh number epoch seq e ∧ s.hlk.resetting = none

/-- A request from this sender is taken and executed for the party (R40, R168, R182). -/
def State.SenderReady (s : State) : Sender → Party → Prop
  | .host tag, p => s.HostReady tag ∧ p = .host
  | .station number epoch seq, p =>
    ∃ e, s.StationReady number epoch seq e ∧ s.cfg.remoteRequests = true ∧ p = .station e.tag

/-! ### Edits -/

/-- An edit as PLAN_COMMITTED and EDITS_DISCARDED list it: number, kind, stream id, submitter and the cycle in which it was
accepted (R102, R109; Table 12-1). -/
def Edit.listed (e : Edit) : List Byte :=
  be16 e.number.toNat
  ++ [match e.op with
      | .admitStream _ => (0x20 : Byte) | .retire => 0x21 | .resize _ _ => 0x22 | .suspend => 0x23 | .resume => 0x24,
      byteOf e.stream]
  ++ partyBytes e.submitter ++ be16 e.acceptedIn.toNat

/-- `next` is the first number after `n` that is neither 0 nor in use (R90). -/
def followsNumber (inUse : List (BitVec 16)) (n next : BitVec 16) : Prop :=
  next ≠ 0 ∧ next ∉ inUse ∧
  ∃ k : Nat, next = n + 1 + BitVec.ofNat 16 k ∧
    ∀ j < k, n + 1 + BitVec.ofNat 16 j = 0 ∨ n + 1 + BitVec.ofNat 16 j ∈ inUse

/-- An ADMIT's 23 bytes: a presence byte, owner, talker, channel, units, period, phase, start cycle and stop count, the
bytes of absent parts 0 (12, ADMIT; entry 10). -/
def AdmitRequest.bytes (a : AdmitRequest) : List Byte :=
  [byteOf ((if a.owner.isSome then 1 else 0) + (if a.talker.isSome then 2 else 0) + (if a.start.isSome then 4 else 0)
    + (if a.stop.isSome then 8 else 0))]
  ++ partyBytes (a.owner.getD .host) ++ tagBytes (a.talker.getD 0) ++ [byteOf a.channel] ++ be16 a.units
  ++ [byteOf a.period, byteOf a.phase] ++ be16 (a.start.getD 0).toNat ++ be16 (a.stop.getD 0)

/-- The arguments fit the fields that carry them. -/
abbrev AdmitRequest.encodable (a : AdmitRequest) : Prop :=
  a.channel < 256 ∧ a.units < 65536 ∧ a.period < 256 ∧ a.phase < 256 ∧ a.stop.getD 0 < 65536

/-! ### The roster -/

/-- The number that a tag without one is given while the roster has room: its last number if no entry holds it, else the
lowest of 1 to 24 that no entry holds (R136). -/
def Roster.numberGiven (r : Roster) (t : Tag) (n : Nat) : Prop :=
  (1 ≤ n ∧ n ≤ Config.rosterRoom) ∧ (∀ e ∈ r.stations, e.number ≠ n) ∧
  ((∃ k ∈ r.known, k.tag = t ∧ k.last = some n) ∨
    (∀ k ∈ r.known, k.tag = t → ∀ m, k.last = some m → ∃ e ∈ r.stations, e.number = m) ∧
    ∀ m, 1 ≤ m → m < n → ∃ e ∈ r.stations, e.number = m)

/-- The known-tag list with a new entry at the recent end: a full list first gives up the least recent entry whose tag is
not in the roster (R142). -/
def Roster.knownWith (r : Roster) (k : Known) : List Known :=
  (if r.known.length < Config.knownRoom then r.known
   else r.known.eraseP (fun x => !r.stations.any (fun e => e.tag == x.tag))) ++ [k]

/-- The known-tag list with a tag's entry at the recent end, and with a last number where one is given (R142). -/
def Roster.knownRecent (r : Roster) (t : Tag) (last : Option Nat) : List Known :=
  r.known.filter (fun k => k.tag != t)
  ++ (r.known.filter (fun k => k.tag == t)).map (fun k => { k with last := last.or k.last })

/-- The roster with these rights for a tag: in its entry's place, or in a new entry (R146, R147). -/
def Roster.withRights (r : Roster) (t : Tag) (rights : Rights) : Roster :=
  { r with known :=
      if r.known.any (fun k => k.tag == t) then r.known.map (fun k => if k.tag = t then { k with rights := rights } else k)
      else r.knownWith ⟨t, rights, none⟩ }

/-- The roster with a tag numbered: a PRESENT entry in the number's place, and the tag's known-tag entry at the recent end
with that last number, created with the default rights where it has none (R136). -/
def State.numbered (s : State) (t : Tag) (n : Nat) : Roster :=
  let entry : Station := ⟨n, t, .present, s.rst.epoch, s.csq.lastCycle.getD 0, none, none, false⟩
  { s.rst with
    stations := s.rst.stations.filter (fun e => e.number < n) ++ [entry] ++ s.rst.stations.filter (fun e => n < e.number)
    known := if s.rst.known.any (fun k => k.tag == t) then s.rst.knownRecent t (some n)
      else s.rst.knownWith ⟨t, s.cfg.defaultRights, some n⟩ }

/-! ### Channel sets and accounts -/

/-- The set of the channels that a list names. -/
def channelSetOf (l : List Nat) : ChannelSet := l.foldl (fun s c => s ||| channelBit c) 0

/-- The bytes encode a channel set that names these channel numbers: in form 0, 40 bits, channel 8k + j at bit j of
byte k; in form 1, a count of 0 to 40 and the numbers (R201). -/
def namesChannels (bytes : List Byte) (channels : List Nat) : Prop :=
  (∃ b0 b1 b2 b3 b4 : Byte, bytes = [0, b0, b1, b2, b3, b4] ∧
    ∀ c, c ∈ channels ↔ c < 40 ∧ ([b0, b1, b2, b3, b4].getD (c / 8) 0).getLsbD (c % 8) = true) ∨
  (∃ l : List Byte, l.length ≤ 40 ∧ bytes = 1 :: byteOf l.length :: l ∧ channels = l.map BitVec.toNat)

/-- The saved state of the HELD stream in this position, coded as a state; 0 where there is none (R64, R201). -/
def State.savedByte (s : State) (id : Nat) : Byte :=
  match (s.streams.find? (fun r => r.id == id)).map StreamRecord.state with
  | some (.held .waitingStart) => 1
  | some (.held .live) => 2
  | some (.held (.suspended _)) => 3
  | _ => 0

/-- A holding has ended, but for the notice to its station: its streams and the edits for them are gone, its units and
channels are free, HOLDING_RELEASED with this cause is offered, and a window left without holdings closes with
RECLAIM_CLOSED(EMPTIED) (R51, R82, R157). -/
abbrev State.holdingEnded (s : State) (h : Holding) (cause : Byte) (u : State) : Prop :=
  let ids := h.streams.map HeldStream.id
  let offered := s.offer .holdingReleased (cause :: tagBytes h.tag ++ be16 h.units ++ setBytes h.channels
    ++ byteOf ids.length :: ids.map byteOf)
  u.lgr = { s.lgr with
    freeUnits := s.lgr.freeUnits + h.units, freeChannels := s.lgr.freeChannels ||| h.channels
    holdings := s.lgr.holdings.filter (fun x => x.tag != h.tag), revision := s.lgr.revision + 1 } ∧
  u.streams = s.streams.filter (fun r => !ids.contains r.id) ∧
  u.rcu = (if s.rcu.isOpen = true ∧ s.lgr.holdings = [h] then { s.rcu with isOpen := false, remaining := 0 } else s.rcu) ∧
  u.rpu = (if s.rcu.isOpen = true ∧ s.lgr.holdings = [h] then offered.offer .reclaimClosed [1, 0, 0, 0, 0, 0, 0]
    else offered).rpu ∧
  u.stg = { s.stg with edits := s.stg.edits.filter (fun e => !ids.contains e.stream) } ∧
  u.csq = s.csq ∧ u.cfg = s.cfg ∧ u.svw = s.svw ∧ u.hlk = s.hlk ∧ u.pending = s.pending

/-- The ledger with a party's claim record at this account: a station's record is created at the end of the list, and
removed when it holds nothing, with the list revision (R36, R37, R49); the host's is always kept. -/
def Ledger.withAccount (l : Ledger) : Party → Account → Ledger
  | .host, a => { l with host := a }
  | .station t, a =>
    if ∃ c ∈ l.claims, c.tag = t then
      if a.claimed = 0 ∧ a.held = 0 then
        { l with claims := l.claims.filter (fun c => c.tag != t), revision := l.revision + 1 }
      else { l with claims := l.claims.map (fun c => if c.tag = t then ⟨t, a⟩ else c) }
    else if a.claimed = 0 ∧ a.held = 0 then l
    else { l with claims := l.claims ++ [⟨t, a⟩], revision := l.revision + 1 }

/-! ### What an answer leaves -/

/-- The state with a host request's reply formed: its entry ANSWERED, its reply last in the transmit order (R183). -/
def State.withHostReply (s : State) (kind : Kind) (tag : Byte) (body : List Byte) (r : Reply) : State :=
  let q := HostRequest.of kind.code tag body
  { s with
    hlk := { s.hlk with
      table := s.hlk.table ++ [{ q.entry with state := .answered (replyFrame kind.code tag r) }]
      order := s.hlk.order ++ [.reply tag] } }

/-- The state with a host request's entry made and left WAITING (R183, R187). -/
def State.withHostWaiting (s : State) (kind : Kind) (tag : Byte) (body : List Byte) : State :=
  s.openEntry (.of kind.code tag body)

/-- The state once a frame of the station portion has arrived: of the window in progress, or of the one that the nominal
instant just passed ended (entries 24, 42). -/
def State.heard (s : State) : State :=
  { s with
    csq := { s.csq with phase := if s.tpt.edge = true then s.csq.phase else .window }
    tpt := { s.tpt with sending := if s.tpt.edge = true then s.tpt.sending else none, edge := false } }

/-- The state with a station's reply queued and remembered, in the station portion (R169). -/
def State.withStationReply (s : State) (e : Station) (seq : BitVec 4) (kind : Byte) (r : Reply) : State :=
  let f := OutFrame.reply e.number e.tag s.rst.epoch seq kind r
  { s.heard with
    rst := s.rst.update e.number (fun x => { x with lastSeq := some seq, cachedReply := some f })
    tpt := { s.heard.tpt with outbound := s.tpt.outbound ++ [f] } }

/-- The state with the reply to a request from this sender. -/
def State.withReply (s : State) (sender : Sender) (kind : Kind) (body : List Byte) (r : Reply) : State :=
  match sender with
  | .host tag => s.withHostReply kind tag body r
  | .station number _ seq =>
    match s.rst.byNumber number.toNat with
    | some e => s.withStationReply e seq kind.code r
    | none => s

/-- The state with a frame in the answer list, behind those that wait (R186). -/
def State.withAnswer (s : State) (f : HostFrame) : State :=
  { s with hlk := { s.hlk with answers := s.hlk.answers ++ [f], order := s.hlk.order ++ [.answer] } }

end Sys2Proof.Machine
end

