-- ==== Sys2Proof/Certificates/Slice0/Obligations.lean ====
section
/-! DEFINITION. The statements about the 4024, for the provers. Each docstring names the rules it formalises; where a
statement rests on the model's own choice it names the log entry. -/

open Sys2Proof Sys2Proof.Machine

/-! ### The queue of commands, and resets -/

/-- The block takes the command at the front of its queue and runs it with the queue's rest; with none waiting it
idles (entry 3). -/
def Obligations.StepRunsTheFrontCommand : Prop :=
  (∀ (c : Instr) (s : State), step { s with pending := c :: s.pending } = exec c s) ∧
  (∀ s : State, s.pending = [] → step s = .next s)

/-- A command that can be sent leaves a next state and leaves the queue of waiting commands alone; any other faults
(entry 25). -/
def Obligations.SendableCommandsComplete : Prop :=
  ∀ (c : Instr) (s : State),
    (wellFormed c = true → ∃ t, exec c s = .next t ∧ t.pending = s.pending) ∧
    (wellFormed c = false → exec c s = .fault .operandOutOfRange)

/-- R14: what power-on reset leaves in the Cycle Sequencer, the configuration record at the defaults of R8, and a
silent trunk. -/
def Obligations.PowerOnResetOfTheSequencer : Prop :=
  ∀ (s : State) (rateA rateB : Bool), ∃ t, exec (.powerOnReset rateA rateB) s = .next t ∧
    t.csq.partState = .quiescent ∧ t.csq.lastCycle = none ∧ t.csq.cycleNumber = 0 ∧ t.csq.nextCycle = 0 ∧
    t.csq.generation = 0 ∧ t.csq.lateRun = 0 ∧ t.csq.plan = [] ∧ t.csq.startWaiters = [] ∧ t.csq.haltWaiters = [] ∧
    t.cfg = { budget := 1536, reclaimWindow := 512, vacancyLimit := 16, commitLimit := 4, remoteRequests := true,
              defaultRights := ⟨true, true, true⟩, reportMask := 0xFFF#12 } ∧
    t.trkBytes = none ∧ t.trkDir = false

/-- Both resets empty every block (R60, R87, R112, R129, R149, R163, R178, R190, R198); a soft reset follows the last
byte of a RESET's DONE and keeps the configuration record (R15, R188). The rate is that of the straps (00 Pins). -/
def Obligations.ResetsEmptyEveryBlock : Prop :=
  ∀ (s : State) (c : Instr) (rateA rateB : Bool) (cfg : ConfigRecord),
    (c = .powerOnReset rateA rateB ∧ cfg = ConfigRecord.defaults ∨
      c = .replySent rateA rateB ∧ cfg = s.cfg ∧
        ∃ tag f, s.hlk.sending = some (.reply tag f) ∧ s.hlk.resetting = some tag) →
    ∃ t, exec c s = .next t ∧ t.cfg = cfg ∧ t.csq = Sequencer.atReset ∧
      t.lgr = ⟨cfg.budget, BitVec.allOnes 40, ⟨0, 0, 0, []⟩, [], [], 0⟩ ∧ t.streams = [] ∧ t.stg = ⟨[], 1, false⟩ ∧
      t.svw = [] ∧ t.rst = ⟨0, [], [], 0⟩ ∧ t.rcu = ⟨false, cfg.reclaimWindow, 0⟩ ∧
      t.tpt = ⟨[], [], none, none, 0, false⟩ ∧
      t.hlk = ⟨(match rateA, rateB with
                | false, false => 115200
                | true, false => 460800
                | false, true => 921600
                | true, true => 2000000), .hunting, [], [], [], 0, [], none, none⟩ ∧
      t.rpu = ⟨[], 0, false, 0, cfg.reportMask⟩ ∧ t.attn = false ∧ t.htxBytes = none ∧ t.pending = s.pending

/-! ### The receive framer and the answer list -/

/-- R180, R181: what each byte on HRX does, in HUNTING and in ASSEMBLING. The presence byte of a LINK_ERROR stands as
entry 10 has it. -/
def Obligations.EachHostByte : Prop :=
  ∀ (s : State) (b : HostByte),
    let leads (h : HostLink) : Prop := exec (.hostByteReceived b) s = .next (State.transmit { s with hlk := h })
    (s.hlk.framer = .hunting →
      if b.value = 0xA5 ∧ b.damaged = false then leads { s.hlk with framer := .assembling [] false }
      else leads s.hlk) ∧
    ∀ bytes damaged, s.hlk.framer = .assembling bytes damaged →
      let all := bytes ++ [b.value]
      let length := (all.headD 0).toNat
      let abandoned (f : HostFrame) : Prop :=
        s.hlk.takesAnswer → exec (.hostByteReceived b) s = .next (State.withAnswer
          { s with hlk := { s.hlk with framer := .hunting } } f).transmit
      if length < 2 then abandoned ⟨0x41, 0, [1, 0, 0, 0, 0]⟩
      else if 250 < length then abandoned ⟨0x41, 0, [2, 0, 0, 0, 0]⟩
      else if all.length < length + 3 then leads { s.hlk with framer := .assembling all (damaged || b.damaged) }
      else
        ∀ len kind tag body hi lo, all = len :: kind :: tag :: body ++ [hi, lo] →
          (if (damaged || b.damaged) = true ∨ [hi, lo] ≠ checkBytes (frameCheck (len :: kind :: tag :: body)) then
            abandoned ⟨0x41, 0, [3, 3, kind, tag, 0]⟩
          else exec (.hostByteReceived b) s = .next (State.transmit
            (State.judge { s with hlk := { s.hlk with framer := .hunting } } ⟨kind, tag, body, hi ++ lo⟩)))

/-- R181: 5 ms without the next byte end a frame being assembled with TRUNCATED, kind and tag as far as they were
received; in HUNTING the timer does not run. R186: a frame that finds the answer list full is not formed and is
counted, to 255; the next frame that finds room goes behind a LINK_ERROR with cause OVERRUN and the count, or is
counted afresh when no entry remains. The presence byte of a LINK_ERROR stands as entry 10 has it; that it marks kind and
tag absent for OVERRUN is the model's choice (entry 47). -/
def Obligations.TimeoutAndOverrun : Prop :=
  (∀ s : State,
     (s.hlk.framer = .hunting → exec .interByteTimeout s = .next s.transmit) ∧
     ∀ bytes damaged, s.hlk.framer = .assembling bytes damaged → s.hlk.takesAnswer →
       let leads (f : HostFrame) : Prop := exec .interByteTimeout s = .next (State.withAnswer
         { s with hlk := { s.hlk with framer := .hunting } } f).transmit
       match bytes with
       | _ :: kind :: tag :: _ => leads ⟨0x41, 0, [1, 3, kind, tag, 0]⟩
       | [_, kind] => leads ⟨0x41, 0, [1, 1, kind, 0, 0]⟩
       | _ => leads ⟨0x41, 0, [1, 0, 0, 0, 0]⟩) ∧
  (∀ (s : State) (damaged : Bool), s.hlk.framer = .assembling [] damaged → s.hlk.resetting = none →
     let leads (answers : List HostFrame) (overrun : Nat) (order : List TxItem) : Prop :=
       exec .interByteTimeout s = .next (State.transmit { s with
         hlk := { s.hlk with framer := .hunting, answers := answers, overrun := overrun, order := order } })
     let frame : HostFrame := ⟨0x41, 0, [1, 0, 0, 0, 0]⟩
     let overrunFrame : HostFrame := ⟨0x41, 0, [4, 0, 0, 0, byteOf s.hlk.overrun]⟩
     if 8 ≤ s.hlk.answers.length then leads s.hlk.answers (min 255 (s.hlk.overrun + 1)) s.hlk.order
     else if s.hlk.overrun = 0 then leads (s.hlk.answers ++ [frame]) 0 (s.hlk.order ++ [.answer])
     else if s.hlk.answers.length = 7 then leads (s.hlk.answers ++ [overrunFrame]) 1 (s.hlk.order ++ [.answer])
     else leads (s.hlk.answers ++ [overrunFrame, frame]) 0 (s.hlk.order ++ [.answer, .answer]))

/-- R180, R199, R200: a request frame whose bytes arrive undamaged while the framer hunts is the request of its
kind, tag and body: it leaves what that request's own row leaves. How the row of a frame, and that of a request, relate to
the bytes is the model's choice (entries 4, 5). -/
def Obligations.HostFrameIsItsRequest : Prop :=
  ∀ (s : State) (tag : Byte) (body : List Byte), s.hlk.framer = .hunting → body.length ≤ 248 →
    ∀ row ∈ hostRows tag body, exec (.hostFrame (HostFrame.received ⟨row.1.code, tag, body⟩)) s = exec row.2 s

/-- R182, R184: the frames that are not taken: tag 0, a replay, a duplicate tag, a full table and an unknown kind,
each with its answer and no other effect; and a stale cache entry, which goes before the frame is judged on. Bodies
that no rule lists are empty (the model's choice, entry 13). -/
def Obligations.FramesThatAreNotTaken : Prop :=
  ∀ (s : State) (kind tag : Byte) (body : List Byte), s.hlk.framer = .hunting → body.length ≤ 248 → s.keyed →
    s.hlk.takesAnswer →
    let c := Instr.hostFrame (HostFrame.received ⟨kind, tag, body⟩)
    let answered (f : HostFrame) : Prop := exec c s = .next (s.withAnswer f).transmit
    let check := frameCheck (byteOf (body.length + 2) :: kind :: tag :: body)
    (tag = 0 → answered ⟨kind, 0, [0x04]⟩) ∧
    (tag ≠ 0 → ∀ e ∈ s.hlk.cache, e.tag = tag →
      if e.kind = kind ∧ e.length = body.length + 2 ∧ e.check = check then answered e.reply
      else exec c s = exec c { s with hlk := { s.hlk with cache := s.hlk.cache.filter (fun x => x.tag != tag) } }) ∧
    (tag ≠ 0 → (∀ e ∈ s.hlk.cache, e.tag ≠ tag) →
      (∀ e ∈ s.hlk.table, e.tag = tag → answered ⟨kind, tag, [0x14, e.kind]⟩) ∧
      ((∀ e ∈ s.hlk.table, e.tag ≠ tag) →
        (4 ≤ s.hlk.table.length → answered ⟨kind, tag, [0x13]⟩) ∧
        (s.hlk.table.length < 4 → (∀ row ∈ hostRows tag body, row.1.code ≠ kind) →
          answered ⟨kind, tag, [0x15, kind]⟩)))

/-! ### The transmitter, the reply cache and the reports -/

/-- R165, R131, R185, R188, R193, R194: a discarded transmission leaves no trace (a burst pattern that breaks off ends the
detector's count: the model's, entry 23), so what its row leaves is the transmitter's own: a frame on HTX is not
interrupted; the earliest formed reply or answer goes first; then the earliest due report, else the oldest WAITING report
while fewer than 4 are SENT; none once RESET is taken. R199, R200: HTX carries the start byte, length, kind, tag and body of
the reply, answer or report frame being sent, and the check over all but the first, and is idle while none is; a reply's body
opens with its outcome, and a report frame has tag 0 and carries sequence, kind, cycle, epoch and body; the check register
starts at 0xFFFF, takes each byte in eight shifts, and is sent high byte first. -/
def Obligations.TransmitterTakesNext : Prop :=
  (∀ (s : State) (why : DiscardCause), s.keyed → s.rpu.inOrder →
    let left (t : State) : State := if why = .brokenBurst then { t with tpt := { t.tpt with burst := 0 } } else t
    let leads (t : State) : Prop := exec (.trunkTransmissionDiscarded why) s = .next (left t)
    (s.hlk.sending.isSome = true → leads s) ∧
    (s.hlk.sending = none →
      (∀ tag rest e f, s.hlk.order = .reply tag :: rest → e ∈ s.hlk.table → e.tag = tag → e.state = .answered f →
        leads { s with hlk := { s.hlk with order := rest, sending := some (.reply tag f) } }) ∧
      (∀ rest f fs, s.hlk.order = .answer :: rest → s.hlk.answers = f :: fs →
        leads { s with hlk := { s.hlk with order := rest, sending := some (.answer f) } }) ∧
      (s.hlk.order = [] → s.hlk.resetting.isSome = true → leads s) ∧
      (s.hlk.order = [] → s.hlk.resetting = none →
        let sends (r : ReportRecord) : Prop := leads { s with
          hlk := { s.hlk with sending := some (.report r.seq r.frame) }
          rpu := { s.rpu with
            queue := s.rpu.queue.map (fun x => if x.seq = r.seq then { x with state := .sent .unset } else x) } }
        (∀ before r after, s.rpu.queue = before ++ r :: after → r.state = .sent .due →
          (∀ x ∈ before, x.state ≠ .sent .due) → sends r) ∧
        ((∀ x ∈ s.rpu.queue, x.state ≠ .sent .due) →
          (∀ before r after, s.rpu.queue = before ++ r :: after → r.state = .waiting →
            (∀ x ∈ before, x.state ≠ .waiting) → before.length < 4 → sends r) ∧
          (4 ≤ (s.rpu.queue.filter (fun x => x.state != .waiting)).length ∨
              (∀ x ∈ s.rpu.queue, x.state ≠ .waiting) → leads s))))) ∧
  (∀ s : State,
    (s.hlk.sending = none → s.htxBytes = none) ∧
    ∀ (tag seq : Byte) (f : HostFrame), s.hlk.sending ∈ [some (.reply tag f), some (.answer f), some (.report seq f)] →
      s.htxBytes = some f.onLine) ∧
  (∀ (kind tag : Byte) (r : Reply), replyFrame kind tag r = ⟨kind, tag, r.code.code :: r.body⟩) ∧
  (∀ r : ReportRecord,
    r.frame = ⟨0x40, 0, [r.seq, byteOf r.kind.code] ++ be16 r.cycle.toNat ++ [r.epoch] ++ r.body⟩) ∧
  (frameCheck [] = 0xFFFF ∧
    (∀ bytes b, frameCheck (bytes ++ [b]) = (List.range 8).foldl
      (fun c _ => if c.msb then (c <<< 1) ^^^ 0x1021 else c <<< 1) (frameCheck bytes ^^^ (b.setWidth 16 <<< 8))) ∧
    ∀ c : BitVec 16, checkBytes c = [c.extractLsb' 8 8, c.extractLsb' 0 8])

/-- R183, R184: when the last byte of a reply has been sent, its entry leaves the table and enters the reply cache,
from which a ninth makes the earliest leave. R186: an answer leaves the answer list when its last byte has been sent.
R193: when the sending of a report frame ends, its record's resend interval begins to run. R194: at its expiry the
record is due. -/
def Obligations.SendingsEnd : Prop :=
  (∀ (s : State) (rateA rateB : Bool) (f : HostFrame) (e : TableEntry), s.keyed →
     s.hlk.sending = some (.reply e.tag f) → s.hlk.resetting ≠ some e.tag → e ∈ s.hlk.table →
     let cached : CacheEntry := ⟨e.tag, e.kind, e.length, e.check, f⟩
     exec (.replySent rateA rateB) s = .next (State.transmit { s with
       hlk := { s.hlk with
         sending := none
         table := s.hlk.table.filter (fun x => x.tag != e.tag)
         cache := (if s.hlk.cache.length < 8 then s.hlk.cache else s.hlk.cache.drop 1) ++ [cached] } })) ∧
  ((∀ (s : State) (f : HostFrame), s.hlk.sending = some (.answer f) →
     exec .answerSent s = .next (State.transmit
       { s with hlk := { s.hlk with sending := none, answers := s.hlk.answers.drop 1 } })) ∧
   (∀ (s : State) (q : Byte) (f : HostFrame), s.rpu.inOrder → s.hlk.sending = some (.report q f) →
     exec .reportFrameSent s = .next (State.transmit { s with
       hlk := { s.hlk with sending := none }
       rpu := { s.rpu with
         queue := s.rpu.queue.map (fun x =>
           if x.seq = q ∧ x.state = .sent .unset then { x with state := .sent .running } else x) } })) ∧
   (∀ (s : State) (q : Byte), s.rpu.inOrder →
     exec (.reportResendDue q) s = .next (State.transmit { s with
       rpu := { s.rpu with
         queue := s.rpu.queue.map (fun x =>
           if x.seq = q ∧ x.state = .sent .running then { x with state := .sent .due } else x) } })))

/-- R191, R192, R196: what the Report Unit does with an offer: nothing for a kind set off, a WAITING record with the
next sequence, the cycle number and the epoch for a kind set on (OVERFLOW always is), and at 24 records the marker
and the count of reports lost. R195, R196: REPORT_ACK takes the SENT record with the sequence and every record ahead
of it out of the queue; a set marker then becomes an OVERFLOW record with the count. Any other body or sequence is
refused with the oldest and newest SENT sequences. The presence byte stands as entry 10 has it. R197: ATTN is high exactly
while the queue holds a record. -/
def Obligations.ReportsOfferedAndAcknowledged : Prop :=
  (∀ s : State, s.attn = true ↔ s.rpu.queue ≠ []) ∧
  (∀ (s : State) (k : ReportKind) (body : List Byte),
     let t := s.offer k body
     let on := k = .overflow ∨ s.rpu.mask.getLsbD (k.code - 1) = true
     t = { s with rpu := t.rpu } ∧
     (¬ on → t.rpu = s.rpu) ∧
     (on → s.rpu.queue.length < 24 →
       t.rpu = { s.rpu with
         queue := s.rpu.queue ++ [⟨s.rpu.next, k, s.csq.lastCycle.getD 0, s.rst.epoch, body, .waiting⟩]
         next := s.rpu.next + 1 }) ∧
     (on → 24 ≤ s.rpu.queue.length → t.rpu = { s.rpu with marker := true, lost := min 255 (s.rpu.lost + 1) })) ∧
  (∀ (s : State) (tag : Byte), s.HostReady tag → s.rpu.inOrder →
     (∀ before r after, s.rpu.queue = before ++ r :: after → r.state ≠ .waiting →
       let rpu := if s.rpu.marker = true then
           { s.rpu with
             queue := after ++ [⟨s.rpu.next, .overflow, s.csq.lastCycle.getD 0, s.rst.epoch, [byteOf s.rpu.lost], .waiting⟩]
             next := s.rpu.next + 1, marker := false, lost := 0 }
         else { s.rpu with queue := after }
       exec (.reportAck tag [r.seq]) s = .next (State.transmit (State.withHostReply { s with rpu := rpu } .reportAck tag
         [r.seq] ⟨.done, [byteOf (before.length + 1), byteOf rpu.queue.length]⟩))) ∧
     (∀ body, body.length ≤ 248 → (∀ r ∈ s.rpu.queue, r.state ≠ .waiting → body ≠ [r.seq]) →
       let sent := s.rpu.queue.filter (fun r => r.state != .waiting)
       exec (.reportAck tag body) s = .next (State.transmit (s.withHostReply .reportAck tag body ⟨.badValue,
         match sent.head?, sent.getLast? with
         | some oldest, some newest => [3, oldest.seq, newest.seq]
         | _, _ => [0, 0, 0]⟩))))

/-! ### Control requests and the configuration record (chapter 1) -/

/-- R202: a body that does not hold a field of its layout whole, or holds a value that the layout cannot take, is
answered BAD_VALUE with that field's position; a body longer than the layout with BAD_VALUE and a field number that the
data book leaves open (entry 9). Nothing else changes. So for the bodies of fixed layout, from the host and from
stations, where PLAN_READ's offset is one byte (entry 40); for ADMIT, whose presence byte is not counted (entry 10) and
whose host party has tag 0 (entry 16); for the two channel sets of EXCHANGE_CHANNELS; and for ROSTER_READ, SET_RIGHTS and
EVICT, each with a byte of few values. That a list name of ROSTER_READ and a flag of EVICT above 1 is such a value is the
model's choice (entry 16). -/
def Obligations.BodiesThatDoNotDecode : Prop :=
  let short (sizes : List Nat) (k length : Nat) : Prop := (sizes.take k).sum ≤ length ∧ length < (sizes.take (k + 1)).sum
  ((∀ (s : State) (tag : Byte) (body : List Byte), s.HostReady tag → body.length ≤ 248 →
      ∀ row ∈ plainRows tag body,
        let refused (field : Byte) : Prop :=
          exec row.row s = .next (State.transmit (s.withHostReply row.kind tag body ⟨.badValue, [field]⟩))
        (∀ k < row.sizes.length, short row.sizes k body.length → refused (byteOf (k + 1))) ∧
        (row.sizes.sum < body.length → refused (Config.unnamedField row.kind.code))) ∧
   (∀ (s : State) (number epoch : Byte) (seq : BitVec 4) (e : Station) (body : List Byte),
      s.StationReady number epoch seq e → body.length ≤ 54 →
      ∀ row ∈ plainStationRows number epoch seq body, s.cfg.remoteRequests = true ∨ row.kind = .leave →
        let refused (field : Byte) : Prop :=
          exec row.row s = .next (State.transmit (s.withStationReply e seq row.kind.code ⟨.badValue, [field]⟩))
        (∀ k < row.sizes.length, short row.sizes k body.length → refused (byteOf (k + 1))) ∧
        (row.sizes.sum < body.length → refused (Config.unnamedField row.kind.code)))) ∧
  ((∀ (s : State) (sender : Sender) (p : Party) (body : List Byte), s.SenderReady sender p → bodyFits sender body = true →
      let refused (field : Byte) : Prop :=
        exec (.admitStream sender body) s = .next (State.transmit (s.withReply sender .admitStream body ⟨.badValue, [field]⟩))
      (body.length < 8 → refused 1) ∧
      ∀ (presence kind : Byte) (t : Tag) rest, body = presence :: kind :: tagBytes t ++ rest →
        let sizes := [6, 1, 2, 1, 1, 2, 2]
        if 16 ≤ presence.toNat then refused (Config.unnamedField 0x20)
        else if presence.getLsbD 0 = true ∧ ¬ (kind = 0 ∧ t = 0 ∨ kind = 1) then refused 1
        else (∀ k < 7, short sizes k rest.length → refused (byteOf (k + 2))) ∧
          (15 < rest.length → refused (Config.unnamedField 0x20))) ∧
   (∀ (s : State) (sender : Sender) (p : Party) (body : List Byte), s.SenderReady sender p → bodyFits sender body = true →
      let refused (field : Byte) : Prop :=
        exec (.exchangeChannels sender body) s =
          .next (State.transmit (s.withReply sender .exchangeChannels body ⟨.badValue, [field]⟩))
      let opensWithSet (l : List Byte) : Prop := ∃ b channels, b <+: l ∧ namesChannels b channels
      (¬ opensWithSet body → refused 1) ∧
      ∀ first channels rest, body = first ++ rest → namesChannels first channels →
        (¬ opensWithSet rest → refused 2) ∧
        ∀ second more surplus, rest = second ++ surplus → namesChannels second more → surplus ≠ [] →
          refused (Config.unnamedField 0x11))) ∧
  (∀ (s : State) (tag : Byte) (body : List Byte), s.HostReady tag → body.length ≤ 248 →
     (let refused (field : Byte) : Prop :=
        exec (.rosterRead tag body) s = .next (State.transmit (s.withHostReply .rosterRead tag body ⟨.badValue, [field]⟩))
      if body = [] ∨ 1 < (body.headD 0).toNat then refused 1
      else if body.length = 1 then refused 2
      else 2 < body.length → refused (Config.unnamedField 0x30)) ∧
     ∀ row ∈ [(Kind.setRights, 7, Instr.setRights tag body), (Kind.evict, 1, Instr.evict tag body)],
       let refused (field : Byte) : Prop :=
         exec row.2.2 s = .next (State.transmit (s.withHostReply row.1 tag body ⟨.badValue, [field]⟩))
       if body.length < 6 then refused 1
       else if body.length = 6 ∨ row.2.1 < (body.getD 6 0).toNat then refused 2
       else 7 < body.length → refused (Config.unnamedField row.1.code))

/-- R12, R13: READ_CONFIG and STATUS are answered DONE in every part state, with the record's fields in identifier
order and with the values of R13 in its order. The codes of names and the presence bytes stand as entries 10 and 12
have them. R201 and the tables of 12: how bodies carry numbers, flags, tags, parties, rights, channel sets, lists and a state
with its cause (entry 10), and the codes of names (entry 12). -/
def Obligations.ConfigurationAndStatusRead : Prop :=
  (∀ (s : State) (tag : Byte), s.HostReady tag →
    exec (.readConfig tag []) s = .next (State.transmit (s.withHostReply .readConfig tag [] ⟨.done,
      [1] ++ be16 s.cfg.budget ++ [2] ++ be16 s.cfg.reclaimWindow ++ [3, byteOf s.cfg.vacancyLimit]
      ++ [4, byteOf s.cfg.commitLimit] ++ [5, flag s.cfg.remoteRequests] ++ [6, s.cfg.defaultRights.byte]
      ++ [7] ++ be16 s.cfg.reportMask.toNat⟩)) ∧
    exec (.status tag []) s = .next (State.transmit (s.withHostReply .status tag [] ⟨.done,
      [match s.csq.partState with | .quiescent => 0 | .starting => 1 | .running => 2 | .halted => 3,
       flag (s.csq.haltWaiters != [])] ++ be16 (s.csq.lastCycle.getD 0).toNat ++ [s.rst.epoch, s.csq.generation]
      ++ be16 s.lgr.freeUnits ++ [byteOf ((List.range 40).filter (fun c => s.lgr.freeChannels.getLsbD c)).length,
       byteOf s.stg.edits.length, flag s.stg.frozen,
       if s.rcu.isOpen = false then 0 else if s.csq.partState = .running then 1 else 2]
      ++ be16 s.rcu.remaining ++ [byteOf s.rst.stations.length, byteOf s.rpu.queue.length, byteOf s.csq.lateRun]⟩))) ∧
  ((∀ b : Byte, byteOf b.toNat = b) ∧ (∀ hi lo : Byte, be16 (hi ++ lo).toNat = [hi, lo] ∧ word16 hi lo = (hi ++ lo).toNat) ∧
   (flag false = 0 ∧ flag true = 1) ∧ (∀ a b c d e f : Byte, tagBytes (a ++ b ++ c ++ d ++ e ++ f) = [a, b, c, d, e, f]) ∧
   (partyBytes .host = [0, 0, 0, 0, 0, 0, 0] ∧ ∀ t, partyBytes (.station t) = 1 :: tagBytes t) ∧
   (∀ c s q : Bool, Rights.byte ⟨c, s, q⟩ = 0#5 ++ BitVec.ofBool q ++ BitVec.ofBool s ++ BitVec.ofBool c) ∧
   (∀ x : ChannelSet, (setBytes x).head? = some 0 ∧ namesChannels (setBytes x) ((List.range 40).filter (fun c => x.getLsbD c)) ∧
     channelCount x = ((List.range 40).filter (fun c => x.getLsbD c)).length) ∧
   (∀ (encode : Nat × Nat → List Byte) (l : List (Nat × Nat)),
     countedList encode l = byteOf l.length :: (l.map encode).flatten) ∧
   (stateWithCause .staged = [0, 0, 0] ∧ stateWithCause .waitingStart = [1, 0, 0] ∧
     (∀ m, stateWithCause (.live m) = [2, 0, 0]) ∧ (∀ v, stateWithCause (.held v) = [4, 0, 0]) ∧
     (∀ c, stateWithCause (.retiring c) = [5, 0, 0]) ∧
     [SuspendCause.owner, .vacancy, .overlong, .absent].map (fun c => stateWithCause (.suspended c))
       = [[3, 1, 0], [3, 1, 1], [3, 1, 2], [3, 1, 3]]) ∧
   ∀ st, (stateWithCause st).head? = some st.code) ∧
  ((∀ tag body, (hostRows tag body).map (fun row => row.1.code) = [0x01, 0x02, 0x03, 0x04, 0x05, 0x06, 0x07, 0x10, 0x11, 0x12,
      0x13, 0x14, 0x20, 0x21, 0x22, 0x23, 0x24, 0x25, 0x26, 0x27, 0x28, 0x29, 0x2A, 0x30, 0x31, 0x32, 0x38]) ∧
   (∀ number epoch seq body, (stationRows number epoch seq body).map (fun row => row.1.code)
     = [0x34, 0x10, 0x11, 0x12, 0x20, 0x21, 0x22, 0x23, 0x24, 0x25, 0x28, 0x18]) ∧
   (∀ e : Edit, some e.op.kind.code = e.listed[2]?) ∧
   [ResultCode.done, .staged, .mismatch, .notPermitted, .badValue, .badPhase, .notHeld, .inUse, .overClaim, .channelTaken,
     .tableFull, .listFull, .pending, .noSuchStream, .noSuchEdit, .noSuchStation, .wrongState, .notRunning, .busy,
     .duplicateTag, .unknownKind, .aborted].map ResultCode.code
     = [0, 1, 2, 3, 4, 5, 6, 7, 8, 9, 0x0A, 0x0B, 0x0C, 0x0D, 0x0E, 0x10, 0x11, 0x12, 0x13, 0x14, 0x15, 0x16] ∧
   [EditOutcome.applied, .stale, .lateStart, .discarded].map EditOutcome.code = [0, 1, 2, 3] ∧
   [ReportKind.planCommitted, .streamChanged, .stationJoined, .stationLeft, .trunkReset, .rollCallDone, .reclaimed,
     .reclaimClosed, .holdingReleased, .editsDiscarded, .cycleLate, .overflow].map ReportKind.code
     = [1, 2, 3, 4, 5, 6, 7, 8, 9, 10, 11, 12] ∧
   [PartState.quiescent, .starting, .running, .halted].map PartState.code = [0, 1, 2, 3] ∧
   [ResetCause.start, .trunkReset, .stationBurst, .trunkFault].map ResetCause.code = [0, 1, 2, 3] ∧
   [ChangeCause.activated, .vacancy, .overlong, .talkerAbsent, .talkerPresent, .restored, .stopCount, .departure].map
     ChangeCause.code = [0, 1, 2, 3, 4, 5, 6, 7] ∧
   [Observation.pending, .served, .overlong, .vacant, .uncounted].map Observation.code = [0, 1, 2, 3, 4])

/-- R9, R10, R192: a CONFIGURE of distinct fields, each in its range, whose budget (if it carries one) covers claimed
and holding units, sets them all; FREE_UNITS moves with the budget, a report_mask becomes the Report Unit's view, and
the reply carries the whole record. With no field it changes nothing. -/
def Obligations.ConfigureSetsItsFields : Prop :=
  ∀ (s : State) (tag : Byte) (fields : List ConfigField), s.HostReady tag →
    (fields.map ConfigField.field).Nodup → (∀ f ∈ fields, f.legal) →
    let carried (id : Nat) : Option Nat := (fields.find? (fun f => f.field == id)).map ConfigField.value
    (∀ b, carried 1 = some b → s.lgr.claimedTotal + s.lgr.holdingTotal ≤ b) →
    ∃ cfg : ConfigRecord,
      cfg.budget = (carried 1).getD s.cfg.budget ∧ cfg.reclaimWindow = (carried 2).getD s.cfg.reclaimWindow ∧
      cfg.vacancyLimit = (carried 3).getD s.cfg.vacancyLimit ∧ cfg.commitLimit = (carried 4).getD s.cfg.commitLimit ∧
      cfg.remoteRequests = ((carried 5).map (fun v => decide (v = 1))).getD s.cfg.remoteRequests ∧
      cfg.defaultRights = ((carried 6).map (fun v => ⟨v.testBit 0, v.testBit 1, v.testBit 2⟩)).getD s.cfg.defaultRights ∧
      cfg.reportMask = ((carried 7).map (BitVec.ofNat 12)).getD s.cfg.reportMask ∧
      exec (.configure tag (fields.map ConfigField.bytes).flatten) s = .next (State.transmit (State.withHostReply
        { s with
          cfg := cfg
          lgr := { s.lgr with freeUnits := s.lgr.freeUnits + cfg.budget - s.cfg.budget }
          rpu := { s.rpu with mask := ((carried 7).map (BitVec.ofNat 12)).getD s.rpu.mask } }
        .configure tag (fields.map ConfigField.bytes).flatten ⟨.done, cfg.pairs⟩))

/-- R9, R202: a refused CONFIGURE changes no field. A field cut short, a flag above 1 or rights above 7 behind any fields
is BAD_VALUE with its identifier, ahead of every other check (the model's order, entry 31); else a field that appears
twice, an identifier that names no field, a value out of its range, each BAD_VALUE with the first that failed; then a
budget below claimed and holding units, IN_USE. -/
def Obligations.ConfigureRefused : Prop :=
  ∀ (s : State) (tag : Byte) (fields : List ConfigField), s.HostReady tag → (∀ f ∈ fields, f.encodable) →
    let refused (body : List Byte) (r : Reply) : Prop := body.length ≤ 248 →
      exec (.configure tag body) s = .next (State.transmit (s.withHostReply .configure tag body r))
    let body := (fields.map ConfigField.bytes).flatten
    (∀ (id : Byte) rest,
      (id.toNat ∈ [1, 2, 7] ∧ rest.length < 2) ∨ (id.toNat ∈ [3, 4, 5, 6] ∧ rest = []) ∨
        (id.toNat = 5 ∧ 1 < (rest.headD 0).toNat) ∨ (id.toNat = 6 ∧ 7 < (rest.headD 0).toNat) →
      refused (body ++ id :: rest) ⟨.badValue, [id]⟩) ∧
    (∀ before f after, fields = before ++ f :: after → (before.map ConfigField.field).Nodup →
      f.field ∈ before.map ConfigField.field → refused body ⟨.badValue, [byteOf f.field]⟩) ∧
    ((fields.map ConfigField.field).Nodup →
      (∀ (id : Byte) rest, id.toNat ∉ [1, 2, 3, 4, 5, 6, 7] → refused (body ++ id :: rest) ⟨.badValue, [id]⟩) ∧
      (∀ before f after, fields = before ++ f :: after → (∀ g ∈ before, g.legal) → ¬ f.legal →
        refused body ⟨.badValue, [byteOf f.field]⟩) ∧
      ((∀ f ∈ fields, f.legal) → ∀ b, ⟨1, b⟩ ∈ fields → b < s.lgr.claimedTotal + s.lgr.holdingTotal →
        refused body ⟨.inUse, be16 (s.lgr.claimedTotal + s.lgr.holdingTotal)⟩))

/-- R183: the owner answers the requests that wait, in the order given: each entry is ANSWERED with a reply of its own
kind and tag, and the replies join the transmit order in that order. -/
def Obligations.WaitersAreAnswered : Prop :=
  ∀ (h : HostLink) (tags : List Byte) (r : Reply), (h.table.map TableEntry.tag).Nodup → tags.Nodup →
    (∀ t ∈ tags, ∃ e ∈ h.table, e.tag = t ∧ e.state = .waiting) →
    h.answerEach tags r = { h with
      table := h.table.map (fun e =>
        if e.tag ∈ tags then { e with state := .answered ⟨e.kind, e.tag, r.code.code :: r.body⟩ } else e)
      order := h.order ++ tags.map TxItem.reply }

/-- R2: START begins a trunk reset with cause START in QUIESCENT and HALTED, its tag the newest start waiter and its
reply still to come; in STARTING and RUNNING it is answered WRONG_STATE. R3, R6: TRUNK_RESET is answered NOT_RUNNING in
QUIESCENT and HALTED. In STARTING and RUNNING it joins the start waiters and a trunk reset follows; where halt waiters
exist, the roll call is then abandoned: the start waiters are answered ABORTED, the halt waiters DONE with the last
cycle's number, and the part is HALTED with no station. That WRONG_STATE, NOT_RUNNING and ABORTED have empty bodies is the
model's choice (entry 13). -/
def Obligations.StartAndTrunkResetTaken : Prop :=
  (∀ (s : State) (tag : Byte), s.HostReady tag →
     let waiting := s.withHostWaiting .start tag []
     exec (.start tag []) s = .next (State.transmit (
       match s.csq.partState with
       | .quiescent | .halted => State.trunkReset
           { waiting with csq := { s.csq with startWaiters := s.csq.startWaiters ++ [tag] } } .start
       | .starting | .running => s.withHostReply .start tag [] ⟨.wrongState, []⟩))) ∧
  (∀ (s : State) (tag : Byte), s.HostReady tag →
     let waiting := s.withHostWaiting .trunkReset tag []
     let reset := State.trunkReset { waiting with csq := { s.csq with startWaiters := s.csq.startWaiters ++ [tag] } } .trunkReset
     let leads (t : State) : Prop := exec (.trunkReset tag []) s = .next t.transmit
     if s.csq.partState = .quiescent ∨ s.csq.partState = .halted then
       leads (s.withHostReply .trunkReset tag [] ⟨.notRunning, []⟩)
     else if s.csq.haltWaiters = [] then leads reset
     else
       leads { reset with
         csq := { reset.csq with partState := .halted, startWaiters := [], haltWaiters := [] }
         rst := { reset.rst with stations := [], rollPeriod := 0 }
         tpt := { reset.tpt with parked := [], share := none, sending := none, burst := 0 }
         hlk := (reset.hlk.answerEach (s.csq.startWaiters ++ [tag]) ⟨.aborted, []⟩).answerEach s.csq.haltWaiters
           ⟨.done, be16 (s.csq.lastCycle.getD 0).toNat⟩ })

/-- R5, R30, R140: HALT in QUIESCENT and HALTED is answered DONE; in STARTING it abandons the roll call: departures
complete, the roster is left empty and the start waiters are answered ABORTED; in RUNNING its tag joins the halt
waiters, but in a stretch the part is HALTED at once. The DONE carries the last cycle's number. The body stands in
every part state (the model's choice, entry 13). -/
def Obligations.HaltTaken : Prop :=
  ∀ (s : State) (tag : Byte), s.HostReady tag →
    let leads (t : State) : Prop := exec (.halt tag []) s = .next t.transmit
    let done : Reply := ⟨.done, be16 (s.csq.lastCycle.getD 0).toNat⟩
    let replied := s.withHostReply .halt tag [] done
    match s.csq.partState with
    | .quiescent | .halted => leads replied
    | .starting =>
      let left := (s.rst.stations.filter (fun e => e.state != .present)).foldl State.completeDeparture s
      let aborted := (s.withHostWaiting .halt tag []).hlk.answerEach s.csq.startWaiters ⟨.aborted, []⟩
      leads { left with
        csq := { s.csq with partState := .halted, phase := .none, startWaiters := [] }
        rst := { left.rst with
          stations := [], rollPeriod := 0
          known := (left.rst.stations.foldl (fun r e => r.touch e.tag) left.rst).known }
        tpt := { left.tpt with parked := [], share := none, sending := none, burst := 0, edge := false }
        hlk := aborted.answer tag done }
    | .running =>
      if s.csq.phase = .stretch then
        leads { replied with
          csq := { s.csq with partState := .halted, phase := .none }
          tpt := { s.tpt with share := none, sending := none, burst := 0, edge := false } }
      else
        leads { s.withHostWaiting .halt tag [] with csq := { s.csq with haltWaiters := s.csq.haltWaiters ++ [tag] } }

/-- R7, R188, R30: RESET answers every request that waits ABORTED, in order of receipt, then itself DONE with the part
state; the waiter lists are empty, a stretch is abandoned, and from then on no request of the host is judged (what becomes of
those of stations is a part of RequestsNotExecuted). ABORTED's empty body and the state that an abandoned stretch leaves are
the model's choice (entries 13, 33). -/
def Obligations.ResetTaken : Prop :=
  ∀ (s : State) (tag : Byte), s.HostReady tag →
    let others := (s.hlk.table.filter (fun e => e.state = .waiting)).map TableEntry.tag
    let aborted := (s.withHostWaiting .reset tag []).hlk.answerEach others ⟨.aborted, []⟩
    let t := { s with
      csq := { s.csq with
        startWaiters := [], haltWaiters := [], phase := if s.csq.phase = CyclePhase.stretch then CyclePhase.none else s.csq.phase }
      hlk := { aborted with resetting := some tag }.answer tag ⟨.done, [s.csq.partState.code]⟩ }
    exec (.reset tag []) s = .next t.transmit ∧
    ∀ (u : State) (kind : Kind) (later : Byte) (body : List Byte), u.hlk.resetting.isSome = true →
      u.hostRequest kind later body = u

/-! ### The resource ledger (chapter 3) -/

/-- R41 to R44: EXCHANGE_UNITS from the host or a station: the first check that fails decides, then a read, a claim or a
release; the reply as R44 has it, and nothing but the ledger changes. -/
def Obligations.ExchangeUnits : Prop :=
  ∀ (s : State) (sender : Sender) (p : Party) (e1 e0 n1 n0 : Byte), s.SenderReady sender p →
    (s.lgr.claims.map StationClaim.tag).Nodup →
    let body := [e1, e0, n1, n0]
    let leads (l : Ledger) (r : Reply) : Prop := exec (.exchangeUnits sender body) s =
      .next (State.transmit (State.withReply { s with lgr := l } sender .exchangeUnits body r))
    let expected := word16 e1 e0
    let proposed := word16 n1 n0
    let own := s.lgr.account p
    let rights := s.rst.rightsOf p
    if ¬ (if proposed = expected then rights.query = true else rights.claim = true) then leads s.lgr ⟨.notPermitted, []⟩
    else if s.cfg.budget < proposed then leads s.lgr ⟨.badValue, be16 s.cfg.budget⟩
    else if s.lgr.freeUnits ≠ expected then leads s.lgr ⟨.mismatch, be16 s.lgr.freeUnits⟩
    else if proposed = expected then leads s.lgr ⟨.done, be16 s.lgr.freeUnits⟩
    else if proposed < expected then
      leads { s.lgr.withAccount p { own with claimed := own.claimed + (expected - proposed) } with freeUnits := proposed }
        ⟨.done, be16 s.lgr.freeUnits⟩
    else if own.claimed < proposed - expected then leads s.lgr ⟨.notHeld, be16 own.claimed ++ be16 own.committed⟩
    else if own.claimed - own.committed < proposed - expected then
      leads s.lgr ⟨.inUse, be16 own.claimed ++ be16 own.committed⟩
    else
      leads { s.lgr.withAccount p { own with claimed := own.claimed - (proposed - expected) } with freeUnits := proposed }
        ⟨.done, be16 s.lgr.freeUnits⟩

/-- R45 to R47, R201: EXCHANGE_CHANNELS with its two sets in either form; `es` and `ns` are the channel numbers they
name, `e` and `n` the sets of those, where all lie in 0 to 39. -/
def Obligations.ExchangeChannels : Prop :=
  ∀ (s : State) (sender : Sender) (p : Party) (b1 b2 : List Byte) (es ns : List Nat), s.SenderReady sender p →
    (s.lgr.claims.map StationClaim.tag).Nodup → namesChannels b1 es → namesChannels b2 ns →
    bodyFits sender (b1 ++ b2) = true →
    let leads (l : Ledger) (r : Reply) : Prop := exec (.exchangeChannels sender (b1 ++ b2)) s =
      .next (State.transmit (State.withReply { s with lgr := l } sender .exchangeChannels (b1 ++ b2) r))
    let own := s.lgr.account p
    let free := s.lgr.freeChannels
    let rights := s.rst.rightsOf p
    let e := channelSetOf es
    let n := channelSetOf ns
    let claimed := e &&& ~~~n
    let released := n &&& ~~~e
    if ¬ (if es ⊆ ns ∧ ns ⊆ es then rights.query = true else rights.claim = true) then
      leads s.lgr ⟨.notPermitted, []⟩
    else if ∃ c ∈ es ++ ns, 40 ≤ c then leads s.lgr ⟨.badValue, []⟩
    else if free ≠ e then leads s.lgr ⟨.mismatch, setBytes free⟩
    else if n = e then leads s.lgr ⟨.done, setBytes free⟩
    else if released &&& ~~~own.held ≠ 0 then leads s.lgr ⟨.notHeld, setBytes (released &&& ~~~own.held)⟩
    else if released &&& channelSetOf (own.bound.map Prod.fst) ≠ 0 then
      leads s.lgr ⟨.inUse, setBytes (released &&& channelSetOf (own.bound.map Prod.fst))⟩
    else
      leads { s.lgr.withAccount p { own with held := (own.held ||| claimed) &&& ~~~released } with freeChannels := n }
        ⟨.done, setBytes free⟩

/-- R48: LEDGER_READ is answered DONE with the parts that the sender may see; the parts' presence bits and the zero
bytes of absent ones stand as entry 10 has them, and the host's own holding as an absent part (entry 36). R50: CLAIM_LIST
answers a first index beyond the list with BAD_VALUE and the list's length N; else with N, the list revision, the "more" flag,
and as many whole entries from that index on as 16 and 243 bytes hold: the claim records, the host's first, each opened by 0,
then the holdings, oldest first, each opened by 1, with the fields of 12. R36: a party's account is that of its claim record,
empty where it has none, and a change of it changes that record alone. That N and the count of entries both stand in the body
and the code of a saved state are the model's choice (entries 11, 12). -/
def Obligations.LedgerReads : Prop :=
  (∀ (s : State) (sender : Sender) (p : Party), s.SenderReady sender p →
     let l := s.lgr
     let sees := p = .host ∨ (s.rst.rightsOf p).query = true
     let holding : Option Holding := match p with
       | .host => none
       | .station t => l.holdings.find? (fun h => h.tag = t)
     exec (.ledgerRead sender []) s = .next (State.transmit (s.withReply sender .ledgerRead [] ⟨.done,
       [byteOf ((if sees then 3 else 0) + (if (l.account? p).isSome then 4 else 0) + (if holding.isSome then 8 else 0)
         + (if p = .host then 16 else 0))]
       ++ (if sees then be16 l.freeUnits ++ setBytes l.freeChannels else List.replicate 8 0)
       ++ (match l.account? p with
           | some a => partyBytes p ++ be16 a.claimed ++ be16 a.committed ++ setBytes a.held
               ++ countedList (fun b => [byteOf b.1, byteOf b.2]) a.bound
           | none => List.replicate 18 0)
       ++ (match holding with
           | some h => be16 h.units ++ setBytes h.channels ++ [byteOf h.streams.length, h.epoch]
           | none => List.replicate 10 0)
       ++ (if p = .host then
           be16 (l.host.claimed + (l.claims.map (fun c => c.account.claimed)).sum)
           ++ be16 (l.host.committed + (l.claims.map (fun c => c.account.committed)).sum)
           ++ be16 (l.holdings.map Holding.units).sum ++ [byteOf (l.claims.length + 1), byteOf l.holdings.length]
          else List.replicate 8 0)
       ++ be16 s.cfg.budget⟩))) ∧
  (∀ (s : State) (tag first : Byte), s.HostReady tag →
     let leads (r : Reply) : Prop :=
       exec (.claimList tag [first]) s = .next (State.transmit (s.withHostReply .claimList tag [first] r))
     let claimLine (p : Party) (a : Account) : List Byte := [0] ++ partyBytes p ++ be16 a.claimed ++ be16 a.committed
       ++ setBytes a.held ++ byteOf a.bound.length :: (a.bound.map (fun b => [byteOf b.1, byteOf b.2])).flatten
     let holdingLine (h : Holding) : List Byte := [1] ++ tagBytes h.tag ++ be16 h.units ++ setBytes h.channels ++ [h.epoch]
       ++ byteOf h.streams.length
         :: (h.streams.map (fun x => [byteOf x.id] ++ be16 x.charge ++ [s.savedByte x.id])).flatten
     let entries := claimLine .host s.lgr.host :: s.lgr.claims.map (fun c => claimLine (.station c.tag) c.account)
       ++ s.lgr.holdings.map holdingLine
     let rest := entries.drop first.toNat
     if entries.length < first.toNat then leads ⟨.badValue, [byteOf entries.length]⟩
     else
       ∃ k ≤ min 16 rest.length, (rest.take k).flatten.length ≤ 243 ∧
         (k < min 16 rest.length → 243 < (rest.take (k + 1)).flatten.length) ∧
         leads ⟨.done, [byteOf entries.length, s.lgr.revision, flag (k < rest.length), byteOf k] ++ (rest.take k).flatten⟩) ∧
  (∀ (l : Ledger) (t : Tag) (f : Account → Account), (l.claims.map StationClaim.tag).Nodup →
     (l.account .host = l.host ∧ l.account? .host = some l.host ∧ l.update .host f = { l with host := f l.host }) ∧
     (∀ c ∈ l.claims, c.tag = t → l.account (.station t) = c.account ∧ l.account? (.station t) = some c.account) ∧
     ((∀ c ∈ l.claims, c.tag ≠ t) → l.account (.station t) = ⟨0, 0, 0, []⟩ ∧ l.account? (.station t) = none) ∧
     l.update (.station t) f = { l with
       claims := l.claims.map (fun c => if c.tag = t then { c with account := f c.account } else c) })

/-- R51, R82, R157: DISCARD_HOLDING of a tag without a holding is answered NOT_HELD. Else the holding ends: its
streams are removed, its units and channels are free, HOLDING_RELEASED is offered, a station with the tag is told,
and a window left without holdings closes with RECLAIM_CLOSED. The counts of lists in reports stand as entry 11 has
them, and NOT_HELD's empty body as entry 13. -/
def Obligations.HoldingDiscarded : Prop :=
  ∀ (s : State) (tag : Byte) (t : Tag), s.HostReady tag → s.keyed → s.positioned → s.heldInPlace →
    let c := Instr.discardHolding tag (tagBytes t)
    ((∀ h ∈ s.lgr.holdings, h.tag ≠ t) → exec c s =
      .next (State.transmit (s.withHostReply .discardHolding tag (tagBytes t) ⟨.notHeld, []⟩))) ∧
    ∀ h ∈ s.lgr.holdings, h.tag = t →
      ∃ u : State, exec c s = .next (State.transmit (u.withHostReply .discardHolding tag (tagBytes t)
          ⟨.done, be16 h.units ++ [byteOf (channelCount h.channels), byteOf h.streams.length]⟩)) ∧
        s.holdingEnded h 0 u ∧
        (∀ e ∈ s.rst.stations, e.tag = t →
          let told := s.handNotice e.number .claimReleased
            ([0] ++ be16 h.units ++ setBytes h.channels ++ [byteOf h.streams.length])
          u.tpt = told.tpt ∧ u.rst = told.rst) ∧
        ((∀ e ∈ s.rst.stations, e.tag ≠ t) → u.tpt = s.tpt ∧ u.rst = s.rst)

/-! ### The staging list (chapter 5) -/

/-- R91 to R97: ADMIT from the host or a station: the first check that fails decides; else the charge and the binding
are laid, a STAGED record takes the lowest free position, and the edit joins the list with the counter's number. The
place of the presence byte is the model's choice (entry 10), and so are the order by channel of the bound map (entry
15) and that of range failures by layout (entry 37). -/
def Obligations.AdmitTaken : Prop :=
  ∀ (s : State) (sender : Sender) (p : Party) (a : AdmitRequest), s.SenderReady sender p → a.encodable → s.positioned →
    (s.lgr.claims.map StationClaim.tag).Nodup → s.editsInPlace →
    let leads (t : State) (r : Reply) : Prop :=
      exec (.admitStream sender a.bytes) s = .next (State.transmit (t.withReply sender .admitStream a.bytes r))
    let owner : Party := match p with
      | .host => a.owner.getD .host
      | .station t => .station t
    let talker : Tag := match owner with
      | .host => a.talker.getD 0
      | .station t => t
    let misaligned : Nat := match a.start with
      | some c => (c - BitVec.ofNat 16 a.phase).toNat % a.period
      | none => 0
    let account := s.lgr.account owner
    let held := account.held.getLsbD a.channel
    if (s.rst.rightsOf p).stream = false then leads s ⟨.notPermitted, []⟩
    else if a.owner.isSome = decide (p ≠ .host) then leads s ⟨.badValue, [1]⟩
    else if (if p = .host ∧ owner = .host then a.talker = none else a.talker ≠ none ∧ (p ≠ .host ∨ a.talker ≠ some talker))
      then leads s ⟨.badValue, [2]⟩
    else if 40 ≤ a.channel then leads s ⟨.badValue, [3]⟩
    else if a.units < 2 ∨ 512 < a.units then leads s ⟨.badValue, [4]⟩
    else if a.period ∉ [1, 2, 4, 8, 16] then leads s ⟨.badValue, [5]⟩
    else if a.period ≤ a.phase then leads s ⟨.badValue, [6]⟩
    else if a.stop = some 0 then leads s ⟨.badValue, [8]⟩
    else if misaligned ≠ 0 then leads s ⟨.badPhase, [byteOf misaligned]⟩
    else if p ≠ .host ∧ held = false then leads s ⟨.notHeld, [byteOf a.channel]⟩
    else if p = .host ∧ owner ≠ .host ∧ ¬ (∃ e ∈ s.rst.stations, e.tag = talker ∧ e.state = .present) then
      leads s ⟨.noSuchStation, tagBytes talker⟩
    else if 40 ≤ s.streams.length then leads s ⟨.tableFull, []⟩
    else if ∃ r ∈ s.streams, r.channel = a.channel then leads s ⟨.channelTaken, [byteOf a.channel]⟩
    else if 16 ≤ s.stg.edits.length then leads s ⟨.listFull, [flag s.stg.frozen]⟩
    else if account.claimed < account.committed + a.units then
      leads s ⟨.overClaim, be16 account.claimed ++ be16 account.committed⟩
    else if held = false then leads s ⟨.notHeld, [byteOf a.channel]⟩
    else
      ∃ (id : Nat) (next : BitVec 16), id < 40 ∧ (∀ r ∈ s.streams, r.id ≠ id) ∧ (∀ j < id, ∃ r ∈ s.streams, r.id = j) ∧
        followsNumber (s.stg.next :: s.stg.edits.map Edit.number) s.stg.next next ∧
        leads { s with
          lgr := s.lgr.withAccount owner { account with
            committed := account.committed + a.units, bound := bindIn account.bound a.channel id }
          streams := s.streams.take id ++ [{
            id := id, owner := owner, talker := talker, channel := a.channel, units := a.units, period := a.period
            phase := a.phase, start := a.start, stop := a.stop, state := .staged, pendingResize := none
            restoreMark := false, servicesDone := 0, vacantRun := 0, vacantTotal := 0, overlongRun := 0 }]
            ++ s.streams.drop id
          stg := { s.stg with
            edits := s.stg.edits ++ [⟨s.stg.next, p,
              .admitStream ⟨owner, talker, a.channel, a.units, a.period, a.phase, a.start, a.stop⟩, id,
              s.csq.lastCycle.getD 0⟩]
            next := next } }
          ⟨.staged, be16 s.stg.next.toNat ++ [byteOf id, byteOf (s.stg.edits.length + 1), flag s.stg.frozen]⟩

/-- R91 to R97: RETIRE, SUSPEND, RESUME and RESIZE from the host or a station: the first check that fails decides; else
an upward RESIZE's increase is charged, a RESIZE's units are pending on the record, and the edit joins the list. The
presence byte in WRONG_STATE's body and PENDING's body without the stream id are the model's choice (entries 10, 38). -/
def Obligations.StreamEditTaken : Prop :=
  ∀ (s : State) (sender : Sender) (p : Party) (id hi lo : Byte), s.SenderReady sender p → s.positioned →
    (s.lgr.claims.map StationClaim.tag).Nodup → s.editsInPlace →
    ∀ row ∈ [(Kind.retire, [id], Instr.retire sender [id]), (Kind.suspend, [id], Instr.suspend sender [id]),
        (Kind.resume, [id], Instr.resume sender [id]), (Kind.resize, [id, hi, lo], Instr.resize sender [id, hi, lo])],
      let leads (t : State) (r : Reply) : Prop :=
        exec row.2.2 s = .next (State.transmit (t.withReply sender row.1 row.2.1 r))
      let units := word16 hi lo
      if (s.rst.rightsOf p).stream = false then leads s ⟨.notPermitted, []⟩
      else if 40 ≤ id.toNat then leads s ⟨.badValue, [1]⟩
      else if row.1 = .resize ∧ (units < 2 ∨ 512 < units) then leads s ⟨.badValue, [2]⟩
      else if p ≠ .host ∧ ¬ (∃ r ∈ s.streams, r.id = id.toNat ∧ r.owner = p) then leads s ⟨.notPermitted, []⟩
      else if ∀ r ∈ s.streams, r.id ≠ id.toNat then leads s ⟨.noSuchStream, [id]⟩
      else
        ∀ r ∈ s.streams, r.id = id.toNat →
          let admitted : Bool := match r.state with
            | .suspended _ => true
            | .live _ | .waitingStart => row.1 != .resume
            | _ => false
          let account := s.lgr.account r.owner
          if admitted = false then leads s ⟨.wrongState, stateWithCause r.state⟩
          else if ∃ e ∈ s.stg.edits, e.stream = r.id then
            ∀ e ∈ s.stg.edits, e.stream = r.id → leads s ⟨.pending, be16 e.number.toNat ++ [e.op.kind.code]⟩
          else if 16 ≤ s.stg.edits.length then leads s ⟨.listFull, [flag s.stg.frozen]⟩
          else if row.1 = .resize ∧ r.units < units ∧ account.claimed < account.committed + (units - r.units) then
            leads s ⟨.overClaim, be16 account.claimed ++ be16 account.committed⟩
          else
            ∃ next : BitVec 16, followsNumber (s.stg.next :: s.stg.edits.map Edit.number) s.stg.next next ∧
              leads { s with
                lgr := if row.1 = .resize ∧ r.units < units then
                    s.lgr.withAccount r.owner { account with committed := account.committed + (units - r.units) }
                  else s.lgr
                streams := if row.1 = .resize then
                    s.streams.map (fun x => if x.id = r.id then { x with pendingResize := some units } else x)
                  else s.streams
                stg := { s.stg with
                  edits := s.stg.edits ++ [⟨s.stg.next, p,
                    (match row.1 with
                      | .retire => .retire
                      | .suspend => .suspend
                      | .resume => .resume
                      | _ => .resize units (if r.units < units then .up else if units < r.units then .down else .same)),
                    r.id, s.csq.lastCycle.getD 0⟩]
                  next := next } }
                ⟨.staged, be16 s.stg.next.toNat ++ [id, byteOf (s.stg.edits.length + 1), flag s.stg.frozen]⟩

/-- R106, R107: WITHDRAW from the host or a station: the first check that fails decides; else the edit leaves the list
and its acceptance is undone: an ADMIT's record is removed with its charge and binding, a RESIZE's pending units become
absent and an upward one's increase is uncharged. A PRESENT station whose edit the host withdraws is told. The empty
bodies of NO_SUCH_EDIT and NOT_PERMITTED and the field in BAD_VALUE are the model's choice (entries 13, 35). -/
def Obligations.WithdrawTaken : Prop :=
  ∀ (s : State) (sender : Sender) (p : Party) (hi lo : Byte), s.SenderReady sender p → s.positioned → s.keyed →
    s.editsInPlace → s.stagedInPlace →
    let body := [hi, lo]
    let leads (t : State) (r : Reply) : Prop :=
      exec (.withdraw sender body) s = .next (State.transmit (t.withReply sender .withdraw body r))
    if (s.rst.rightsOf p).stream = false then leads s ⟨.notPermitted, []⟩
    else if word16 hi lo = 0 then leads s ⟨.badValue, [1]⟩
    else if ∀ e ∈ s.stg.edits, e.number ≠ hi ++ lo then leads s ⟨.noSuchEdit, []⟩
    else
      ∀ e ∈ s.stg.edits, e.number = hi ++ lo → ∀ r ∈ s.streams, r.id = e.stream →
        if p ≠ .host ∧ e.submitter ≠ p then leads s ⟨.notPermitted, []⟩
        else
          let left := { s with stg := { s.stg with edits := s.stg.edits.filter (fun x => x.number != e.number) } }
          let cleared := s.streams.map (fun x => if x.id = r.id then { x with pendingResize := none } else x)
          let undone : State := match e.op with
            | .admitStream _ => { left with
                streams := s.streams.filter (fun x => x.id != r.id)
                lgr := s.lgr.update r.owner (fun a => { a with
                  committed := a.committed - r.charge, bound := a.bound.filter (fun b => b.1 != r.channel) }) }
            | .resize units .up => { left with
                streams := cleared
                lgr := s.lgr.update r.owner (fun a => { a with committed := a.committed - (units - r.units) }) }
            | .resize _ _ => { left with streams := cleared }
            | .retire | .suspend | .resume => left
          leads (match p, e.submitter with
              | .host, .station t => undone.noticeIfPresent t .editOutcome [hi, lo, byteOf e.stream, 3]
              | _, _ => undone)
            ⟨.done, [hi, lo, e.op.kind.code, byteOf e.stream, byteOf (s.stg.edits.length - 1)]⟩

/-- R104: FREEZE sets FROZEN and THAW clears it; each is answered DONE with the flag and the number of edits pending.
While it is set no edit is committed. -/
def Obligations.FreezeAndThaw : Prop :=
  (∀ (s : State) (tag : Byte), s.HostReady tag →
    exec (.freeze tag []) s = .next (State.transmit (State.withHostReply { s with stg := { s.stg with frozen := true } }
      .freeze tag [] ⟨.done, [1, byteOf s.stg.edits.length]⟩)) ∧
    exec (.thaw tag []) s = .next (State.transmit (State.withHostReply { s with stg := { s.stg with frozen := false } }
      .thaw tag [] ⟨.done, [0, byteOf s.stg.edits.length]⟩))) ∧
  (∀ (s : State) (n : Cycle), s.stg.frozen = true → s.commit n = s)

/-- R68, R100, R101: what the commit of an edit at boundary n does to its stream, and its outcome. That a SUSPEND clears
the restore mark at the commit is the model's choice (entry 19). -/
def Obligations.EditCommitted : Prop :=
  ∀ (s : State) (n : Cycle) (e : Edit) (r : StreamRecord), s.positioned → r ∈ s.streams → r.id = e.stream →
    let leads (r1 : StreamRecord) (o : EditOutcome) : Prop := s.commitEdit n e =
      ({ s with streams := s.streams.map (fun x => if x.id = r.id then r1 else x) }, o)
    let stale : Prop := s.commitEdit n e = (s, .stale)
    let talkerPresent := ∃ e ∈ s.rst.stations, e.tag = r.talker ∧ e.state = .present
    let entered (r1 : StreamRecord) : Prop := match r.start with
      | none => leads { r1 with state := .live none } .applied
      | some c =>
        if c = n then leads { r1 with state := .live none } .applied
        else if (c - n).toNat ≤ 32767 then leads { r1 with state := .waitingStart } .applied
        else leads { r1 with state := .live none } .lateStart
    let inService : Bool := match r.state with
      | .live _ | .waitingStart | .suspended _ => true
      | _ => false
    (∀ a, e.op = .admitStream a → r.state = .staged →
      (talkerPresent → entered r) ∧ (¬ talkerPresent → leads { r with state := .suspended .absent } .applied)) ∧
    (e.op = .retire → if inService then
        s.commitEdit n e = ({ s with
          streams := s.streams.filter (fun x => x.id != r.id)
          lgr := s.lgr.update r.owner (fun a => { a with
            committed := a.committed - r.charge, bound := a.bound.filter (fun b => b.1 != r.channel) })
          stg := { s.stg with edits := s.stg.edits.filter (fun x => x.stream != r.id) } }, .applied)
      else stale) ∧
    (∀ units d, e.op = .resize units d → if inService then
        s.commitEdit n e = ({ s with
          streams := s.streams.map (fun x => if x.id = r.id then { r with units := units, pendingResize := none } else x)
          lgr := if d = .down then
              s.lgr.update r.owner (fun a => { a with committed := a.committed - (r.units - units) }) else s.lgr },
          .applied)
      else stale) ∧
    (e.op = .suspend →
      if inService then leads { r with state := .suspended .owner, restoreMark := false } .applied else stale) ∧
    (e.op = .resume → match r.state with
      | .suspended _ =>
        (talkerPresent → entered { r with vacantRun := 0, overlongRun := 0 }) ∧
        (¬ talkerPresent → leads { r with state := .suspended .absent } .applied)
      | _ => stale)

/-- R99, R102, R103: an unfrozen commit takes up to commit_limit edits from the head of the list, in order; each tells
its outcome to the submitting station, or to the station owner of a stream that the host's edit names; and one
PLAN_COMMITTED report lists those taken, if any, their number sent once, as the count byte (entry 11). -/
def Obligations.CommitTakesFromTheHead : Prop :=
  ∀ (s : State) (n : Cycle), s.stg.frozen = false → s.editsInPlace →
    (s.commit n).stg = { s.stg with edits := s.stg.edits.drop s.cfg.commitLimit } ∧
    (s.stg.edits = [] → s.commit n = s) ∧
    (∀ e rest, s.stg.edits = e :: rest →
      let r := State.commitEdit { s with stg := { s.stg with edits := rest } } n e
      let told (t : Tag) : Prop :=
        s.commitHead n e rest = (r.1.noticeIfPresent t .editOutcome
          (be16 e.number.toNat ++ [byteOf e.stream, r.2.code]), r.2)
      (∀ t, e.submitter = .station t → told t) ∧
      (∀ x ∈ s.streams, x.id = e.stream → (s.streams.map StreamRecord.id).Nodup → e.submitter = .host →
        (∀ t, x.owner = .station t → told t) ∧ (x.owner = .host → s.commitHead n e rest = r)) ∧
      ∀ k, State.commitUpTo n (k + 1) s =
        ((State.commitUpTo n k (s.commitHead n e rest).1).1,
          (e, (s.commitHead n e rest).2) :: (State.commitUpTo n k (s.commitHead n e rest).1).2)) ∧
    (s.stg.edits ≠ [] → 1 ≤ s.cfg.commitLimit →
      let taken := (State.commitUpTo n s.cfg.commitLimit s).2
      taken.map Prod.fst = s.stg.edits.take s.cfg.commitLimit ∧
      s.commit n = (State.commitUpTo n s.cfg.commitLimit s).1.offer .planCommitted
        (be16 n.toNat ++ byteOf taken.length :: (taken.map (fun x => x.1.listed ++ [x.2.code])).flatten
        ++ [byteOf (s.stg.edits.drop s.cfg.commitLimit).length, 0]))

/-! ### Streams, the boundary and the slot plan (chapters 2, 4 and 6) -/

/-- R85, R86: STREAM_READ and STREAM_LIST change nothing; a station without QUERY reads its own streams only, and
STREAM_LIST has a line for each record, by ascending id. R148: ROSTER_READ refuses a first index beyond the list with
its length; else it shows the epoch, the part state, the length, the "more" flag and up to 16 entries from that index
on, of the roster or of the known-tag list. The 39 bytes of a record are those of 12. The places of presence bytes, the
counts of lists, the codes of names, the empty bodies of NO_SUCH_STREAM and NOT_PERMITTED and the field in STREAM_READ's
BAD_VALUE are the model's choice (entries 10 to 13, 35), and so is that R85 and not R130 says what a station without QUERY
reads (entry 45). -/
def Obligations.StreamsAndRosterRead : Prop :=
  ((∀ (s : State) (sender : Sender) (p : Party) (id : Byte), s.SenderReady sender p → s.positioned →
     let leads (r : Reply) : Prop :=
       exec (.streamRead sender [id]) s = .next (State.transmit (s.withReply sender .streamRead [id] r))
     let query := (s.rst.rightsOf p).query = true
     if 40 ≤ id.toNat then leads ⟨.badValue, [1]⟩
     else if ∀ r ∈ s.streams, r.id ≠ id.toNat then (if query then leads ⟨.noSuchStream, []⟩ else leads ⟨.notPermitted, []⟩)
     else ∀ r ∈ s.streams, r.id = id.toNat →
       let optional (n : Option Nat) : List Byte := be16 (n.getD 0)
       let cause (c : Option SuspendCause) : Byte := match c with
         | none | some .owner => 0
         | some .vacancy => 1
         | some .overlong => 2
         | some .absent => 3
       let suspend : Option SuspendCause := match r.state with
         | .suspended c => some c
         | _ => none
       let saved : Option SavedState := match r.state with
         | .held v => some v
         | _ => none
       let retire : Option RetireCause := match r.state with
         | .retiring c => some c
         | _ => none
       let mark : Option Mark := match r.state with
         | .live m => m
         | _ => none
       let present := [r.start.isSome, r.stop.isSome, suspend.isSome, saved.isSome, retire.isSome,
         r.pendingResize.isSome, mark.isSome]
       let body : List Byte :=
         [id, (match r.state with
           | .staged => 0 | .waitingStart => 1 | .live _ => 2 | .suspended _ => 3 | .held _ => 4 | .retiring _ => 5),
           byteOf ((List.range 7).map (fun i => if present.getD i false then 2 ^ i else 0)).sum]
         ++ partyBytes r.owner ++ tagBytes r.talker ++ [byteOf r.channel] ++ be16 r.units
         ++ [byteOf r.period, byteOf r.phase] ++ optional (r.start.map BitVec.toNat) ++ optional r.stop
         ++ [cause suspend,
             (match saved with | none => 0 | some .waitingStart => 1 | some .live => 2 | some (.suspended _) => 3),
             (match saved with | some (.suspended c) => cause (some c) | _ => 0),
             (match retire with | some .departure => 1 | _ => 0)]
         ++ optional r.pendingResize ++ [(match mark with | some .overlong => 1 | _ => 0), flag r.restoreMark]
         ++ be16 r.servicesDone ++ [byteOf r.vacantRun] ++ be16 r.vacantTotal ++ [byteOf r.overlongRun]
       if query ∨ r.owner = p then leads ⟨.done, body⟩ else leads ⟨.notPermitted, []⟩) ∧
   (∀ (s : State) (tag : Byte), s.HostReady tag →
     exec (.streamList tag []) s = .next (State.transmit (s.withHostReply .streamList tag [] ⟨.done,
       byteOf s.streams.length :: (s.streams.map (fun r => [byteOf r.id, r.state.code,
         (match r.owner with | .host => 0 | .station _ => 1), byteOf r.channel])).flatten⟩)))) ∧
  (∀ (s : State) (tag first : Byte) (known : Bool), s.HostReady tag →
     let body := [flag known, first]
     let leads (r : Reply) : Prop :=
       exec (.rosterRead tag body) s = .next (State.transmit (s.withHostReply .rosterRead tag body r))
     let lines : List (List Byte) :=
       if known then s.rst.known.map (fun k => tagBytes k.tag ++ [k.rights.byte, flag k.last.isSome, byteOf (k.last.getD 0),
         flag (s.rst.stations.any (fun e => e.tag == k.tag))])
       else s.rst.stations.map (fun e => [byteOf e.number] ++ tagBytes e.tag
         ++ (match e.state with
             | .present => ([0, 0, 0] : List Byte)
             | .departing .leave _ => [1, 1, 0]
             | .departing .evict _ => [1, 1, 1])
         ++ [e.joinedEpoch] ++ be16 e.joinedCycle.toNat
         ++ [byteOf (s.tpt.parked.filter (fun p => p.number == e.number)).length, flag e.dropped])
     let page := (lines.drop first.toNat).take 16
     if lines.length < first.toNat then leads ⟨.badValue, [byteOf lines.length]⟩
     else leads ⟨.done, [s.rst.epoch, s.csq.partState.code, byteOf lines.length,
       flag (first.toNat + page.length < lines.length), byteOf page.length] ++ page.flatten⟩)

/-- R77, R84: removing a record frees its position, its charge and its channel on its owner's account, or from the
holding when it is HELD, and takes an edit pending for it out of the list. An announcement, of a new state or of a removal,
offers STREAM_CHANGED and tells a PRESENT station owner. R75, R83, R111, R145: the first step of a boundary removes every
RETIRING record in turn; the edits that went with them are reported in one EDITS_DISCARDED(REMOVAL), and each is told
DISCARDED to its submitting station, or to the station owner of a stream that the host's edit named; then departures
complete, by ascending number. The code of the state Removed is a free value (entry 8); presence bytes stand as entry 10
has them, and the order of reports and notices, and of the edits within the report, as entry 14. -/
def Obligations.RecordRemovedAndAnnounced : Prop :=
  (∀ (s : State) (r : StreamRecord), s.positioned → r ∈ s.streams →
    s.removeRecord r.id = { s with
      streams := s.streams.filter (fun x => x.id != r.id)
      stg := { s.stg with edits := s.stg.edits.filter (fun e => e.stream != r.id) }
      lgr := match r.isHeld, r.owner with
        | true, .station t => s.lgr.dropHeld t r.id
        | _, _ => s.lgr.update r.owner (fun a => { a with
            committed := a.committed - max r.units (r.pendingResize.getD 0)
            bound := a.bound.filter (fun b => b.1 != r.channel) }) }) ∧
  (∀ (s : State) (r : StreamRecord) (new : StreamState) (cause : ChangeCause) (late : Bool),
    let offered := s.offer .streamChanged (byteOf r.id :: partyBytes r.owner ++ [byteOf r.channel]
      ++ stateWithCause new ++ [cause.code, flag late])
    s.announce r (some new) cause late = match r.owner with
      | .host => offered
      | .station t => offered.noticeIfPresent t .streamState
          (byteOf r.id :: stateWithCause new ++ [cause.code, flag late])) ∧
  (∀ (s : State) (r : StreamRecord) (cause : ChangeCause) (late : Bool),
    let removed : List Byte := [Config.removedStateCode, 0, 0, cause.code, flag late]
    let offered := s.offer .streamChanged (byteOf r.id :: partyBytes r.owner ++ [byteOf r.channel] ++ removed)
    s.announce r none cause late = match r.owner with
      | .host => offered
      | .station t => offered.noticeIfPresent t .streamState (byteOf r.id :: removed)) ∧
  (∀ s : State, s.positioned →
    let retiring (e : Edit) : Bool := s.streams.any (fun r => r.id == e.stream && r.isRetiring)
    let stranded := s.stg.edits.filter retiring
    let removed := (s.streams.filter StreamRecord.isRetiring).foldl (fun u r => State.removeRetiring r u) s
    let reported := if stranded = [] then removed else removed.offer .editsDiscarded
      ([2, 0, 0, 0, 0, 0, 0, 0] ++ byteOf stranded.length :: (stranded.map Edit.listed).flatten)
    let told := stranded.foldl (fun u e =>
      let outcome := be16 e.number.toNat ++ [byteOf e.stream, 3]
      match e.submitter, (s.streams.find? (fun r => r.id == e.stream)).map StreamRecord.owner with
      | .station t, _ => u.noticeIfPresent t .editOutcome outcome
      | .host, some (.station t) => u.noticeIfPresent t .editOutcome outcome
      | .host, _ => u) reported
    s.removals = (told.rst.stations.filter (fun e => e.state != .present)).foldl State.completeDeparture told ∧
    removed.streams = s.streams.filter (fun r => !r.isRetiring) ∧
    removed.stg = { s.stg with edits := s.stg.edits.filter (fun e => !retiring e) })

/-- R70, R73 to R76, R81, R125: what each step of a boundary's work does to one record: a RETIRING record is removed;
a host stream whose talker departed is SUSPENDED(ABSENT); a marked LIVE stream is suspended; a restored stream enters
service; a WAITING_START stream whose cycle has come is activated; a host stream whose talker is back resumes. R83: the
boundary's work is these six steps in this order, each over every record, the departures within the first; a projection
takes the marks at its first boundary only (R116). Within a step the records come by ascending id (entry 14). -/
def Obligations.BoundaryWorkOnARecord : Prop :=
  (∀ (s : State) (n : Cycle) (marks : Bool),
    let each (step : StreamRecord → State → State) (u : State) : State := (u.streams.map StreamRecord.id).foldl
      (fun v id => match v.streams.find? (fun r => r.id == id) with
        | some r => step r v
        | none => v) u
    let departed := (s.rst.stations.filter (fun e => e.state != .present)).map Station.tag
    let suspended := each (State.suspendDeparted departed) s.removals
    let marked := if marks = true then each State.applyMark suspended else suspended
    s.boundaryWork n marks = each (State.returnTalker n) (each (State.activate n) (each (State.restore n) marked))) ∧
  ∀ (s : State) (n : Cycle) (departed : List Tag) (r : StreamRecord),
    let present := s.rst.isPresent r.talker = true
    let entered : StreamState × Bool := match r.start with
      | none => (.live none, false)
      | some c => if c = n then (.live none, false) else if (c - n).toNat ≤ 32767 then (.waitingStart, false)
          else (.live none, true)
    let changed (r1 : StreamRecord) (new : StreamState) (cause : ChangeCause) (late : Bool) : State :=
      (s.putStream { r1 with state := new }).announce r1 (some new) cause late
    let plain := { r with restoreMark := false }
    (∀ c, r.state = .retiring c → State.removeRetiring r s = (s.removeRecord r.id).announce r none
      (match c with | .stopCount => .stopCount | .departure => .departure) false) ∧
    ((∀ c, r.state ≠ .retiring c) → State.removeRetiring r s = s) ∧
    State.suspendDeparted departed r s =
      (if r.owner = .host ∧ r.talker ∈ departed ∧ (r.isLive = true ∨ r.state = .waitingStart) then
        changed r (.suspended .absent) .talkerAbsent false else s) ∧
    (∀ m, r.state = .live m → State.applyMark r s =
      (if m = some .overlong then changed r (.suspended .overlong) .overlong false
       else if s.cfg.vacancyLimit ≠ 0 ∧ s.cfg.vacancyLimit ≤ r.vacantRun then changed r (.suspended .vacancy) .vacancy false
       else s.putStream { r with state := .live none })) ∧
    (r.isLive = false → State.applyMark r s = s) ∧
    State.restore n r s =
      (if r.restoreMark = false then s
       else if r.isLive = true ∨ r.state = .waitingStart then
         if present then changed plain entered.1 .restored entered.2 else changed plain (.suspended .absent) .restored false
       else changed plain r.state .restored false) ∧
    State.activate n r s =
      (if r.state = .waitingStart ∧ r.start = some n then
        changed r (if present then .live none else .suspended .absent) .activated false else s) ∧
    State.returnTalker n r s =
      (if r.owner = .host ∧ r.state = .suspended .absent ∧ present then changed r entered.1 .talkerPresent entered.2 else s)

/-- R16, R18, R20, R113: the slot list of cycle n has an entry for each LIVE stream with (n − phase) mod period 0 and for
no other, by ascending period and then channel, the first at the header's size and each other where the one before it
ends; a talker is named by its station number. -/
def Obligations.SlotsLieEndToEnd : Prop :=
  ∀ (s : State) (n : Cycle), s.positioned → s.channelsApart →
    let due := s.streams.filter (fun r => r.isLive && (n - BitVec.ofNat 16 r.phase).toNat % r.period == 0)
    ∃ order : List StreamRecord, order.Perm due ∧
      order.Pairwise (fun a b => a.period < b.period ∨ a.period = b.period ∧ a.channel < b.channel) ∧
      (s.slotList n).length = order.length ∧
      ∀ i r, order[i]? = some r → (s.slotList n)[i]? = some (SlotEntry.mk r.id r.channel ((s.rst.presentNumber r.talker).getD 0)
        (2 + (order.length + 1) / 2 + ((order.take i).map StreamRecord.units).sum) r.units)

/-- R19, R23 to R25, R114: a boundary opens the next cycle n; the commit, the boundary work and the count of the reclaim
window follow in this order; of the state they leave the slot list, the plan basis, the generation, which moves exactly if
the LIVE streams differ from the basis, and the header are formed, and no slot is observed yet. R5, R27, R28: a nominal
instant of RUNNING with a quiet line and no halt pending raises it on time with the late run 0; a frame of the window that
ends there may still be taken (entry 42). R5, R22, R27, R30: at a nominal instant a pending halt makes the part HALTED and
answers the halt waiters; else a busy line begins a stretch, and the 4024 sends nothing; outside RUNNING, and in a
stretch, there is no such instant (entries 1, 32). R31, R203, R205: while the header is sent TRK_DIR is high and the
trunk carries its fixed fields, check and entry units. -/
def Obligations.NominalInstant : Prop :=
  (∀ (s : State) (timing : Timing) (stretch : Nat),
     let n : Cycle := match s.csq.lastCycle with
       | none => 0
       | some m => m + 1
     let w := ((State.commit { s with csq := { s.csq with lastCycle := some n } } n).boundaryWork n true).countDown
     let entries := w.slotList n
     let live := (w.streams.filter StreamRecord.isLive).map (fun r => BasisEntry.mk r.id r.units r.period r.phase)
     let generation := if (∀ b ∈ live, b ∈ s.csq.basis) ∧ (∀ b ∈ s.csq.basis, b ∈ live) then s.csq.generation
       else s.csq.generation + 1
     w.csq = { s.csq with lastCycle := some n } ∧
     s.boundary timing stretch = { w with
       csq := { w.csq with generation := generation, basis := live, plan := entries, phase := .slots }
       svw := entries.map (fun e => ⟨e, .pending⟩)
       tpt := { w.tpt with
         share := none, edge := false
         sending := some (.header ⟨s.rst.epoch, n, generation, entries,
           2 + (entries.length + 1) / 2 + (entries.map SlotEntry.units).sum, timing, stretch, s.csq.lateRun⟩) } }) ∧
  (∀ s : State, s.csq.partState = .running → s.csq.phase ≠ .stretch → s.csq.haltWaiters = [] →
     ∃ u : State, exec (.nominalInstant false) s = .next u.transmit ∧
       let opened := State.boundary { s with csq := { s.csq with lateRun := 0 } } .onTime 0
       let heardNow : Bool := s.tpt.share.isNone && (s.csq.phase == .window ||
         (s.csq.phase == .slots && s.svw.all (fun o => o.seen != .pending) && s.tpt.outbound.isEmpty))
       u = { opened with tpt := { opened.tpt with edge := heardNow } } ∧
       let n : Cycle := match s.csq.lastCycle with
         | none => 0
         | some m => m + 1
       let live := (u.streams.filter StreamRecord.isLive).map (fun r => BasisEntry.mk r.id r.units r.period r.phase)
       u.csq.partState = .running ∧ u.csq.lastCycle = some n ∧ u.csq.lateRun = 0 ∧ u.csq.phase = .slots ∧
       u.csq.basis = live ∧
       u.csq.generation = (if (∀ b ∈ live, b ∈ s.csq.basis) ∧ (∀ b ∈ s.csq.basis, b ∈ live) then s.csq.generation
         else s.csq.generation + 1) ∧
       u.csq.plan = u.slotList n ∧ u.svw = u.csq.plan.map (fun e => ⟨e, .pending⟩) ∧
       u.tpt.sending = some (.header ⟨s.rst.epoch, n, u.csq.generation, u.csq.plan,
         2 + (u.csq.plan.length + 1) / 2 + (u.csq.plan.map SlotEntry.units).sum, .onTime, 0, 0⟩) ∧
       u.tpt.share = none ∧ u.csq.startWaiters = s.csq.startWaiters ∧ u.csq.haltWaiters = [] ∧ u.cfg = s.cfg ∧
       u.hlk = s.hlk ∧ u.rst.epoch = s.rst.epoch ∧ u.pending = s.pending) ∧
  (∀ (s : State) (busy : Bool),
     let leads (t : State) : Prop := exec (.nominalInstant busy) s = .next t.transmit
     if s.csq.partState ≠ .running ∨ s.csq.phase = .stretch then leads s
     else if s.csq.haltWaiters ≠ [] then
       leads { s with
         csq := { s.csq with partState := .halted, phase := .none, haltWaiters := [] }
         tpt := { s.tpt with share := none, sending := none, burst := 0, edge := false }
         hlk := s.hlk.answerEach s.csq.haltWaiters ⟨.done, be16 (s.csq.lastCycle.getD 0).toNat⟩ }
     else busy = true → leads { s with
       csq := { s.csq with phase := .stretch }, tpt := { s.tpt with share := none, sending := none, edge := false } }) ∧
  (∀ (s : State) (h : Header), s.tpt.sending = some (.header h) → s.trkDir = true ∧ s.trkBytes = some h.onLine)

/-- R27 to R29: the end of a stretch after t units, or at 64 with the line still busy, raises the boundary LATE or FORCED
with the late run one higher, and CYCLE_LATE is offered on 0 to 1; the increment that would make it 8 starts a trunk
reset with cause TRUNK_FAULT instead. That neither command acts outside a stretch, nor TRUNK_FAULT below that increment, is
the model's choice (entries 1, 6), and so is that CYCLE_LATE's record carries the cycle that ends (entry 34). -/
def Obligations.StretchEnds : Prop :=
  ∀ (s : State) (quietAt : Option Nat), stretchFits quietAt = true → s.csq.haltWaiters = [] →
    let leads (t : State) : Prop := exec (.stretchEnd quietAt) s = .next t.transmit
    let timing : Timing := if quietAt.isSome then .late else .forced
    let units := quietAt.getD 64
    let next : Cycle := match s.csq.lastCycle with
      | none => 0
      | some m => m + 1
    if s.csq.partState ≠ .running ∨ s.csq.phase ≠ .stretch then leads s ∧ exec .trunkFault s = .next s.transmit
    else if 7 ≤ s.csq.lateRun then
      leads (s.trunkReset .trunkFault) ∧ exec .trunkFault s = .next (State.transmit (s.trunkReset .trunkFault))
    else
      let s1 := { s with csq := { s.csq with lateRun := s.csq.lateRun + 1 } }
      exec .trunkFault s = .next s.transmit ∧
      leads ((if s.csq.lateRun = 0 then
          s1.offer .cycleLate (be16 next.toNat ++ [if quietAt.isSome then 1 else 2, byteOf units]) else s1).boundary
        timing units)

/-- R118, R121 to R124, R72: each slot's observation in turn: judged by what was seen, counted if its stream is LIVE,
else UNCOUNTED. A counted one adds a service and steps the runs; the service that reaches the stop count makes the
stream RETIRING, else 16 (or vacancy_limit) vacant in a row set the VACANCY mark and 3 overlong in a row the OVERLONG
mark. R72 (entry 6): the event that services done have reached the stop count makes a LIVE stream RETIRING(STOP_COUNT);
for any other stream nothing happens. R203, R204: what is read of a slot frame is its type, sender, channel and length and
its check. What a header's sending ends with is the model's choice (entry 17), and so is what the operand carries (entry
43). -/
def Obligations.SlotsObservedAndCounted : Prop :=
  (∀ (s : State) (seen : SlotSeen) (done : List ObsEntry) (x : ObsEntry) (after : List ObsEntry),
     s.csq.partState = .running → s.csq.phase = .slots → s.svw = done ++ x :: after →
     (∀ y ∈ done, y.seen ≠ .pending) → x.seen = .pending → s.positioned →
     let leads (o : Observation) (streams : List StreamRecord) : Prop := exec (.slotObservation seen) s =
       .next (State.transmit { s with
         svw := done ++ ⟨x.slot, o⟩ :: after, streams := streams, tpt := { s.tpt with sending := none, edge := false } })
     let judged : Observation := match seen with
       | .transmission (type :: sender :: channel :: hi :: lo :: rest) busyAtEnd =>
         let bytes := type :: sender :: channel :: hi :: lo :: rest
         let units := word16 hi lo
         if bytes.length < 8 ∨ type ≠ 0x66 ∨ sender.toNat ≠ x.slot.talker ∨ channel.toNat ≠ x.slot.channel then .vacant
         else if busyAtEnd then .overlong
         else if (1 ≤ units ∧ units ≤ 512) ∧ bytes.length = units * 8 ∧
             bytes.drop (bytes.length - 2) = checkBytes (frameCheck (bytes.take (bytes.length - 2))) then .served
         else .vacant
       | _ => .vacant
     ((∀ r ∈ s.streams, r.id = x.slot.stream → r.isLive = false) → leads .uncounted s.streams) ∧
     ∀ r ∈ s.streams, r.id = x.slot.stream → r.isLive = true →
       let services := min 65535 (r.servicesDone + 1)
       let run := if judged = .vacant then min 255 (r.vacantRun + 1) else 0
       let total := if judged = .vacant then min 65535 (r.vacantTotal + 1) else r.vacantTotal
       let late := if judged = .vacant then r.overlongRun else if judged = .overlong then min 3 (r.overlongRun + 1) else 0
       let state : StreamState :=
         if r.stop = some services then .retiring .stopCount
         else if judged = .vacant ∧ s.cfg.vacancyLimit ≠ 0 ∧ s.cfg.vacancyLimit ≤ run then .live (some .vacancy)
         else if judged = .overlong ∧ late = 3 then .live (some .overlong)
         else r.state
       leads judged (s.streams.map (fun y => if y.id = r.id then
         { r with servicesDone := services, vacantRun := run, vacantTotal := total, overlongRun := late, state := state }
         else y))) ∧
  (∀ (s : State) (id : Nat), s.positioned →
     (∀ r ∈ s.streams, r.id = id → r.isLive = true → r.stop = some r.servicesDone →
       exec (.stopCountReached id) s = .next (State.transmit { s with
         streams := s.streams.map (fun x => if x.id = id then { x with state := .retiring .stopCount } else x) })) ∧
     ((∀ r ∈ s.streams, r.id = id → ¬ (r.isLive = true ∧ r.stop = some r.servicesDone)) →
       exec (.stopCountReached id) s = .next s.transmit))

/-- R116: a projection is made on a copy of the state: the boundary work of each projected boundary, without commit or
countdown, marks at the first alone; after each but the last a due LIVE stream counts a projected service and is RETIRING at
its stop count; the slot list is that of the last. R115 to R117: PLAN_READ refuses an offset above 15 and a first index
beyond the slot count; else it shows, for offset 0, the current plan with its observations, else the projected plan of that
boundary, up to 24 entries from the index on. Reading changes nothing. The codes and counts stand as entries 10 to 12 have
them, the field of a refused offset as entry 35, the offset's one byte as entry 40, and projected entries without an observation
as entry 48; that a later projected boundary does not
re-evaluate marks is the model's choice (entry 22). -/
def Obligations.PlanRead : Prop :=
  (∀ (s : State) (marks : Bool) (n : Cycle),
    let worked := s.boundaryWork n marks
    s.project marks n 0 = worked.slotList n ∧
    ∀ k, s.project marks n (k + 1) = State.project false (n + 1) k { worked with
      streams := worked.streams.map (fun r =>
        if r.isLive = true ∧ (n - BitVec.ofNat 16 r.phase).toNat % r.period = 0 then
          let services := min 65535 (r.servicesDone + 1)
          { r with
            servicesDone := services
            state := if r.stop = some services then .retiring .stopCount else r.state }
        else r) }) ∧
  ∀ (s : State) (tag offset first : Byte), s.HostReady tag →
    let leads (r : Reply) : Prop :=
      exec (.planRead tag [offset, first]) s = .next (State.transmit (s.withHostReply .planRead tag [offset, first] r))
    let next : Cycle := match s.csq.lastCycle with
      | none => 0
      | some m => m + 1
    let entries := if offset = 0 then s.csq.plan else s.project true next (offset.toNat - 1)
    let line (e : SlotEntry) : List Byte :=
      [byteOf e.stream, byteOf e.channel, byteOf e.talker] ++ be16 e.offset ++ be16 e.units
    let lines := if offset = 0 then List.zipWith (fun e (o : ObsEntry) => line e ++ [o.seen.code]) s.csq.plan s.svw
      else entries.map line
    let page := (lines.drop first.toNat).take 24
    let target := if offset = 0 then s.csq.lastCycle else some (next + BitVec.ofNat 16 (offset.toNat - 1))
    if 15 < offset.toNat then leads ⟨.badValue, [1]⟩
    else if entries.length < first.toNat then leads ⟨.badValue, [byteOf entries.length]⟩
    else leads ⟨.done, [if offset = 0 then 0 else 1, flag target.isSome] ++ be16 (target.getD 0).toNat
      ++ [s.csq.partState.code, s.csq.generation, byteOf entries.length, byteOf (2 + (entries.length + 1) / 2),
          byteOf page.length]
      ++ page.flatten ++ [flag (first.toNat + page.length < entries.length)]
      ++ be16 (2 + (entries.length + 1) / 2 + (entries.map SlotEntry.units).sum)
      ++ [byteOf s.stg.edits.length, flag s.stg.frozen]⟩

/-! ### The trunk reset (chapters 1, 7 and 8) -/

/-- R3, R79, R109, R132 to R134, R154: a trunk reset. The epoch moves; DEPARTING stations' departures complete; RETIRING
records and a station's STAGED records go; a station's streams in service become HELD with the state they had, a host's
become SUSPENDED(ABSENT); edits for stations' streams are discarded; claim records of stations are released or converted;
the roster, the queue and the plan are emptied; the reclaim window restarts if a holding exists; TRUNK_RESET is offered
last; and the part is STARTING with the cycle number, the generation and the configuration kept. The first part says so
where no holding overflows; the second for every trunk reset, step by step: after the departures the discards are reported
in one EDITS_DISCARDED(TRUNK_RESET) if there are any; then the claim records of PRESENT stations convert, by ascending
number (R151; each conversion is a part of TrunkResetConvertsClaims); then the other shares. The detector's count is the
model's choice (entry 23), and so are presence bytes (entry 10) and the code of the part state in TRUNK_RESET's body, where
R134 lists the part states in another order than R1 (entry 12). -/
def Obligations.TrunkResetShares : Prop :=
  (∀ (s : State) (cause : ResetCause), s.positioned → s.keyed → s.heldInPlace → s.editsInPlace → s.stagedInPlace →
    s.lgr.holdings.length + s.rst.stations.length ≤ 32 →
    let t := s.trunkReset cause
    let departing := s.rst.stations.filter (fun e => e.state != .present)
    let present := s.rst.stations.filter (fun e => e.state == .present)
    let stations (r : StreamRecord) : Bool := r.owner != .host
    let resized (r : StreamRecord) : Bool := s.stg.edits.any (fun e => e.stream == r.id && e.op.kind == .resize)
    t.csq = { s.csq with partState := .starting, lateRun := 0, phase := .none, plan := [] } ∧
    t.svw = [] ∧ t.cfg = s.cfg ∧ t.hlk = s.hlk ∧ t.pending = s.pending ∧
    t.tpt = ⟨[], [], none, none, if s.tpt.burst = 16 then 16 else 0, false⟩ ∧
    t.rst = ⟨s.rst.epoch + 1, [], ((departing ++ present).foldl (fun r e => r.touch e.tag) s.rst).known, 0⟩ ∧
    t.streams = (s.streams.filter (fun r => !r.isRetiring && !(stations r && r.state == .staged))).map (fun r =>
      let saved : SavedState := match r.state with
        | .live _ => .live
        | .suspended c => .suspended c
        | _ => .waitingStart
      if stations r then
        let r1 := if resized r then { r with pendingResize := none } else r
        if r.inService then { r1 with state := .held saved, restoreMark := false, vacantRun := 0, overlongRun := 0 } else r1
      else match r.state with
        | .live _ | .waitingStart => { r with state := .suspended .absent }
        | _ => r) ∧
    t.stg = { s.stg with edits := s.stg.edits.filter (fun e =>
      s.streams.any (fun r => r.id == e.stream && !stations r && !r.isRetiring)) } ∧
    t.rcu = (if t.lgr.holdings = [] then s.rcu else ⟨true, s.cfg.reclaimWindow, s.cfg.reclaimWindow⟩) ∧
    t.rpu = (State.offer s.nextEpoch.resetStreams .trunkReset [cause.code, s.csq.partState.code, s.rst.epoch,
      s.rst.epoch + 1, byteOf present.length, byteOf departing.length]).rpu) ∧
  (∀ (s : State) (cause : ResetCause), s.positioned → s.keyed → s.heldInPlace → s.editsInPlace → s.stagedInPlace →
    let t := s.trunkReset cause
    let departing := s.rst.stations.filter (fun e => e.state != .present)
    let present := s.rst.stations.filter (fun e => e.state == .present)
    let stations (r : StreamRecord) : Bool := r.owner != .host
    let resized (r : StreamRecord) : Bool := s.stg.edits.any (fun e => e.stream == r.id && e.op.kind == .resize)
    let lost (e : Edit) : Bool := s.streams.any (fun r => r.id == e.stream && (stations r || r.isRetiring))
    let gone := s.stg.edits.filter lost
    let departed := departing.foldl State.completeDeparture
      { s with rst := { s.rst with epoch := s.rst.epoch + 1 } }
    let reported := if gone = [] then departed else departed.offer .editsDiscarded
      ([0, 0, 0, 0, 0, 0, 0, 0] ++ byteOf gone.length :: (gone.map Edit.listed).flatten)
    let ahead := s.nextEpoch.resetStreams
    let converted := ((present.map Station.tag).foldl State.convertClaim (ahead, [])).1
    (ahead.rpu = reported.rpu ∧ ahead.rst = departed.rst ∧
      ahead.stg = { s.stg with edits := s.stg.edits.filter (fun e => !lost e) } ∧
      ahead.streams = (s.streams.filter (fun r => !r.isRetiring && !(stations r && r.state == .staged))).map (fun r =>
        let saved : SavedState := match r.state with
          | .live _ => .live
          | .suspended c => .suspended c
          | _ => .waitingStart
        if stations r then
          let r1 := if resized r then { r with pendingResize := none } else r
          if r.inService then { r1 with state := .held saved, restoreMark := false, vacantRun := 0, overlongRun := 0 }
          else r1
        else match r.state with
          | .live _ | .waitingStart => { r with state := .suspended .absent }
          | _ => r)) ∧
    t.streams = converted.streams ∧ t.stg = converted.stg ∧ t.lgr = converted.lgr ∧
    t.csq = { s.csq with partState := .starting, lateRun := 0, phase := .none, plan := [] } ∧
    t.svw = [] ∧ t.cfg = s.cfg ∧ t.hlk = s.hlk ∧ t.pending = s.pending ∧
    t.tpt = ⟨[], [], none, none, if s.tpt.burst = 16 then 16 else 0, false⟩ ∧
    t.rst = ⟨s.rst.epoch + 1, [], (present.foldl (fun r e => r.touch e.tag) departed.rst).known, 0⟩ ∧
    t.rcu = (if converted.lgr.holdings = [] then s.rcu else ⟨true, s.cfg.reclaimWindow, s.cfg.reclaimWindow⟩) ∧
    t.rpu = (converted.offer .trunkReset [cause.code, s.csq.partState.code, s.rst.epoch, s.rst.epoch + 1,
      byteOf present.length, byteOf departing.length]).rpu)

/-- R57, R132, R151, R152: what a trunk reset makes of the ledger, with room for every new holding: a DEPARTING
station's claim record is released to free; a PRESENT station's becomes a new holding at the newest end, with the new
epoch, or merges into the one its tag has; units, channels and HELD streams go with it. R153: a conversion that needs a
new holding where 32 exist first releases the oldest that this trunk reset has not touched: its streams are removed,
its units and channels are free, and HOLDING_RELEASED(OVERFLOW) is offered. The third part gives one conversion where there
is no claim record, where the tag has a holding, and where there is room. -/
def Obligations.TrunkResetConvertsClaims : Prop :=
  (∀ (s : State) (cause : ResetCause), s.positioned → s.keyed → s.heldInPlace → s.editsInPlace → s.stagedInPlace →
     s.lgr.holdings.length + s.rst.stations.length ≤ 32 →
     let t := s.trunkReset cause
     let departing := s.rst.stations.filter (fun e => e.state != .present)
     let present := s.rst.stations.filter (fun e => e.state == .present)
     let claimOf (tag : Tag) : Option Account := (s.lgr.claims.find? (fun c => c.tag == tag)).map StationClaim.account
     let holds (tag : Tag) : Bool := s.lgr.holdings.any (fun h => h.tag == tag)
     let heldOf (tag : Tag) (old : List HeldStream) : List HeldStream :=
       (t.streams.filter (fun r => r.isHeld && r.owner == .station tag)).map
         (fun r => (old.find? (fun x => x.id == r.id)).getD ⟨r.id, r.units⟩)
     let released := departing.filterMap (fun e => claimOf e.tag)
     let created := present.filterMap (fun e => if holds e.tag then none else
       (claimOf e.tag).map (fun a => Holding.mk e.tag a.claimed a.held (heldOf e.tag []) (s.rst.epoch + 1)))
     t.lgr.freeUnits = s.lgr.freeUnits + (released.map Account.claimed).sum ∧
     t.lgr.freeChannels = released.foldl (fun c a => c ||| a.held) s.lgr.freeChannels ∧
     t.lgr.claims.map StationClaim.tag =
       (s.lgr.claims.filter (fun c => !s.rst.stations.any (fun e => e.tag == c.tag))).map StationClaim.tag ∧
     t.lgr.holdings = s.lgr.holdings.map (fun h =>
       match (if present.any (fun e => e.tag == h.tag) then claimOf h.tag else none) with
       | some a => { h with
           units := h.units + a.claimed, channels := h.channels ||| a.held, streams := heldOf h.tag h.streams }
       | none => h) ++ created ∧
     t.lgr.host.claimed = s.lgr.host.claimed ∧ t.lgr.host.held = s.lgr.host.held ∧
     t.lgr.revision = s.lgr.revision + BitVec.ofNat 8 (released.length + created.length
       + (present.filter (fun e => (claimOf e.tag).isSome)).length)) ∧
  (∀ (s : State) (touched : List Tag) (t : Tag) (a : Account) (before : List Holding) (h : Holding) (after : List Holding),
     s.positioned → s.keyed → s.heldInPlace → s.lgr.account? (.station t) = some a → (∀ x ∈ s.lgr.holdings, x.tag ≠ t) →
     s.lgr.holdings = before ++ h :: after → s.lgr.holdings.length = 32 → (∀ x ∈ before, x.tag ∈ touched) →
     h.tag ∉ touched →
     let u := (State.convertClaim (s, touched) t).1
     (State.convertClaim (s, touched) t).2 = t :: touched ∧
     u.lgr.freeUnits = s.lgr.freeUnits + h.units ∧ u.lgr.freeChannels = s.lgr.freeChannels ||| h.channels ∧
     u.streams = s.streams.filter (fun r => !(h.streams.map HeldStream.id).contains r.id) ∧
     u.lgr.holdings = before ++ after ++ [⟨t, a.claimed, a.held, (u.streams.filter (fun r =>
       r.isHeld && r.owner == .station t)).map (fun r => ⟨r.id, r.units⟩), s.rst.epoch⟩] ∧
     u.lgr.claims = s.lgr.claims.filter (fun c => c.tag != t) ∧ u.lgr.revision = s.lgr.revision + 3 ∧
     u.rpu = (s.offer .holdingReleased (2 :: tagBytes h.tag ++ be16 h.units ++ setBytes h.channels
       ++ byteOf h.streams.length :: h.streams.map (fun x => byteOf x.id))).rpu ∧
     u.rst = s.rst ∧ u.csq = s.csq ∧ u.cfg = s.cfg ∧ u.rcu = s.rcu) ∧
  (∀ (s : State) (touched : List Tag) (t : Tag), s.keyed →
     let listed (old : List HeldStream) : List HeldStream :=
       (s.streams.filter (fun r => r.isHeld && r.owner == .station t)).map
         (fun r => (old.find? (fun x => x.id == r.id)).getD ⟨r.id, r.units⟩)
     let converted := State.convertClaim (s, touched) t
     ((∀ c ∈ s.lgr.claims, c.tag ≠ t) → converted = (s, touched)) ∧
     ∀ c ∈ s.lgr.claims, c.tag = t →
       let a := c.account
       let left := s.lgr.claims.filter (fun c => c.tag != t)
       (∀ h ∈ s.lgr.holdings, h.tag = t → converted = ({ s with lgr := { s.lgr with
         claims := left, revision := s.lgr.revision + 1
         holdings := s.lgr.holdings.map (fun x => if x.tag = t then
           { h with units := h.units + a.claimed, channels := h.channels ||| a.held, streams := listed h.streams }
           else x) } }, t :: touched)) ∧
       ((∀ h ∈ s.lgr.holdings, h.tag ≠ t) → s.lgr.holdings.length < 32 → converted = ({ s with lgr := { s.lgr with
         claims := left, revision := s.lgr.revision + 2
         holdings := s.lgr.holdings ++ [⟨t, a.claimed, a.held, listed [], s.rst.epoch⟩] } }, t :: touched)))

/-! ### The roll call and the roster (chapter 7) -/

/-- R136, R137: a ROLL_ANSWER of the current epoch in the answer part of a roll-call period, with room in the queue:
a tag in the roster gets its number again; another gets 0 where the roster is full, else a number and a PRESENT
entry; each time in a NUMBER_ASSIGN. Any other is ignored (R135): outside STARTING, before the first call, while the 4024
sends its call or its share. That an answer heard with the queue empty shows that the call has been sent is the model's
choice (entry 17). -/
def Obligations.RollAnswerTaken : Prop :=
  ∀ (s : State) (t : Tag) (epoch : Byte), s.keyed → s.rosterInPlace →
    let leads (u : State) : Prop := exec (.rollAnswer t epoch) s = .next u.transmit
    let heard : State := { s with tpt := { s.tpt with share := none, sending := none } }
    let assigned (r : Roster) (number : Nat) : State := { heard with
      rst := r, tpt := { heard.tpt with outbound := s.tpt.outbound ++ [.assign t number epoch] } }
    let callSent : Prop := s.tpt.sending = none ∨
      s.tpt.outbound = [] ∧ ∃ call period, s.tpt.sending = some (.rollCall call period)
    let answering : Prop := s.csq.partState = .starting ∧ 1 ≤ s.rst.rollPeriod ∧ s.tpt.share = none ∧ callSent
    (¬ answering → leads s) ∧
    (answering →
      if epoch ≠ s.rst.epoch ∨ 32 ≤ s.tpt.outbound.length then leads heard
      else if ∃ e ∈ s.rst.stations, e.tag = t then
        ∀ e ∈ s.rst.stations, e.tag = t → leads (assigned { s.rst with known := s.rst.knownRecent t none } e.number)
      else if 24 ≤ s.rst.stations.length then leads (assigned s.rst 0)
      else ∃ n, s.rst.numberGiven t n ∧ leads (assigned (s.numbered t n) n))

/-- R143: a JOIN of the current epoch in the station portion, with room in the queue: a PRESENT tag gets its number
again, a DEPARTING one or a full roster 0, another a number, a PRESENT entry and a STATION_JOINED report; each time
in a NUMBER_ASSIGN. Another epoch or a full queue leaves the roster and the queue; outside the portion nothing
changes. When the station portion begins and ends is the model's choice (entries 24, 42). -/
def Obligations.JoinTaken : Prop :=
  ∀ (s : State) (t : Tag) (epoch : Byte), s.keyed → s.rosterInPlace →
    let leads (u : State) : Prop := exec (.join t epoch) s = .next u.transmit
    let heard := s.heard
    let assigned (r : Roster) (number : Nat) : State := { heard with
      rst := r, tpt := { heard.tpt with outbound := s.tpt.outbound ++ [.assign t number epoch] } }
    if s.stationPortion = false then leads s
    else if epoch ≠ s.rst.epoch ∨ 32 ≤ s.tpt.outbound.length then leads heard
    else if ∃ e ∈ s.rst.stations, e.tag = t then
      ∀ e ∈ s.rst.stations, e.tag = t →
        if e.state = .present then leads (assigned { s.rst with known := s.rst.knownRecent t none } e.number)
        else leads (assigned s.rst 0)
    else if 24 ≤ s.rst.stations.length then leads (assigned s.rst 0)
    else ∃ n, s.rst.numberGiven t n ∧ leads ((assigned (s.numbered t n) n).offer .stationJoined
      (tagBytes t ++ [byteOf n, ((s.numbered t n).rightsOf (.station t)).byte,
        flag (s.lgr.holdings.any (fun h => h.tag == t))]))

/-- R57, R145: a departure completes: the tag's claim record is released whole to free, the entry goes with its
parked notices, the tag's known-tag entry moves to the recent end, and STATION_LEFT is offered. That channels stand
as a count is the model's choice (entry 20). -/
def Obligations.DepartureCompletes : Prop :=
  ∀ (s : State) (e : Station) (cause : DepartCause) (count : Nat), s.keyed → e ∈ s.rst.stations →
    e.state = .departing cause count →
    let a := s.lgr.account (.station e.tag)
    let claimed := s.lgr.claims.any (fun c => c.tag == e.tag)
    s.completeDeparture e = State.offer { s with
      lgr := { s.lgr with
        freeUnits := s.lgr.freeUnits + a.claimed, freeChannels := s.lgr.freeChannels ||| a.held
        claims := s.lgr.claims.filter (fun c => c.tag != e.tag)
        revision := if claimed then s.lgr.revision + 1 else s.lgr.revision }
      rst := { s.rst with
        stations := s.rst.stations.filter (fun x => x.number != e.number), known := s.rst.knownRecent e.tag none }
      tpt := { s.tpt with parked := s.tpt.parked.filter (fun p => p.number != e.number) } }
      .stationLeft (tagBytes e.tag ++ [byteOf e.number, (match cause with | .leave => 0 | .evict => 1)]
        ++ be16 a.claimed ++ [byteOf (channelCount a.held), byteOf count])

/-- R144, R168: LEAVE needs no right and is taken whatever remote_requests is: the departure begins, and the DONE
carries the number of streams it takes, the claimed units and the held channels. R74, R110, R144: when a departure
begins, the entry is DEPARTING, edits for the tag's streams are discarded and reported, its STAGED records are
removed and its streams in service become RETIRING(DEPARTURE) without restore mark. Every other record, edit and
station is as it was. What the count takes in and the presence byte of EDITS_DISCARDED are the model's choice (entries 20,
10). -/
def Obligations.LeaveBeginsADeparture : Prop :=
  (∀ (s : State) (number epoch : Byte) (seq : BitVec 4) (e : Station), s.StationReady number epoch seq e →
     let a := s.lgr.account (.station e.tag)
     let count := (s.streams.filter (fun r =>
       r.owner == .station e.tag && (r.inService || r.state == .staged))).length
     exec (.leave number epoch seq []) s = .next (State.transmit ((s.beginDeparture e .leave).withStationReply e seq 0x34
       ⟨.done, byteOf count :: be16 a.claimed ++ setBytes a.held⟩))) ∧
  (∀ (s : State) (e : Station) (cause : DepartCause), s.positioned → s.keyed → s.editsInPlace → s.stagedInPlace →
     e ∈ s.rst.stations → e.state = .present →
     let u := s.beginDeparture e cause
     let theirs (r : StreamRecord) : Bool := r.owner == .station e.tag
     let gone := s.stg.edits.filter (fun x => s.streams.any (fun r => r.id == x.stream && theirs r))
     let count := (s.streams.filter (fun r => theirs r && (r.inService || r.state == .staged))).length
     u.rst = { s.rst with stations := s.rst.stations.map (fun x =>
       if x.number = e.number then { x with state := .departing cause count } else x) } ∧
     u.stg = { s.stg with edits := s.stg.edits.filter (fun x => !s.streams.any (fun r => r.id == x.stream && theirs r)) } ∧
     u.streams = (s.streams.filter (fun r => !(theirs r && r.state == .staged))).map (fun r =>
       if theirs r then
         let r1 := if gone.any (fun x => x.stream == r.id && x.op.kind == .resize) then { r with pendingResize := none } else r
         if r.inService then { r1 with state := .retiring .departure, restoreMark := false } else r1
       else r) ∧
     (∀ p, (u.lgr.account p).claimed = (s.lgr.account p).claimed ∧ (u.lgr.account p).held = (s.lgr.account p).held) ∧
     (∀ p, p ≠ .station e.tag → u.lgr.account p = s.lgr.account p) ∧
     u.lgr.freeUnits = s.lgr.freeUnits ∧ u.lgr.freeChannels = s.lgr.freeChannels ∧ u.lgr.holdings = s.lgr.holdings ∧
     u.lgr.claims.map StationClaim.tag = s.lgr.claims.map StationClaim.tag ∧ u.lgr.revision = s.lgr.revision ∧
     u.rpu = (if gone = [] then s.rpu else
       (s.offer .editsDiscarded ([1, 1] ++ tagBytes e.tag ++ byteOf gone.length :: (gone.map Edit.listed).flatten)).rpu) ∧
     u.tpt = s.tpt ∧ u.csq = s.csq ∧ u.cfg = s.cfg ∧ u.svw = s.svw ∧ u.rcu = s.rcu ∧ u.hlk = s.hlk ∧ u.pending = s.pending)

/-- R146: EVICT by the tag's standing: a PRESENT station is told, then departs with cause EVICT; a DEPARTING one goes on; an
absent tag's holding is discarded, as R51 states but with cause EVICT and no station to tell; without one nothing happens.
With bar set and DONE, the tag's rights become none. Which streams CLAIM_RELEASED counts, NO_SUCH_STATION's empty body and the
bytes of RECLAIM_CLOSED are the model's choice (entries 20, 13, 11). -/
def Obligations.EvictTaken : Prop :=
  ∀ (s : State) (tag : Byte) (t : Tag) (bar : Bool), s.HostReady tag → s.keyed →
    s.rst.stations.length ≤ 24 →
    let body := tagBytes t ++ [flag bar]
    let leads (u : State) (r : Reply) : Prop := exec (.evict tag body) s =
      .next (State.transmit (State.withHostReply
        (if bar = true ∧ r.code = .done then { u with rst := u.rst.withRights t ⟨false, false, false⟩ } else u)
        .evict tag body r))
    (∀ e ∈ s.rst.stations, e.tag = t →
      (e.state = .present →
        let a := s.lgr.account (.station t)
        leads ((s.handNotice e.number .claimReleased ([1] ++ be16 a.claimed ++ setBytes a.held
            ++ [byteOf (s.streams.filter (fun r =>
              r.owner == .station t && (r.inService || r.state == .staged))).length])).beginDeparture e .evict) ⟨.done, [byteOf e.number]⟩) ∧
      (e.state ≠ .present → leads s ⟨.done, [byteOf e.number]⟩)) ∧
    ((∀ e ∈ s.rst.stations, e.tag ≠ t) →
      (∀ h ∈ s.lgr.holdings, h.tag = t → leads (s.discardHolding h .evict)
        ⟨.done, be16 h.units ++ [byteOf (channelCount h.channels), byteOf h.streams.length]⟩) ∧
      (s.positioned → s.heldInPlace → ∀ h ∈ s.lgr.holdings, h.tag = t →
        let u := s.discardHolding h .evict
        s.holdingEnded h 1 u ∧ u.tpt = s.tpt ∧ u.rst = s.rst) ∧
      ((∀ h ∈ s.lgr.holdings, h.tag ≠ t) → leads s ⟨.noSuchStation, []⟩))

/-- R142, R147: SET_RIGHTS gives the tag these rights, in its entry's place or in a new entry at the recent end, for
which a full list evicts the least recent entry whose tag is not in the roster; the DONE carries the previous rights
and the tag evicted, each marked absent where there is none. The place of the presence byte is the model's choice
(entry 10). R40: the host has every right, a station those of its tag's known-tag entry. R142: a tag that is touched goes to
the recent end. -/
def Obligations.RightsSet : Prop :=
  (∀ (s : State) (tag : Byte) (t : Tag) (rights : Rights), s.HostReady tag → s.keyed → s.rosterInPlace →
    s.rst.known.length ≤ 32 → s.rst.stations.length ≤ 24 →
    let body := tagBytes t ++ [rights.byte]
    let evicted : Option Tag := if s.rst.known.any (fun k => k.tag == t) ∨ s.rst.known.length < 32 then none
      else (s.rst.known.find? (fun k => !s.rst.stations.any (fun e => e.tag == k.tag))).map Known.tag
    exec (.setRights tag body) s = .next (State.transmit (State.withHostReply
      { s with rst := s.rst.withRights t rights } .setRights tag body ⟨.done,
        match s.rst.known.find? (fun k => k.tag == t) with
        | some k => [1, k.rights.byte] ++ tagBytes 0
        | none => [if evicted.isSome then 2 else 0, 0] ++ tagBytes (evicted.getD 0)⟩))) ∧
  (∀ (r : Roster) (t : Tag), (r.known.map Known.tag).Nodup →
    r.rightsOf .host = ⟨true, true, true⟩ ∧
    (∀ k ∈ r.known, k.tag = t → r.rightsOf (.station t) = k.rights) ∧
    ((∀ k ∈ r.known, k.tag ≠ t) → r.rightsOf (.station t) = ⟨false, false, false⟩) ∧
    r.touch t = { r with known := r.knownRecent t none })

/-- R4, R21, R135, R139: each of the eight periods opens with ROLL_CALL; when that has been sent the share of 64 units
begins with the frame at the head of the queue, or TRK_DIR falls where none waits; at the end of the eighth ROLL_CALL_DONE
is offered, the part is RUNNING, the first boundary is raised on time, and the start waiters are answered DONE with the
epoch, the stations and the holdings. At any other time a period neither begins nor ends (entry 1). That OUTBOUND_FRAME_SENT
ends a ROLL_CALL too is the model's choice (entry 17), and so is that ROLL_CALL_PERIOD stands for the instant at which its
sending begins (entry 46). R31, R203: while it is sent TRK_DIR is high and the trunk carries the period's number. -/
def Obligations.RollCallRuns : Prop :=
  ∀ s : State,
    let counts := [s.rst.epoch, byteOf s.rst.stations.length, byteOf s.lgr.holdings.length]
    (if s.csq.partState = .starting ∧ s.rst.rollPeriod < 8 then
      exec .rollCallPeriod s = .next (State.transmit { s with
        rst := { s.rst with rollPeriod := s.rst.rollPeriod + 1 }
        tpt := { s.tpt with share := none, sending := some (.rollCall s.rst.epoch (s.rst.rollPeriod + 1)) } })
    else exec .rollCallPeriod s = .next s.transmit) ∧
    (∀ epoch period, s.tpt.sending = some (.rollCall epoch period) →
      exec .outboundFrameSent s = .next (State.transmit { s with tpt := match s.tpt.outbound with
        | [] => { s.tpt with share := none, sending := none }
        | f :: _ => if f.units ≤ 64 then { s.tpt with share := some 64, sending := some (.outbound f) }
            else { s.tpt with share := none, sending := none } })) ∧
    (∀ (epoch : Byte) (period : Nat), s.tpt.sending = some (.rollCall epoch period) →
      s.trkDir = true ∧ s.trkBytes = some (trunkFrame ([0x3C, 0, epoch] ++ be16 1 ++ [byteOf period]) 1)) ∧
    (if s.csq.partState = .starting ∧ 8 ≤ s.rst.rollPeriod then
      let opened := State.boundary { s with
        csq := { s.csq with partState := .running }, rst := { s.rst with rollPeriod := 0 }
        rpu := (s.offer .rollCallDone counts).rpu } .onTime 0
      exec .rollCallEnd s = .next (State.transmit { opened with
        csq := { opened.csq with startWaiters := [] }
        hlk := s.hlk.answerEach s.csq.startWaiters ⟨.done, counts⟩ })
    else exec .rollCallEnd s = .next s.transmit)

/-! ### Reclaim (chapter 8) -/

/-- R158 to R160, R157, R80: RECLAIM without CLAIM is answered NOT_PERMITTED, without a holding NOT_HELD; else the holding
becomes part of the tag's claim record, its streams leave HELD for their saved state with the restore mark, RECLAIMED is
offered, and a window left without holdings closes. RECLAIM_CLOSED's 7 bytes, the code of a saved state in RECLAIMED,
NOT_PERMITTED's empty body and NOT_HELD's two bytes are the model's choice (entries 11, 12, 13, 39). -/
def Obligations.ReclaimTaken : Prop :=
  ∀ (s : State) (number epoch : Byte) (seq : BitVec 4) (e : Station), s.StationReady number epoch seq e →
    s.cfg.remoteRequests = true → s.positioned → s.keyed → s.heldInPlace →
    let leads (u : State) (r : Reply) : Prop :=
      exec (.reclaim number epoch seq []) s = .next (State.transmit (u.withStationReply e seq 0x18 r))
    let a := s.lgr.account (.station e.tag)
    let reclaimed (h : Holding) : State := s.offer .reclaimed (tagBytes h.tag ++ [byteOf e.number] ++ be16 h.units
      ++ setBytes h.channels ++ byteOf h.streams.length
        :: (h.streams.map (fun x => [byteOf x.id, s.savedByte x.id])).flatten
      ++ [h.epoch] ++ be16 s.rcu.latched ++ be16 s.rcu.remaining)
    if (s.rst.rightsOf (.station e.tag)).claim = false then leads s ⟨.notPermitted, []⟩
    else if ∀ h ∈ s.lgr.holdings, h.tag ≠ e.tag then leads s ⟨.notHeld, be16 a.claimed⟩
    else
      ∀ h ∈ s.lgr.holdings, h.tag = e.tag → ∃ u : State, ∃ bound : List (Nat × Nat),
        bound.Perm (a.bound ++ h.streams.map (fun x => (((s.stream? x.id).map StreamRecord.channel).getD 0, x.id))) ∧
        leads u ⟨.done, be16 h.units ++ [byteOf (channelCount h.channels), byteOf h.streams.length, h.epoch]⟩ ∧
        u.lgr.host = s.lgr.host ∧ u.lgr.freeUnits = s.lgr.freeUnits ∧ u.lgr.freeChannels = s.lgr.freeChannels ∧
        u.lgr.holdings = s.lgr.holdings.filter (fun x => x.tag != e.tag) ∧
        (let account : Account := ⟨a.claimed + h.units, a.committed + (h.streams.map HeldStream.charge).sum,
            a.held ||| h.channels, bound⟩
         if ∃ c ∈ s.lgr.claims, c.tag = e.tag then
           u.lgr.claims = s.lgr.claims.map (fun c => if c.tag = e.tag then ⟨e.tag, account⟩ else c) ∧
           u.lgr.revision = s.lgr.revision + 1
         else u.lgr.claims = s.lgr.claims ++ [⟨e.tag, account⟩] ∧ u.lgr.revision = s.lgr.revision + 2) ∧
        u.streams = s.streams.map (fun r =>
          if (h.streams.map HeldStream.id).contains r.id then
            match r.state with
            | .held .live => { r with state := .live none, restoreMark := true }
            | .held .waitingStart => { r with state := .waitingStart, restoreMark := true }
            | .held (.suspended c) => { r with state := .suspended c, restoreMark := true }
            | _ => r
          else r) ∧
        u.rcu = (if s.rcu.isOpen = true ∧ s.lgr.holdings = [h] then { s.rcu with isOpen := false, remaining := 0 }
          else s.rcu) ∧
        u.rpu = (if s.rcu.isOpen = true ∧ s.lgr.holdings = [h] then
            (reclaimed h).offer .reclaimClosed [1, 0, 0, 0, 0, 0, 0] else reclaimed h).rpu ∧
        u.csq = s.csq ∧ u.cfg = s.cfg ∧ u.stg = s.stg ∧ u.svw = s.svw ∧ u.rst = s.rst ∧ u.tpt = s.tpt ∧ u.hlk = s.hlk ∧
        u.pending = s.pending

/-- R155, R156: each boundary of RUNNING takes one from an open window's count; at 0 the window closes: every holding is
released to free with its streams, RECLAIM_CLOSED(EXPIRED) lists them, and each PRESENT station among them is handed a
CLAIM_RELEASED(WINDOW_CLOSED) notice, oldest holding first. The expiry by itself does the same where the count stands at 0,
and nothing elsewhere (entry 6). RECLAIM_CLOSED's number of holdings and count of tags both stand in its body (entry 11),
and the ids of the streams do not (entry 44). -/
def Obligations.ReclaimWindowCloses : Prop :=
  ∀ s : State, s.positioned → s.keyed → s.heldInPlace →
    let closed (s : State) (u : State) : Prop :=
      let ids := (s.lgr.holdings.map (fun h => h.streams.map HeldStream.id)).flatten
      u.rcu = { s.rcu with isOpen := false, remaining := 0 } ∧ u.lgr.holdings = [] ∧
      u.lgr.freeUnits = s.lgr.freeUnits + (s.lgr.holdings.map Holding.units).sum ∧
      u.lgr.freeChannels = s.lgr.holdings.foldl (fun c h => c ||| h.channels) s.lgr.freeChannels ∧
      u.lgr.claims = s.lgr.claims ∧ u.lgr.host = s.lgr.host ∧
      u.lgr.revision = s.lgr.revision + BitVec.ofNat 8 s.lgr.holdings.length ∧
      u.streams = s.streams.filter (fun r => !ids.contains r.id) ∧
      u.rpu = (s.offer .reclaimClosed ([0, byteOf s.lgr.holdings.length]
        ++ be16 (s.lgr.holdings.map Holding.units).sum
        ++ [byteOf (s.lgr.holdings.map (fun h => channelCount h.channels)).sum, byteOf ids.length]
        ++ byteOf s.lgr.holdings.length :: (s.lgr.holdings.map (fun h => tagBytes h.tag)).flatten)).rpu ∧
      (let told := s.lgr.holdings.foldl (fun v h => v.noticeIfPresent h.tag .claimReleased
         ([2] ++ be16 h.units ++ setBytes h.channels ++ [byteOf h.streams.length])) s
       u.tpt = told.tpt ∧ u.rst = told.rst) ∧
      ((∀ h ∈ s.lgr.holdings, ∀ e ∈ s.rst.stations, e.tag ≠ h.tag) → u.tpt = s.tpt ∧ u.rst = s.rst) ∧
      u.stg = { s.stg with edits := s.stg.edits.filter (fun e => !ids.contains e.stream) } ∧
      u.csq = s.csq ∧ u.cfg = s.cfg ∧ u.svw = s.svw ∧ u.hlk = s.hlk ∧ u.pending = s.pending
    (s.rcu.isOpen = false → s.countDown = s) ∧
    (s.rcu.isOpen = true → s.rcu.remaining ≠ 1 → s.rcu.remaining ≠ 0 →
      s.countDown = { s with rcu := { s.rcu with remaining := s.rcu.remaining - 1 } }) ∧
    (s.rcu.isOpen = true → s.rcu.remaining = 1 → closed s s.countDown) ∧
    (if s.rcu.isOpen = true ∧ s.rcu.remaining = 0 then
      ∃ u, exec .reclaimWindowExpiry s = .next u.transmit ∧ closed s u
    else exec .reclaimWindowExpiry s = .next s.transmit)

/-! ### The trunk port (chapter 9) -/

/-- R165, R203, R204: a transmission that is the REQUEST frame of a number, epoch, sequence, kind and body is that
station request; one that is a JOIN or ROLL_ANSWER frame is that row; one that is longer than 8 units, is of another type or
of none, does not run for the units its length field gives, does not end in its check, is a JOIN or ROLL_ANSWER of another
length than 2 units, or a REQUEST whose body length it cannot hold, leaves no trace. R131, R203: one that begins with 0xF0
is no frame: in STARTING and RUNNING its whole units of that byte are a burst of their own, from 0 to quiet. How the row of
a frame, and that of a request, relate to the bytes is the model's choice (entry 5), and so the operand of a burst (entry
23). -/
def Obligations.RequestFrameIsItsRow : Prop :=
  (∀ (s : State) (number epoch : Byte) (seq : BitVec 4) (body : List Byte), body.length ≤ 54 →
    ∀ row ∈ stationRows number epoch seq body,
      exec (.requestFrame (requestFrameBytes number epoch seq row.1.code body)) s = exec row.2 s) ∧
  (∀ (s : State) (t : Tag) (epoch : Byte),
    exec (.requestFrame (tagFrameBytes 0x72 epoch t)) s = exec (.join t epoch) s ∧
    exec (.requestFrame (tagFrameBytes 0x73 epoch t)) s = exec (.rollAnswer t epoch) s) ∧
  (∀ (s : State) (bytes : List Byte), bytes.head? ≠ some 0xF0 →
    (64 < bytes.length ∨ bytes.drop (bytes.length - 2) ≠ checkBytes (frameCheck (bytes.take (bytes.length - 2))) ∨
      bytes.headD 0 ∉ [0x71, 0x72, 0x73] ∨ bytes.length ≠ word16 (bytes.getD 3 0) (bytes.getD 4 0) * 8 ∨
      bytes.length < 16 ∨ (bytes.headD 0 ∈ [0x72, 0x73] ∧ bytes.length ≠ 16) ∨
      (bytes.headD 0 = 0x71 ∧ bytes.length < (bytes.getD 7 0).toNat + 10)) →
    exec (.requestFrame bytes) s = .next s.transmit) ∧
  (∀ (s : State) (units : Nat) (rest : List Byte), ¬ List.replicate 8 0xF0 <+: rest →
    let bytes := List.replicate (units * 8) 0xF0 ++ rest
    bytes.head? = some 0xF0 →
    if s.csq.partState = .starting ∨ s.csq.partState = .running then
      exec (.requestFrame bytes) s = exec (.resetBurst units true) { s with tpt := { s.tpt with burst := 0 } }
    else exec (.requestFrame bytes) s = .next s.transmit)

/-- R165 to R167, R169: a REQUEST outside the station portion, under a number without a PRESENT entry, with another
epoch, or finding the queue full, changes nothing else; a repeat of the last sequence gets a copy of the cached reply
and nothing is executed. A frame heard in the portion means that the 4024's share is over (entry 24), or is one of the window
that has just ended (R161, entry 42). R168, R170: a new
REQUEST with remote_requests off is answered NOT_PERMITTED unless it is a LEAVE; with it on, a kind that is no station
kind is answered UNKNOWN_KIND with the kind. Neither reaches a block. R7: from the instant RESET is taken until the soft reset
no request is executed; that one which would be is dropped unanswered is the model's choice (entry 33). -/
def Obligations.RequestsNotExecuted : Prop :=
  (∀ (s : State) (number epoch : Byte) (seq : BitVec 4) (body : List Byte), s.keyed → body.length ≤ 54 →
     ∀ row ∈ stationRows number epoch seq body,
       let leads (u : State) : Prop := exec row.2 s = .next u.transmit
       let heard := s.heard
       if s.stationPortion = false then leads s
       else if (∀ e ∈ s.rst.stations, e.number = number.toNat → e.state ≠ .present) ∨ epoch ≠ s.rst.epoch ∨
           32 ≤ s.tpt.outbound.length then leads heard
       else ∀ e ∈ s.rst.stations, e.number = number.toNat → e.lastSeq = some seq → ∀ f, e.cachedReply = some f →
         leads { heard with tpt := { heard.tpt with outbound := s.tpt.outbound ++ [f] } }) ∧
  (∀ (s : State) (number epoch : Byte) (seq : BitVec 4) (kind : Byte) (body : List Byte) (e : Station),
     s.StationFresh number epoch seq e → body.length ≤ 54 →
     let c := Instr.requestFrame (requestFrameBytes number epoch seq kind body)
     (s.cfg.remoteRequests = false → kind ≠ 0x34 →
       exec c s = .next (State.transmit (s.withStationReply e seq kind ⟨.notPermitted, []⟩))) ∧
     (s.cfg.remoteRequests = true → (∀ row ∈ stationRows number epoch seq body, row.1.code ≠ kind) →
       exec c s = .next (State.transmit (s.withStationReply e seq kind ⟨.unknownKind, [kind]⟩)))) ∧
  (∀ (s : State) (number epoch : Byte) (seq : BitVec 4) (body : List Byte) (e : Station),
     s.StationFresh number epoch seq e → body.length ≤ 54 → s.hlk.resetting.isSome = true →
     ∀ row ∈ stationRows number epoch seq body, s.cfg.remoteRequests = true ∨ row.1 = .leave →
       exec row.2 s = .next s.heard.transmit) ∧
  (∀ s : State, s.stationPortion = true ↔ s.csq.partState = .running ∧ (s.tpt.edge = true ∨ s.tpt.share = none ∧
     (s.csq.phase = .window ∨ s.csq.phase = .slots ∧ (∀ x ∈ s.svw, x.seen ≠ .pending) ∧ s.tpt.outbound = [])))

/-- R174 to R176: a notice for a station in the roster joins the outbound queue as a NOTICE frame that carries and clears
the notices-dropped flag; with the queue full it is parked, and a fifth drops the station's oldest and sets the flag. One
for a number without an entry is not formed. A freed entry takes the notice parked earliest. R103: a notice for a tag goes to
the PRESENT station that holds it, if there is one. -/
def Obligations.NoticesQueuedOrParked : Prop :=
  (∀ (s : State) (number : Nat) (kind : NoticeKind) (body : List Byte), s.keyed →
    let u := s.handNotice number kind body
    let own := s.tpt.parked.filter (fun p => p.number == number)
    let flagged (d : Bool) : Roster := { s.rst with
      stations := s.rst.stations.map (fun x => if x.number = number then { x with dropped := d } else x) }
    ((∀ e ∈ s.rst.stations, e.number ≠ number) → u = s) ∧
    (∀ e ∈ s.rst.stations, e.number = number →
      if s.tpt.outbound.length < 32 then
        u = { s with
          rst := flagged false
          tpt := { s.tpt with
            outbound := s.tpt.outbound ++ [.notice number e.tag s.rst.epoch e.dropped ⟨kind, body⟩] } }
      else if own.length < 4 then
        u = { s with tpt := { s.tpt with parked := s.tpt.parked ++ [⟨number, ⟨kind, body⟩⟩] } }
      else
        ∃ before p after, s.tpt.parked = before ++ p :: after ∧ p.number = number ∧
          (∀ x ∈ before, x.number ≠ number) ∧
          u = { s with
            rst := flagged true
            tpt := { s.tpt with parked := before ++ after ++ [⟨number, ⟨kind, body⟩⟩] } }) ∧
    (s.tpt.parked = [] → s.unpark = s) ∧
    (∀ p rest, s.tpt.parked = p :: rest → ∀ e ∈ s.rst.stations, e.number = p.number →
      s.unpark = { s with
        rst := { s.rst with
          stations := s.rst.stations.map (fun x => if x.number = p.number then { x with dropped := false } else x) }
        tpt := { s.tpt with
          parked := rest
          outbound := s.tpt.outbound ++ [.notice p.number e.tag s.rst.epoch e.dropped p.notice] } })) ∧
  (∀ (s : State) (t : Tag) (kind : NoticeKind) (body : List Byte), s.keyed →
    (∀ e ∈ s.rst.stations, e.tag = t → s.noticeIfPresent t kind body =
      if e.state = .present then s.handNotice e.number kind body else s) ∧
    ((∀ e ∈ s.rst.stations, e.tag ≠ t) → s.noticeIfPresent t kind body = s))

/-- R21, R172, R176: the 4024's share. At the open-window offset, with at least 64 units left, the frame at the head of the
queue begins if it fits; a frame sent leaves the queue, the earliest parked notice takes the freed entry, and the next
begins if it fits in what is left of the 64 units, else the share is over. R18: behind a header TRK_DIR falls (that
OUTBOUND_FRAME_SENT ends a header too is the model's choice, entry 17). At any other time neither instant stands (the
model's choice, entry 1). R31, R203: TRK_DIR is high exactly while something is sent, and the trunk then carries the bytes of
the REPLY, NUMBER_ASSIGN or NOTICE at the length of its fields in units; that byte 1 of a NUMBER_ASSIGN is the number assigned
is the model's choice (entry 41). -/
def Obligations.ShareOfTheWindow : Prop :=
  (∀ s : State,
    let ended (s : State) : State := { s with tpt := { s.tpt with share := none, sending := none } }
    let goesOn (s : State) (left : Nat) : State := match s.tpt.outbound with
      | [] => ended s
      | f :: _ => if f.units ≤ left then
          { s with tpt := { s.tpt with share := some left, sending := some (.outbound f) } } else ended s
    (∀ left : Nat,
      if s.csq.partState = .running ∧ s.csq.phase = .slots ∧ (∀ x ∈ s.svw, x.seen ≠ .pending) then
        let opened := { s with csq := { s.csq with phase := .window }, tpt := { s.tpt with edge := false } }
        exec (.openWindowShare left) s = .next (State.transmit (if left < 64 then ended opened else goesOn opened 64))
      else exec (.openWindowShare left) s = .next s.transmit) ∧
    (∀ h, s.tpt.sending = some (.header h) → exec .outboundFrameSent s = .next (ended s).transmit) ∧
    ((∀ h, s.tpt.sending ≠ some (.header h)) → (∀ epoch period, s.tpt.sending ≠ some (.rollCall epoch period)) →
      (∀ left f rest, s.tpt.share = some left → s.tpt.outbound = f :: rest →
        exec .outboundFrameSent s = .next (State.transmit
          (goesOn (State.unpark { s with tpt := { s.tpt with outbound := rest } }) (left - f.units)))) ∧
      (s.tpt.share = none ∨ s.tpt.outbound = [] → exec .outboundFrameSent s = .next s.transmit))) ∧
  (∀ s : State,
    (s.trkDir = true ↔ s.tpt.sending ≠ none) ∧ (s.tpt.sending = none → s.trkBytes = none) ∧
    ∀ f : OutFrame, s.tpt.sending = some (.outbound f) →
      let carries (type : Byte) (number : Nat) (epoch : Byte) (units : Nat) (fields : List Byte) : Prop :=
        f.units = units ∧ s.trkBytes = some (trunkFrame ([type, byteOf number, epoch] ++ be16 units ++ fields) units)
      match f with
      | .reply number tag epoch seq kind r => carries 0x81 number epoch (max 3 ((r.body.length + 24) / 8))
          ([byteOf seq.toNat, kind, r.code.code] ++ tagBytes tag ++ [byteOf r.body.length] ++ r.body)
      | .assign tag number epoch => carries 0x83 number epoch 2 ([byteOf number, 0, 0] ++ tagBytes tag)
      | .notice number tag epoch dropped n => carries 0x82 number epoch (max 2 ((n.body.length + 23) / 8))
          ([match n.kind with | .editOutcome => 1 | .streamState => 2 | .claimReleased => 3, flag dropped,
            byteOf n.body.length] ++ tagBytes tag ++ n.body))

/-- R131, R6: in STARTING and RUNNING the detector counts units of the burst pattern; the sixteenth starts a trunk
reset with cause STATION_BURST, where halt waiters then halt the part, and further units of the same burst start
none; quiet begins the count afresh. In QUIESCENT and HALTED nothing is counted. The operand of the command and the
detector's count are the model's (entry 23). -/
def Obligations.ResetBurstDetected : Prop :=
  ∀ (s : State) (units : Nat) (quiet : Bool), s.tpt.burst ≤ 16 →
    let leads (u : State) : Prop := exec (.resetBurst units quiet) s = .next u.transmit
    let counted (u : State) (n : Nat) : State := { u with tpt := { u.tpt with burst := n } }
    let ends (u : State) : State := if quiet then counted u 0 else u
    if s.csq.partState = .quiescent ∨ s.csq.partState = .halted then leads s
    else if s.tpt.burst = 16 ∨ s.tpt.burst + units < 16 then leads (ends (counted s (min 16 (s.tpt.burst + units))))
    else if s.csq.haltWaiters = [] then leads (ends ((counted s 16).trunkReset .stationBurst))
    else
      let reset := (counted s 16).trunkReset .stationBurst
      leads (ends { reset with
        csq := { reset.csq with partState := .halted, startWaiters := [], haltWaiters := [] }
        rst := { reset.rst with stations := [], rollPeriod := 0 }
        tpt := { reset.tpt with parked := [], share := none, sending := none, burst := 0 }
        hlk := (reset.hlk.answerEach s.csq.startWaiters ⟨.aborted, []⟩).answerEach s.csq.haltWaiters
          ⟨.done, be16 (s.csq.lastCycle.getD 0).toNat⟩ })

/-! ### What every step keeps -/

/-- R34: FREE_UNITS, the claimed units and the holding units together stay the budget, through every step from every state
in which they are. -/
def Obligations.UnitBalanceKept : Prop :=
  ∀ s t : State, s.lgr.balanced s.cfg.budget → step s = .next t → t.lgr.balanced t.cfg.budget

/-- R35: every channel stands in exactly one place, FREE_CHANNELS, a claim record or a holding, through every step from
every state in which it does. -/
def Obligations.ChannelPartitionKept : Prop :=
  ∀ s t : State, s.lgr.partitioned → step s = .next t → t.lgr.partitioned

/-- R8, R28, R64, R88, R131, R135, R141, R142, R150, R164, R175, R183, R184, R186, R191, R196: the configuration stays in
its ranges, and these within their bounds: the edits, stations, known tags, outbound frames, parked notices of a station,
outstanding requests, cached replies, answers and reports; and the counts of answers and of reports lost, the late run, the
burst's units, the roll-call period, a stream's services, vacant and overlong counts and the reclaim window's cycles. -/
def Obligations.BoundsKept : Prop :=
  ∀ s t : State, s.bounded → s.cfg.valid → step s = .next t → t.bounded ∧ t.cfg.valid

/-- R1, R16, R30, R31, R150: waiters and the cycle stay where the part state has them, the reclaim window is open exactly
while a holding exists, and in QUIESCENT and HALTED the trunk is silent. -/
def Obligations.PartStateKept : Prop :=
  ∀ s t : State, s.csq.inPlace → s.windowInPlace → s.silentInPlace → step s = .next t →
    t.csq.inPlace ∧ t.windowInPlace ∧ t.silentInPlace

/-- R36, R38, R62, R63, R88 to R90, R141, R142, R152, R183, R184: keys stay unique, streams in their positions with a
channel each, holdings name HELD streams of their tags, edits name records one each and ADMITs the STAGED ones, roster
entries stand by number with a known tag; and at most 32 holdings exist. R53, R55, R65: with them each account's committed
units stay the charges of its owner's streams that are not HELD, within the claimed units, and its bound channels those
streams' channels, within the held ones; R38, R152: each holding lists its tag's HELD streams, charged with their units,
within its units and channels; R37, R89: station claim records stay those of stations in the roster, and pending resize units
those of the RESIZE pending. -/
def Obligations.RecordsKept : Prop :=
  (∀ s t : State, s.bounded → s.keyed → s.positioned → s.channelsApart → s.heldInPlace → s.editsInPlace →
    s.stagedInPlace → s.rosterInPlace → s.lgr.holdings.length ≤ 32 → step s = .next t →
    t.keyed ∧ t.positioned ∧ t.channelsApart ∧ t.heldInPlace ∧ t.editsInPlace ∧ t.stagedInPlace ∧ t.rosterInPlace ∧
    t.lgr.holdings.length ≤ 32) ∧
  (∀ s t : State, s.bounded → s.keyed → s.positioned → s.channelsApart → s.heldInPlace → s.editsInPlace →
    s.stagedInPlace → s.rosterInPlace → s.lgr.holdings.length ≤ 32 → s.silentInPlace → s.claimsInPlace →
    s.resizesInPlace → s.accountsInPlace → step s = .next t →
    t.claimsInPlace ∧ t.resizesInPlace ∧ t.accountsInPlace)

/-- R191, R193, R196: the report queue keeps consecutive sequences, SENT records ahead of WAITING ones, at most 4 of them,
and a marker only while it is full. -/
def Obligations.ReportOrderKept : Prop :=
  ∀ s t : State, s.rpu.inOrder → step s = .next t → t.rpu.inOrder

/-- The state after reset meets every invariant that steps keep. -/
def Obligations.ResetMeetsTheInvariants : Prop :=
  let s := State.reset
  s.lgr.balanced s.cfg.budget ∧ s.lgr.partitioned ∧ s.bounded ∧ s.cfg.valid ∧ s.csq.inPlace ∧ s.windowInPlace ∧
  s.silentInPlace ∧ s.keyed ∧ s.positioned ∧ s.channelsApart ∧ s.heldInPlace ∧ s.editsInPlace ∧ s.stagedInPlace ∧
  s.rosterInPlace ∧ s.lgr.holdings.length ≤ 32 ∧ s.claimsInPlace ∧ s.resizesInPlace ∧ s.accountsInPlace ∧ s.rpu.inOrder
end

