-- ==== Sys2Proof/Laws/Decoding.lean ====
section
/-! SUPPORT. The decoding of request bodies (R201, R202): the first field that does not stand whole, and the fields of
a CONFIGURE. -/

namespace Sys2Proof.Machine

/-- The field within which a body ends (R202). -/
theorem shortField_of {sizes : List Nat} {n p k : Nat} (hk : k < sizes.length) (h1 : (sizes.take k).sum ≤ n)
    (h2 : n < (sizes.take (k + 1)).sum) : shortField sizes n p = some (p + k) := by
  induction sizes generalizing n p k with
  | nil => simp at hk
  | cons a l ih =>
    show (if n < a then some p else shortField l (n - a) (p + 1)) = _
    cases k with
    | zero =>
      have : n < a := by simpa [List.take] using h2
      simp [this]
    | succ k =>
      simp only [List.take_succ_cons, List.sum_cons, List.length_cons] at h1 h2 hk
      rw [if_neg (by omega), ih (k := k) (by omega) (by omega) (by omega)]; congr 1; omega

/-- A body that holds the whole layout has no short field. -/
theorem shortField_none {sizes : List Nat} {n p : Nat} (h : sizes.sum ≤ n) : shortField sizes n p = none := by
  induction sizes generalizing n p with
  | nil => rfl
  | cons a l ih => simp at h; unfold shortField; rw [if_neg (by omega), ih (by omega)]

/-- A field that a CONFIGURE carries is read back, and the rest of the body behind it (12, CONFIGURE). -/
theorem configPairs_cons (f : ConfigField) (hf : f.encodable) (rest : List Byte) :
    configPairs (f.bytes ++ rest) = f.before (configPairs rest) := by
  obtain ⟨id, v⟩ := f
  have hw : v < 65536 → word16 (byteOf (v / 256)) (byteOf v) = v := by
    intro h; simp [word16, byteOf]; omega
  have hb : v < 256 → (byteOf v).toNat = v := by intro h; simp [byteOf]; omega
  simp only [ConfigField.encodable] at hf
  rcases hf with ⟨h1, h2⟩ | ⟨h1, h2⟩ | ⟨h1, h2⟩ | ⟨h1, h2⟩
  · simp only [List.mem_cons, List.not_mem_nil, or_false] at h1
    rcases h1 with rfl | rfl | rfl <;> simp [ConfigField.bytes, be16] <;> rw [configPairs.eq_def] <;>
      simp [byteOf] <;> rw [← byteOf, ← byteOf, hw h2]
  · simp only [List.mem_cons, List.not_mem_nil, or_false] at h1
    rcases h1 with rfl | rfl <;> simp [ConfigField.bytes] <;> rw [configPairs.eq_def] <;>
      simp [byteOf, configValueDecodes] <;> rw [← BitVec.toNat_ofNat (w := 8), ← byteOf, hb h2]
  all_goals
    subst h1
    simp [ConfigField.bytes]; rw [configPairs.eq_def]
    have hm : v % 256 = v := Nat.mod_eq_of_lt (by omega)
    simp [byteOf, configValueDecodes, hm, h2]

/-- The fields of a CONFIGURE are read back in order. -/
theorem configPairs_append (l : List ConfigField) (hl : ∀ f ∈ l, f.encodable) (rest : List Byte) :
    configPairs ((l.map ConfigField.bytes).flatten ++ rest) = (l ++ (configPairs rest).1, (configPairs rest).2) := by
  induction l with
  | nil => simp
  | cons f l ih =>
    simp only [List.map_cons, List.flatten_cons, List.append_assoc]
    rw [configPairs_cons f (hl f (by simp)), ih (fun g hg => hl g (by simp [hg]))]; rfl

/-- No identifier is repeated exactly where the identifiers are distinct (R9). -/
theorem firstRepeated_eq_none (seen : List Nat) (l : List ConfigField) :
    firstRepeated seen l = none ↔ (l.map ConfigField.field).Nodup ∧ ∀ f ∈ l, f.field ∉ seen := by
  induction l generalizing seen with
  | nil => simp [firstRepeated]
  | cons f l ih =>
    simp only [firstRepeated]
    by_cases h : f.field ∈ seen
    · simp [h]
    · simp [h, ih]; aesop

/-- The first field that stands for the second time (R9). -/
theorem firstRepeated_at (seen : List Nat) (before after : List ConfigField) (f : ConfigField)
    (hb : (before.map ConfigField.field).Nodup) (hs : ∀ g ∈ before, g.field ∉ seen)
    (hf : f.field ∈ before.map ConfigField.field ∨ f.field ∈ seen) :
    firstRepeated seen (before ++ f :: after) = some f.field := by
  induction before generalizing seen with
  | nil => simp at hf; simp [firstRepeated, hf]
  | cons g l ih =>
    have := hs g (by simp)
    simp only [List.cons_append, firstRepeated]
    simp [this]
    simp at hb
    apply ih _ hb.2
    · intro x hx; have := hs x (by simp [hx]); simp [this]; intro h; exact hb.1 x hx h
    · simp at hf; simp; rcases hf with (h | h) | h <;> simp [h]

end Sys2Proof.Machine
end

