-- ==== Sys2Proof/Laws/State.lean ====
section
/-! SUPPORT. What each update of the state makes of each block: true by `rfl`, so that no proof unfolds a record update. -/

namespace Sys2Proof.Machine

/-! ### offer -/

section
variable (s : State) (k : ReportKind) (body : List Byte)
@[simp] theorem State.offer_csq : (s.offer k body).csq = s.csq := rfl
@[simp] theorem State.offer_cfg : (s.offer k body).cfg = s.cfg := rfl
@[simp] theorem State.offer_lgr : (s.offer k body).lgr = s.lgr := rfl
@[simp] theorem State.offer_streams : (s.offer k body).streams = s.streams := rfl
@[simp] theorem State.offer_stg : (s.offer k body).stg = s.stg := rfl
@[simp] theorem State.offer_svw : (s.offer k body).svw = s.svw := rfl
@[simp] theorem State.offer_rst : (s.offer k body).rst = s.rst := rfl
@[simp] theorem State.offer_rcu : (s.offer k body).rcu = s.rcu := rfl
@[simp] theorem State.offer_tpt : (s.offer k body).tpt = s.tpt := rfl
@[simp] theorem State.offer_hlk : (s.offer k body).hlk = s.hlk := rfl
@[simp] theorem State.offer_rpu : (s.offer k body).rpu = s.rpu.offer k s.csq.cycleNumber s.rst.epoch body := rfl
@[simp] theorem State.offer_pending : (s.offer k body).pending = s.pending := rfl
end

/-! ### putStream -/

section
variable (s : State) (r : StreamRecord)
@[simp] theorem State.putStream_csq : (s.putStream r).csq = s.csq := rfl
@[simp] theorem State.putStream_cfg : (s.putStream r).cfg = s.cfg := rfl
@[simp] theorem State.putStream_lgr : (s.putStream r).lgr = s.lgr := rfl
@[simp] theorem State.putStream_streams :
    (s.putStream r).streams = updateFirst (fun x => x.id == r.id) (fun _ => r) s.streams := rfl
@[simp] theorem State.putStream_stg : (s.putStream r).stg = s.stg := rfl
@[simp] theorem State.putStream_svw : (s.putStream r).svw = s.svw := rfl
@[simp] theorem State.putStream_rst : (s.putStream r).rst = s.rst := rfl
@[simp] theorem State.putStream_rcu : (s.putStream r).rcu = s.rcu := rfl
@[simp] theorem State.putStream_tpt : (s.putStream r).tpt = s.tpt := rfl
@[simp] theorem State.putStream_hlk : (s.putStream r).hlk = s.hlk := rfl
@[simp] theorem State.putStream_rpu : (s.putStream r).rpu = s.rpu := rfl
@[simp] theorem State.putStream_pending : (s.putStream r).pending = s.pending := rfl
end

/-! ### addRecord -/

section
variable (s : State) (r : StreamRecord)
@[simp] theorem State.addRecord_csq : (s.addRecord r).csq = s.csq := rfl
@[simp] theorem State.addRecord_cfg : (s.addRecord r).cfg = s.cfg := rfl
@[simp] theorem State.addRecord_lgr : (s.addRecord r).lgr = s.lgr := rfl
@[simp] theorem State.addRecord_streams :
    (s.addRecord r).streams = insertBy (fun a b => a.id < b.id) r s.streams := rfl
@[simp] theorem State.addRecord_stg : (s.addRecord r).stg = s.stg := rfl
@[simp] theorem State.addRecord_svw : (s.addRecord r).svw = s.svw := rfl
@[simp] theorem State.addRecord_rst : (s.addRecord r).rst = s.rst := rfl
@[simp] theorem State.addRecord_rcu : (s.addRecord r).rcu = s.rcu := rfl
@[simp] theorem State.addRecord_tpt : (s.addRecord r).tpt = s.tpt := rfl
@[simp] theorem State.addRecord_hlk : (s.addRecord r).hlk = s.hlk := rfl
@[simp] theorem State.addRecord_rpu : (s.addRecord r).rpu = s.rpu := rfl
@[simp] theorem State.addRecord_pending : (s.addRecord r).pending = s.pending := rfl
end

/-! ### acceptEdit -/

section
variable (s : State) (p : Party) (op : EditOp) (id : Nat)
@[simp] theorem State.acceptEdit_csq : (s.acceptEdit p op id).csq = s.csq := rfl
@[simp] theorem State.acceptEdit_cfg : (s.acceptEdit p op id).cfg = s.cfg := rfl
@[simp] theorem State.acceptEdit_lgr : (s.acceptEdit p op id).lgr = s.lgr := rfl
@[simp] theorem State.acceptEdit_streams : (s.acceptEdit p op id).streams = s.streams := rfl
@[simp] theorem State.acceptEdit_svw : (s.acceptEdit p op id).svw = s.svw := rfl
@[simp] theorem State.acceptEdit_rst : (s.acceptEdit p op id).rst = s.rst := rfl
@[simp] theorem State.acceptEdit_rcu : (s.acceptEdit p op id).rcu = s.rcu := rfl
@[simp] theorem State.acceptEdit_tpt : (s.acceptEdit p op id).tpt = s.tpt := rfl
@[simp] theorem State.acceptEdit_hlk : (s.acceptEdit p op id).hlk = s.hlk := rfl
@[simp] theorem State.acceptEdit_rpu : (s.acceptEdit p op id).rpu = s.rpu := rfl
@[simp] theorem State.acceptEdit_pending : (s.acceptEdit p op id).pending = s.pending := rfl
end

/-! ### pushFrame -/

section
variable (s : State) (f : OutFrame)
@[simp] theorem State.pushFrame_csq : (s.pushFrame f).csq = s.csq := rfl
@[simp] theorem State.pushFrame_cfg : (s.pushFrame f).cfg = s.cfg := rfl
@[simp] theorem State.pushFrame_lgr : (s.pushFrame f).lgr = s.lgr := rfl
@[simp] theorem State.pushFrame_streams : (s.pushFrame f).streams = s.streams := rfl
@[simp] theorem State.pushFrame_stg : (s.pushFrame f).stg = s.stg := rfl
@[simp] theorem State.pushFrame_svw : (s.pushFrame f).svw = s.svw := rfl
@[simp] theorem State.pushFrame_rst : (s.pushFrame f).rst = s.rst := rfl
@[simp] theorem State.pushFrame_rcu : (s.pushFrame f).rcu = s.rcu := rfl
@[simp] theorem State.pushFrame_tpt : (s.pushFrame f).tpt = { s.tpt with outbound := s.tpt.outbound ++ [f] } := rfl
@[simp] theorem State.pushFrame_hlk : (s.pushFrame f).hlk = s.hlk := rfl
@[simp] theorem State.pushFrame_rpu : (s.pushFrame f).rpu = s.rpu := rfl
@[simp] theorem State.pushFrame_pending : (s.pushFrame f).pending = s.pending := rfl
end

/-! ### assign -/

section
variable (s : State) (t : Tag) (number : Nat)
@[simp] theorem State.assign_csq : (s.assign t number).csq = s.csq := rfl
@[simp] theorem State.assign_cfg : (s.assign t number).cfg = s.cfg := rfl
@[simp] theorem State.assign_lgr : (s.assign t number).lgr = s.lgr := rfl
@[simp] theorem State.assign_streams : (s.assign t number).streams = s.streams := rfl
@[simp] theorem State.assign_stg : (s.assign t number).stg = s.stg := rfl
@[simp] theorem State.assign_svw : (s.assign t number).svw = s.svw := rfl
@[simp] theorem State.assign_rst : (s.assign t number).rst = s.rst := rfl
@[simp] theorem State.assign_rcu : (s.assign t number).rcu = s.rcu := rfl
@[simp] theorem State.assign_tpt :
    (s.assign t number).tpt = { s.tpt with outbound := s.tpt.outbound ++ [.assign t number s.rst.epoch] } := rfl
@[simp] theorem State.assign_hlk : (s.assign t number).hlk = s.hlk := rfl
@[simp] theorem State.assign_rpu : (s.assign t number).rpu = s.rpu := rfl
@[simp] theorem State.assign_pending : (s.assign t number).pending = s.pending := rfl
end

/-! ### endShare -/

section
variable (s : State)
@[simp] theorem State.endShare_csq : s.endShare.csq = s.csq := rfl
@[simp] theorem State.endShare_cfg : s.endShare.cfg = s.cfg := rfl
@[simp] theorem State.endShare_lgr : s.endShare.lgr = s.lgr := rfl
@[simp] theorem State.endShare_streams : s.endShare.streams = s.streams := rfl
@[simp] theorem State.endShare_stg : s.endShare.stg = s.stg := rfl
@[simp] theorem State.endShare_svw : s.endShare.svw = s.svw := rfl
@[simp] theorem State.endShare_rst : s.endShare.rst = s.rst := rfl
@[simp] theorem State.endShare_rcu : s.endShare.rcu = s.rcu := rfl
@[simp] theorem State.endShare_tpt : s.endShare.tpt = { s.tpt with share := none, sending := none } := rfl
@[simp] theorem State.endShare_hlk : s.endShare.hlk = s.hlk := rfl
@[simp] theorem State.endShare_rpu : s.endShare.rpu = s.rpu := rfl
@[simp] theorem State.endShare_pending : s.endShare.pending = s.pending := rfl
end

/-! ### removeEntry -/

section
variable (s : State) (number : Nat)
@[simp] theorem State.removeEntry_csq : (s.removeEntry number).csq = s.csq := rfl
@[simp] theorem State.removeEntry_cfg : (s.removeEntry number).cfg = s.cfg := rfl
@[simp] theorem State.removeEntry_lgr : (s.removeEntry number).lgr = s.lgr := rfl
@[simp] theorem State.removeEntry_streams : (s.removeEntry number).streams = s.streams := rfl
@[simp] theorem State.removeEntry_stg : (s.removeEntry number).stg = s.stg := rfl
@[simp] theorem State.removeEntry_svw : (s.removeEntry number).svw = s.svw := rfl
@[simp] theorem State.removeEntry_rst :
    (s.removeEntry number).rst = { s.rst with stations := s.rst.stations.eraseP (fun e => e.number == number) } := rfl
@[simp] theorem State.removeEntry_rcu : (s.removeEntry number).rcu = s.rcu := rfl
@[simp] theorem State.removeEntry_tpt :
    (s.removeEntry number).tpt = { s.tpt with parked := s.tpt.parked.filter (fun p => p.number != number) } := rfl
@[simp] theorem State.removeEntry_hlk : (s.removeEntry number).hlk = s.hlk := rfl
@[simp] theorem State.removeEntry_rpu : (s.removeEntry number).rpu = s.rpu := rfl
@[simp] theorem State.removeEntry_pending : (s.removeEntry number).pending = s.pending := rfl
end

/-! ### openEntry -/

section
variable (s : State) (q : HostRequest)
@[simp] theorem State.openEntry_csq : (s.openEntry q).csq = s.csq := rfl
@[simp] theorem State.openEntry_cfg : (s.openEntry q).cfg = s.cfg := rfl
@[simp] theorem State.openEntry_lgr : (s.openEntry q).lgr = s.lgr := rfl
@[simp] theorem State.openEntry_streams : (s.openEntry q).streams = s.streams := rfl
@[simp] theorem State.openEntry_stg : (s.openEntry q).stg = s.stg := rfl
@[simp] theorem State.openEntry_svw : (s.openEntry q).svw = s.svw := rfl
@[simp] theorem State.openEntry_rst : (s.openEntry q).rst = s.rst := rfl
@[simp] theorem State.openEntry_rcu : (s.openEntry q).rcu = s.rcu := rfl
@[simp] theorem State.openEntry_tpt : (s.openEntry q).tpt = s.tpt := rfl
@[simp] theorem State.openEntry_hlk : (s.openEntry q).hlk = { s.hlk with table := s.hlk.table ++ [q.entry] } := rfl
@[simp] theorem State.openEntry_rpu : (s.openEntry q).rpu = s.rpu := rfl
@[simp] theorem State.openEntry_pending : (s.openEntry q).pending = s.pending := rfl
end

/-! ### answer -/

section
variable (s : State) (tag : Byte) (r : Reply)
@[simp] theorem State.answer_csq : (s.answer tag r).csq = s.csq := rfl
@[simp] theorem State.answer_cfg : (s.answer tag r).cfg = s.cfg := rfl
@[simp] theorem State.answer_lgr : (s.answer tag r).lgr = s.lgr := rfl
@[simp] theorem State.answer_streams : (s.answer tag r).streams = s.streams := rfl
@[simp] theorem State.answer_stg : (s.answer tag r).stg = s.stg := rfl
@[simp] theorem State.answer_svw : (s.answer tag r).svw = s.svw := rfl
@[simp] theorem State.answer_rst : (s.answer tag r).rst = s.rst := rfl
@[simp] theorem State.answer_rcu : (s.answer tag r).rcu = s.rcu := rfl
@[simp] theorem State.answer_tpt : (s.answer tag r).tpt = s.tpt := rfl
@[simp] theorem State.answer_hlk : (s.answer tag r).hlk = s.hlk.answer tag r := rfl
@[simp] theorem State.answer_rpu : (s.answer tag r).rpu = s.rpu := rfl
@[simp] theorem State.answer_pending : (s.answer tag r).pending = s.pending := rfl
end

/-! ### placeAnswer -/

section
variable (s : State) (f : HostFrame)
@[simp] theorem State.placeAnswer_csq : (s.placeAnswer f).csq = s.csq := rfl
@[simp] theorem State.placeAnswer_cfg : (s.placeAnswer f).cfg = s.cfg := rfl
@[simp] theorem State.placeAnswer_lgr : (s.placeAnswer f).lgr = s.lgr := rfl
@[simp] theorem State.placeAnswer_streams : (s.placeAnswer f).streams = s.streams := rfl
@[simp] theorem State.placeAnswer_stg : (s.placeAnswer f).stg = s.stg := rfl
@[simp] theorem State.placeAnswer_svw : (s.placeAnswer f).svw = s.svw := rfl
@[simp] theorem State.placeAnswer_rst : (s.placeAnswer f).rst = s.rst := rfl
@[simp] theorem State.placeAnswer_rcu : (s.placeAnswer f).rcu = s.rcu := rfl
@[simp] theorem State.placeAnswer_tpt : (s.placeAnswer f).tpt = s.tpt := rfl
@[simp] theorem State.placeAnswer_hlk : (s.placeAnswer f).hlk = s.hlk.placeAnswer f := rfl
@[simp] theorem State.placeAnswer_rpu : (s.placeAnswer f).rpu = s.rpu := rfl
@[simp] theorem State.placeAnswer_pending : (s.placeAnswer f).pending = s.pending := rfl
end

/-! ### hunt -/

section
variable (s : State)
@[simp] theorem State.hunt_csq : s.hunt.csq = s.csq := rfl
@[simp] theorem State.hunt_cfg : s.hunt.cfg = s.cfg := rfl
@[simp] theorem State.hunt_lgr : s.hunt.lgr = s.lgr := rfl
@[simp] theorem State.hunt_streams : s.hunt.streams = s.streams := rfl
@[simp] theorem State.hunt_stg : s.hunt.stg = s.stg := rfl
@[simp] theorem State.hunt_svw : s.hunt.svw = s.svw := rfl
@[simp] theorem State.hunt_rst : s.hunt.rst = s.rst := rfl
@[simp] theorem State.hunt_rcu : s.hunt.rcu = s.rcu := rfl
@[simp] theorem State.hunt_tpt : s.hunt.tpt = s.tpt := rfl
@[simp] theorem State.hunt_hlk : s.hunt.hlk = { s.hlk with framer := .hunting } := rfl
@[simp] theorem State.hunt_rpu : s.hunt.rpu = s.rpu := rfl
@[simp] theorem State.hunt_pending : s.hunt.pending = s.pending := rfl
end

/-! ### abandonFrame -/

section
variable (s : State) (cause : Byte) (kind tag : Option Byte)
@[simp] theorem State.abandonFrame_csq : (s.abandonFrame cause kind tag).csq = s.csq := rfl
@[simp] theorem State.abandonFrame_cfg : (s.abandonFrame cause kind tag).cfg = s.cfg := rfl
@[simp] theorem State.abandonFrame_lgr : (s.abandonFrame cause kind tag).lgr = s.lgr := rfl
@[simp] theorem State.abandonFrame_streams : (s.abandonFrame cause kind tag).streams = s.streams := rfl
@[simp] theorem State.abandonFrame_stg : (s.abandonFrame cause kind tag).stg = s.stg := rfl
@[simp] theorem State.abandonFrame_svw : (s.abandonFrame cause kind tag).svw = s.svw := rfl
@[simp] theorem State.abandonFrame_rst : (s.abandonFrame cause kind tag).rst = s.rst := rfl
@[simp] theorem State.abandonFrame_rcu : (s.abandonFrame cause kind tag).rcu = s.rcu := rfl
@[simp] theorem State.abandonFrame_tpt : (s.abandonFrame cause kind tag).tpt = s.tpt := rfl
@[simp] theorem State.abandonFrame_hlk :
    (s.abandonFrame cause kind tag).hlk = HostLink.placeAnswer { s.hlk with framer := .hunting } (linkError cause kind tag 0) := rfl
@[simp] theorem State.abandonFrame_rpu : (s.abandonFrame cause kind tag).rpu = s.rpu := rfl
@[simp] theorem State.abandonFrame_pending : (s.abandonFrame cause kind tag).pending = s.pending := rfl
end

/-! ### enterPortion -/

section
variable (s : State)
@[simp] theorem State.enterPortion_csq :
    s.enterPortion.csq = { s.csq with phase := if s.tpt.edge then s.csq.phase else .window } := rfl
@[simp] theorem State.enterPortion_cfg : s.enterPortion.cfg = s.cfg := rfl
@[simp] theorem State.enterPortion_lgr : s.enterPortion.lgr = s.lgr := rfl
@[simp] theorem State.enterPortion_streams : s.enterPortion.streams = s.streams := rfl
@[simp] theorem State.enterPortion_stg : s.enterPortion.stg = s.stg := rfl
@[simp] theorem State.enterPortion_svw : s.enterPortion.svw = s.svw := rfl
@[simp] theorem State.enterPortion_rst : s.enterPortion.rst = s.rst := rfl
@[simp] theorem State.enterPortion_rcu : s.enterPortion.rcu = s.rcu := rfl
@[simp] theorem State.enterPortion_tpt :
    s.enterPortion.tpt = { s.tpt with sending := if s.tpt.edge then s.tpt.sending else none, edge := false } := rfl
@[simp] theorem State.enterPortion_hlk : s.enterPortion.hlk = s.hlk := rfl
@[simp] theorem State.enterPortion_rpu : s.enterPortion.rpu = s.rpu := rfl
@[simp] theorem State.enterPortion_pending : s.enterPortion.pending = s.pending := rfl
end

/-! ### setLateRun -/

section
variable (s : State) (n : Nat)
@[simp] theorem State.setLateRun_csq : (s.setLateRun n).csq = { s.csq with lateRun := n } := rfl
@[simp] theorem State.setLateRun_cfg : (s.setLateRun n).cfg = s.cfg := rfl
@[simp] theorem State.setLateRun_lgr : (s.setLateRun n).lgr = s.lgr := rfl
@[simp] theorem State.setLateRun_streams : (s.setLateRun n).streams = s.streams := rfl
@[simp] theorem State.setLateRun_stg : (s.setLateRun n).stg = s.stg := rfl
@[simp] theorem State.setLateRun_svw : (s.setLateRun n).svw = s.svw := rfl
@[simp] theorem State.setLateRun_rst : (s.setLateRun n).rst = s.rst := rfl
@[simp] theorem State.setLateRun_rcu : (s.setLateRun n).rcu = s.rcu := rfl
@[simp] theorem State.setLateRun_tpt : (s.setLateRun n).tpt = s.tpt := rfl
@[simp] theorem State.setLateRun_hlk : (s.setLateRun n).hlk = s.hlk := rfl
@[simp] theorem State.setLateRun_rpu : (s.setLateRun n).rpu = s.rpu := rfl
@[simp] theorem State.setLateRun_pending : (s.setLateRun n).pending = s.pending := rfl
end

/-! ### beginStretch -/

section
variable (s : State)
@[simp] theorem State.beginStretch_csq : s.beginStretch.csq = { s.csq with phase := .stretch } := rfl
@[simp] theorem State.beginStretch_cfg : s.beginStretch.cfg = s.cfg := rfl
@[simp] theorem State.beginStretch_lgr : s.beginStretch.lgr = s.lgr := rfl
@[simp] theorem State.beginStretch_streams : s.beginStretch.streams = s.streams := rfl
@[simp] theorem State.beginStretch_stg : s.beginStretch.stg = s.stg := rfl
@[simp] theorem State.beginStretch_svw : s.beginStretch.svw = s.svw := rfl
@[simp] theorem State.beginStretch_rst : s.beginStretch.rst = s.rst := rfl
@[simp] theorem State.beginStretch_rcu : s.beginStretch.rcu = s.rcu := rfl
@[simp] theorem State.beginStretch_tpt :
    s.beginStretch.tpt = { s.tpt with share := none, sending := none, edge := false } := rfl
@[simp] theorem State.beginStretch_hlk : s.beginStretch.hlk = s.hlk := rfl
@[simp] theorem State.beginStretch_rpu : s.beginStretch.rpu = s.rpu := rfl
@[simp] theorem State.beginStretch_pending : s.beginStretch.pending = s.pending := rfl
end

/-! ### setEdge -/

section
variable (s : State) (b : Bool)
@[simp] theorem State.setEdge_csq : (s.setEdge b).csq = s.csq := rfl
@[simp] theorem State.setEdge_cfg : (s.setEdge b).cfg = s.cfg := rfl
@[simp] theorem State.setEdge_lgr : (s.setEdge b).lgr = s.lgr := rfl
@[simp] theorem State.setEdge_streams : (s.setEdge b).streams = s.streams := rfl
@[simp] theorem State.setEdge_stg : (s.setEdge b).stg = s.stg := rfl
@[simp] theorem State.setEdge_svw : (s.setEdge b).svw = s.svw := rfl
@[simp] theorem State.setEdge_rst : (s.setEdge b).rst = s.rst := rfl
@[simp] theorem State.setEdge_rcu : (s.setEdge b).rcu = s.rcu := rfl
@[simp] theorem State.setEdge_hlk : (s.setEdge b).hlk = s.hlk := rfl
@[simp] theorem State.setEdge_rpu : (s.setEdge b).rpu = s.rpu := rfl
@[simp] theorem State.setEdge_pending : (s.setEdge b).pending = s.pending := rfl
@[simp] theorem State.setEdge_tpt : (s.setEdge b).tpt = { s.tpt with edge := b } := rfl
end

/-! ### nextEpoch -/

section
variable (s : State)
@[simp] theorem State.nextEpoch_csq : s.nextEpoch.csq = s.csq := rfl
@[simp] theorem State.nextEpoch_cfg : s.nextEpoch.cfg = s.cfg := rfl
@[simp] theorem State.nextEpoch_lgr : s.nextEpoch.lgr = s.lgr := rfl
@[simp] theorem State.nextEpoch_streams : s.nextEpoch.streams = s.streams := rfl
@[simp] theorem State.nextEpoch_stg : s.nextEpoch.stg = s.stg := rfl
@[simp] theorem State.nextEpoch_svw : s.nextEpoch.svw = s.svw := rfl
@[simp] theorem State.nextEpoch_rst : s.nextEpoch.rst = { s.rst with epoch := s.rst.epoch + 1 } := rfl
@[simp] theorem State.nextEpoch_rcu : s.nextEpoch.rcu = s.rcu := rfl
@[simp] theorem State.nextEpoch_tpt : s.nextEpoch.tpt = s.tpt := rfl
@[simp] theorem State.nextEpoch_hlk : s.nextEpoch.hlk = s.hlk := rfl
@[simp] theorem State.nextEpoch_rpu : s.nextEpoch.rpu = s.rpu := rfl
@[simp] theorem State.nextEpoch_pending : s.nextEpoch.pending = s.pending := rfl
end

/-! ### waitStart -/

section
variable (s : State) (tag : Byte)
@[simp] theorem State.waitStart_csq :
    (s.waitStart tag).csq = { s.csq with startWaiters := s.csq.startWaiters ++ [tag] } := rfl
@[simp] theorem State.waitStart_cfg : (s.waitStart tag).cfg = s.cfg := rfl
@[simp] theorem State.waitStart_lgr : (s.waitStart tag).lgr = s.lgr := rfl
@[simp] theorem State.waitStart_streams : (s.waitStart tag).streams = s.streams := rfl
@[simp] theorem State.waitStart_stg : (s.waitStart tag).stg = s.stg := rfl
@[simp] theorem State.waitStart_svw : (s.waitStart tag).svw = s.svw := rfl
@[simp] theorem State.waitStart_rst : (s.waitStart tag).rst = s.rst := rfl
@[simp] theorem State.waitStart_rcu : (s.waitStart tag).rcu = s.rcu := rfl
@[simp] theorem State.waitStart_tpt : (s.waitStart tag).tpt = s.tpt := rfl
@[simp] theorem State.waitStart_hlk : (s.waitStart tag).hlk = s.hlk := rfl
@[simp] theorem State.waitStart_rpu : (s.waitStart tag).rpu = s.rpu := rfl
@[simp] theorem State.waitStart_pending : (s.waitStart tag).pending = s.pending := rfl
end

/-! ### answerStarts -/

section
variable (s : State) (r : Reply)
@[simp] theorem State.answerStarts_csq : (s.answerStarts r).csq = { s.csq with startWaiters := [] } := rfl
@[simp] theorem State.answerStarts_cfg : (s.answerStarts r).cfg = s.cfg := rfl
@[simp] theorem State.answerStarts_lgr : (s.answerStarts r).lgr = s.lgr := rfl
@[simp] theorem State.answerStarts_streams : (s.answerStarts r).streams = s.streams := rfl
@[simp] theorem State.answerStarts_stg : (s.answerStarts r).stg = s.stg := rfl
@[simp] theorem State.answerStarts_svw : (s.answerStarts r).svw = s.svw := rfl
@[simp] theorem State.answerStarts_rst : (s.answerStarts r).rst = s.rst := rfl
@[simp] theorem State.answerStarts_rcu : (s.answerStarts r).rcu = s.rcu := rfl
@[simp] theorem State.answerStarts_tpt : (s.answerStarts r).tpt = s.tpt := rfl
@[simp] theorem State.answerStarts_hlk : (s.answerStarts r).hlk = s.hlk.answerEach s.csq.startWaiters r := rfl
@[simp] theorem State.answerStarts_rpu : (s.answerStarts r).rpu = s.rpu := rfl
@[simp] theorem State.answerStarts_pending : (s.answerStarts r).pending = s.pending := rfl
end

/-! ### answerHalts -/

section
variable (s : State)
@[simp] theorem State.answerHalts_csq : s.answerHalts.csq = { s.csq with haltWaiters := [] } := rfl
@[simp] theorem State.answerHalts_cfg : s.answerHalts.cfg = s.cfg := rfl
@[simp] theorem State.answerHalts_lgr : s.answerHalts.lgr = s.lgr := rfl
@[simp] theorem State.answerHalts_streams : s.answerHalts.streams = s.streams := rfl
@[simp] theorem State.answerHalts_stg : s.answerHalts.stg = s.stg := rfl
@[simp] theorem State.answerHalts_svw : s.answerHalts.svw = s.svw := rfl
@[simp] theorem State.answerHalts_rst : s.answerHalts.rst = s.rst := rfl
@[simp] theorem State.answerHalts_rcu : s.answerHalts.rcu = s.rcu := rfl
@[simp] theorem State.answerHalts_tpt : s.answerHalts.tpt = s.tpt := rfl
@[simp] theorem State.answerHalts_hlk : s.answerHalts.hlk = s.hlk.answerEach s.csq.haltWaiters s.haltReply := rfl
@[simp] theorem State.answerHalts_rpu : s.answerHalts.rpu = s.rpu := rfl
@[simp] theorem State.answerHalts_pending : s.answerHalts.pending = s.pending := rfl
end

/-! ### enterHalted -/

section
variable (s : State)
@[simp] theorem State.enterHalted_csq : s.enterHalted.csq = { s.csq with partState := .halted, phase := .none } := rfl
@[simp] theorem State.enterHalted_cfg : s.enterHalted.cfg = s.cfg := rfl
@[simp] theorem State.enterHalted_lgr : s.enterHalted.lgr = s.lgr := rfl
@[simp] theorem State.enterHalted_streams : s.enterHalted.streams = s.streams := rfl
@[simp] theorem State.enterHalted_stg : s.enterHalted.stg = s.stg := rfl
@[simp] theorem State.enterHalted_svw : s.enterHalted.svw = s.svw := rfl
@[simp] theorem State.enterHalted_rst : s.enterHalted.rst = s.rst := rfl
@[simp] theorem State.enterHalted_rcu : s.enterHalted.rcu = s.rcu := rfl
@[simp] theorem State.enterHalted_tpt :
    s.enterHalted.tpt = { s.tpt with share := none, sending := none, burst := 0, edge := false } := rfl
@[simp] theorem State.enterHalted_hlk : s.enterHalted.hlk = s.hlk := rfl
@[simp] theorem State.enterHalted_rpu : s.enterHalted.rpu = s.rpu := rfl
@[simp] theorem State.enterHalted_pending : s.enterHalted.pending = s.pending := rfl
end

/-! ### clearRoster -/

section
variable (s : State)
@[simp] theorem State.clearRoster_csq : s.clearRoster.csq = s.csq := rfl
@[simp] theorem State.clearRoster_cfg : s.clearRoster.cfg = s.cfg := rfl
@[simp] theorem State.clearRoster_lgr : s.clearRoster.lgr = s.lgr := rfl
@[simp] theorem State.clearRoster_streams : s.clearRoster.streams = s.streams := rfl
@[simp] theorem State.clearRoster_stg : s.clearRoster.stg = s.stg := rfl
@[simp] theorem State.clearRoster_svw : s.clearRoster.svw = s.svw := rfl
@[simp] theorem State.clearRoster_rcu : s.clearRoster.rcu = s.rcu := rfl
@[simp] theorem State.clearRoster_tpt : s.clearRoster.tpt = { s.tpt with parked := [] } := rfl
@[simp] theorem State.clearRoster_hlk : s.clearRoster.hlk = s.hlk := rfl
@[simp] theorem State.clearRoster_rpu : s.clearRoster.rpu = s.rpu := rfl
@[simp] theorem State.clearRoster_pending : s.clearRoster.pending = s.pending := rfl
end

/-! ### formPlan -/

section
variable (s : State) (n : Cycle) (timing : Timing) (stretch : Nat)
@[simp] theorem State.formPlan_cfg : (s.formPlan n timing stretch).cfg = s.cfg := rfl
@[simp] theorem State.formPlan_lgr : (s.formPlan n timing stretch).lgr = s.lgr := rfl
@[simp] theorem State.formPlan_streams : (s.formPlan n timing stretch).streams = s.streams := rfl
@[simp] theorem State.formPlan_stg : (s.formPlan n timing stretch).stg = s.stg := rfl
@[simp] theorem State.formPlan_svw :
    (s.formPlan n timing stretch).svw = (s.slotList n).map (fun e => ⟨e, .pending⟩) := rfl
@[simp] theorem State.formPlan_rst : (s.formPlan n timing stretch).rst = s.rst := rfl
@[simp] theorem State.formPlan_rcu : (s.formPlan n timing stretch).rcu = s.rcu := rfl
@[simp] theorem State.formPlan_hlk : (s.formPlan n timing stretch).hlk = s.hlk := rfl
@[simp] theorem State.formPlan_rpu : (s.formPlan n timing stretch).rpu = s.rpu := rfl
@[simp] theorem State.formPlan_pending : (s.formPlan n timing stretch).pending = s.pending := rfl
end

/-! ### configure -/

section
variable (s : State) (fields : List ConfigField)
@[simp] theorem State.configure_csq : (s.configure fields).csq = s.csq := rfl
@[simp] theorem State.configure_cfg : (s.configure fields).cfg = fields.foldl ConfigRecord.set s.cfg := rfl
@[simp] theorem State.configure_streams : (s.configure fields).streams = s.streams := rfl
@[simp] theorem State.configure_stg : (s.configure fields).stg = s.stg := rfl
@[simp] theorem State.configure_svw : (s.configure fields).svw = s.svw := rfl
@[simp] theorem State.configure_rst : (s.configure fields).rst = s.rst := rfl
@[simp] theorem State.configure_rcu : (s.configure fields).rcu = s.rcu := rfl
@[simp] theorem State.configure_tpt : (s.configure fields).tpt = s.tpt := rfl
@[simp] theorem State.configure_hlk : (s.configure fields).hlk = s.hlk := rfl
@[simp] theorem State.configure_pending : (s.configure fields).pending = s.pending := rfl
end

/-! ### burstQuiet -/

section
variable (s : State)
@[simp] theorem State.burstQuiet_csq : s.burstQuiet.csq = s.csq := rfl
@[simp] theorem State.burstQuiet_cfg : s.burstQuiet.cfg = s.cfg := rfl
@[simp] theorem State.burstQuiet_lgr : s.burstQuiet.lgr = s.lgr := rfl
@[simp] theorem State.burstQuiet_streams : s.burstQuiet.streams = s.streams := rfl
@[simp] theorem State.burstQuiet_stg : s.burstQuiet.stg = s.stg := rfl
@[simp] theorem State.burstQuiet_svw : s.burstQuiet.svw = s.svw := rfl
@[simp] theorem State.burstQuiet_rst : s.burstQuiet.rst = s.rst := rfl
@[simp] theorem State.burstQuiet_rcu : s.burstQuiet.rcu = s.rcu := rfl
@[simp] theorem State.burstQuiet_tpt : s.burstQuiet.tpt = { s.tpt with burst := 0 } := rfl
@[simp] theorem State.burstQuiet_hlk : s.burstQuiet.hlk = s.hlk := rfl
@[simp] theorem State.burstQuiet_rpu : s.burstQuiet.rpu = s.rpu := rfl
@[simp] theorem State.burstQuiet_pending : s.burstQuiet.pending = s.pending := rfl
end

/-! ### newHolding -/

section
variable (s : State) (t : Tag) (a : Account)
@[simp] theorem State.newHolding_csq : (s.newHolding t a).csq = s.csq := rfl
@[simp] theorem State.newHolding_cfg : (s.newHolding t a).cfg = s.cfg := rfl
@[simp] theorem State.newHolding_streams : (s.newHolding t a).streams = s.streams := rfl
@[simp] theorem State.newHolding_stg : (s.newHolding t a).stg = s.stg := rfl
@[simp] theorem State.newHolding_svw : (s.newHolding t a).svw = s.svw := rfl
@[simp] theorem State.newHolding_rst : (s.newHolding t a).rst = s.rst := rfl
@[simp] theorem State.newHolding_rcu : (s.newHolding t a).rcu = s.rcu := rfl
@[simp] theorem State.newHolding_tpt : (s.newHolding t a).tpt = s.tpt := rfl
@[simp] theorem State.newHolding_hlk : (s.newHolding t a).hlk = s.hlk := rfl
@[simp] theorem State.newHolding_rpu : (s.newHolding t a).rpu = s.rpu := rfl
@[simp] theorem State.newHolding_pending : (s.newHolding t a).pending = s.pending := rfl
end

/-! ### mergeHolding -/

section
variable (s : State) (t : Tag) (a : Account)
@[simp] theorem State.mergeHolding_csq : (s.mergeHolding t a).csq = s.csq := rfl
@[simp] theorem State.mergeHolding_cfg : (s.mergeHolding t a).cfg = s.cfg := rfl
@[simp] theorem State.mergeHolding_streams : (s.mergeHolding t a).streams = s.streams := rfl
@[simp] theorem State.mergeHolding_stg : (s.mergeHolding t a).stg = s.stg := rfl
@[simp] theorem State.mergeHolding_svw : (s.mergeHolding t a).svw = s.svw := rfl
@[simp] theorem State.mergeHolding_rst : (s.mergeHolding t a).rst = s.rst := rfl
@[simp] theorem State.mergeHolding_rcu : (s.mergeHolding t a).rcu = s.rcu := rfl
@[simp] theorem State.mergeHolding_tpt : (s.mergeHolding t a).tpt = s.tpt := rfl
@[simp] theorem State.mergeHolding_hlk : (s.mergeHolding t a).hlk = s.hlk := rfl
@[simp] theorem State.mergeHolding_rpu : (s.mergeHolding t a).rpu = s.rpu := rfl
@[simp] theorem State.mergeHolding_pending : (s.mergeHolding t a).pending = s.pending := rfl
end

/-! ### acknowledge -/

section
variable (s : State) (count : Nat)
@[simp] theorem State.acknowledge_csq : (s.acknowledge count).csq = s.csq := rfl
@[simp] theorem State.acknowledge_cfg : (s.acknowledge count).cfg = s.cfg := rfl
@[simp] theorem State.acknowledge_lgr : (s.acknowledge count).lgr = s.lgr := rfl
@[simp] theorem State.acknowledge_streams : (s.acknowledge count).streams = s.streams := rfl
@[simp] theorem State.acknowledge_stg : (s.acknowledge count).stg = s.stg := rfl
@[simp] theorem State.acknowledge_svw : (s.acknowledge count).svw = s.svw := rfl
@[simp] theorem State.acknowledge_rst : (s.acknowledge count).rst = s.rst := rfl
@[simp] theorem State.acknowledge_rcu : (s.acknowledge count).rcu = s.rcu := rfl
@[simp] theorem State.acknowledge_tpt : (s.acknowledge count).tpt = s.tpt := rfl
@[simp] theorem State.acknowledge_hlk : (s.acknowledge count).hlk = s.hlk := rfl
@[simp] theorem State.acknowledge_rpu :
    (s.acknowledge count).rpu = Reports.queueOverflow { s.rpu with queue := s.rpu.queue.drop count } s.csq.cycleNumber s.rst.epoch := rfl
@[simp] theorem State.acknowledge_pending : (s.acknowledge count).pending = s.pending := rfl
end

/-! ### renumber -/

section
variable (s : State) (e : Station)
@[simp] theorem State.renumber_csq : (s.renumber e).csq = s.csq := rfl
@[simp] theorem State.renumber_cfg : (s.renumber e).cfg = s.cfg := rfl
@[simp] theorem State.renumber_lgr : (s.renumber e).lgr = s.lgr := rfl
@[simp] theorem State.renumber_streams : (s.renumber e).streams = s.streams := rfl
@[simp] theorem State.renumber_stg : (s.renumber e).stg = s.stg := rfl
@[simp] theorem State.renumber_svw : (s.renumber e).svw = s.svw := rfl
@[simp] theorem State.renumber_rst : (s.renumber e).rst = s.rst.touch e.tag := rfl
@[simp] theorem State.renumber_rcu : (s.renumber e).rcu = s.rcu := rfl
@[simp] theorem State.renumber_hlk : (s.renumber e).hlk = s.hlk := rfl
@[simp] theorem State.renumber_rpu : (s.renumber e).rpu = s.rpu := rfl
@[simp] theorem State.renumber_pending : (s.renumber e).pending = s.pending := rfl
end

/-! ### withHostReply -/

section
variable (s : State) (kind : Kind) (tag : Byte) (body : List Byte) (r : Reply)
@[simp] theorem State.withHostReply_csq : (s.withHostReply kind tag body r).csq = s.csq := rfl
@[simp] theorem State.withHostReply_cfg : (s.withHostReply kind tag body r).cfg = s.cfg := rfl
@[simp] theorem State.withHostReply_lgr : (s.withHostReply kind tag body r).lgr = s.lgr := rfl
@[simp] theorem State.withHostReply_streams : (s.withHostReply kind tag body r).streams = s.streams := rfl
@[simp] theorem State.withHostReply_stg : (s.withHostReply kind tag body r).stg = s.stg := rfl
@[simp] theorem State.withHostReply_svw : (s.withHostReply kind tag body r).svw = s.svw := rfl
@[simp] theorem State.withHostReply_rst : (s.withHostReply kind tag body r).rst = s.rst := rfl
@[simp] theorem State.withHostReply_rcu : (s.withHostReply kind tag body r).rcu = s.rcu := rfl
@[simp] theorem State.withHostReply_tpt : (s.withHostReply kind tag body r).tpt = s.tpt := rfl
@[simp] theorem State.withHostReply_rpu : (s.withHostReply kind tag body r).rpu = s.rpu := rfl
@[simp] theorem State.withHostReply_pending : (s.withHostReply kind tag body r).pending = s.pending := rfl
end

/-! ### withHostWaiting -/

section
variable (s : State) (kind : Kind) (tag : Byte) (body : List Byte)
@[simp] theorem State.withHostWaiting_csq : (s.withHostWaiting kind tag body).csq = s.csq := rfl
@[simp] theorem State.withHostWaiting_cfg : (s.withHostWaiting kind tag body).cfg = s.cfg := rfl
@[simp] theorem State.withHostWaiting_lgr : (s.withHostWaiting kind tag body).lgr = s.lgr := rfl
@[simp] theorem State.withHostWaiting_streams : (s.withHostWaiting kind tag body).streams = s.streams := rfl
@[simp] theorem State.withHostWaiting_stg : (s.withHostWaiting kind tag body).stg = s.stg := rfl
@[simp] theorem State.withHostWaiting_svw : (s.withHostWaiting kind tag body).svw = s.svw := rfl
@[simp] theorem State.withHostWaiting_rst : (s.withHostWaiting kind tag body).rst = s.rst := rfl
@[simp] theorem State.withHostWaiting_rcu : (s.withHostWaiting kind tag body).rcu = s.rcu := rfl
@[simp] theorem State.withHostWaiting_tpt : (s.withHostWaiting kind tag body).tpt = s.tpt := rfl
@[simp] theorem State.withHostWaiting_hlk :
    (s.withHostWaiting kind tag body).hlk = { s.hlk with table := s.hlk.table ++ [(HostRequest.of kind.code tag body).entry] } := rfl
@[simp] theorem State.withHostWaiting_rpu : (s.withHostWaiting kind tag body).rpu = s.rpu := rfl
@[simp] theorem State.withHostWaiting_pending : (s.withHostWaiting kind tag body).pending = s.pending := rfl
end

/-! ### withAnswer -/

section
variable (s : State) (f : HostFrame)
@[simp] theorem State.withAnswer_csq : (s.withAnswer f).csq = s.csq := rfl
@[simp] theorem State.withAnswer_cfg : (s.withAnswer f).cfg = s.cfg := rfl
@[simp] theorem State.withAnswer_lgr : (s.withAnswer f).lgr = s.lgr := rfl
@[simp] theorem State.withAnswer_streams : (s.withAnswer f).streams = s.streams := rfl
@[simp] theorem State.withAnswer_stg : (s.withAnswer f).stg = s.stg := rfl
@[simp] theorem State.withAnswer_svw : (s.withAnswer f).svw = s.svw := rfl
@[simp] theorem State.withAnswer_rst : (s.withAnswer f).rst = s.rst := rfl
@[simp] theorem State.withAnswer_rcu : (s.withAnswer f).rcu = s.rcu := rfl
@[simp] theorem State.withAnswer_tpt : (s.withAnswer f).tpt = s.tpt := rfl
@[simp] theorem State.withAnswer_hlk :
    (s.withAnswer f).hlk = { s.hlk with answers := s.hlk.answers ++ [f], order := s.hlk.order ++ [.answer] } := rfl
@[simp] theorem State.withAnswer_rpu : (s.withAnswer f).rpu = s.rpu := rfl
@[simp] theorem State.withAnswer_pending : (s.withAnswer f).pending = s.pending := rfl
end

/-! ### heard -/

section
variable (s : State)
@[simp] theorem State.heard_cfg : s.heard.cfg = s.cfg := rfl
@[simp] theorem State.heard_lgr : s.heard.lgr = s.lgr := rfl
@[simp] theorem State.heard_streams : s.heard.streams = s.streams := rfl
@[simp] theorem State.heard_stg : s.heard.stg = s.stg := rfl
@[simp] theorem State.heard_svw : s.heard.svw = s.svw := rfl
@[simp] theorem State.heard_rst : s.heard.rst = s.rst := rfl
@[simp] theorem State.heard_rcu : s.heard.rcu = s.rcu := rfl
@[simp] theorem State.heard_hlk : s.heard.hlk = s.hlk := rfl
@[simp] theorem State.heard_rpu : s.heard.rpu = s.rpu := rfl
@[simp] theorem State.heard_pending : s.heard.pending = s.pending := rfl
@[simp] theorem State.heard_csq :
    s.heard.csq = { s.csq with phase := if s.tpt.edge = true then s.csq.phase else .window } := rfl
@[simp] theorem State.heard_tpt :
    s.heard.tpt = { s.tpt with sending := if s.tpt.edge = true then s.tpt.sending else none, edge := false } := rfl
end

/-! ### withStationReply -/

section
variable (s : State) (e : Station) (seq : BitVec 4) (kind : Byte) (r : Reply)
@[simp] theorem State.withStationReply_csq :
    (s.withStationReply e seq kind r).csq = { s.csq with phase := if s.tpt.edge = true then s.csq.phase else .window } := rfl
@[simp] theorem State.withStationReply_cfg : (s.withStationReply e seq kind r).cfg = s.cfg := rfl
@[simp] theorem State.withStationReply_lgr : (s.withStationReply e seq kind r).lgr = s.lgr := rfl
@[simp] theorem State.withStationReply_streams : (s.withStationReply e seq kind r).streams = s.streams := rfl
@[simp] theorem State.withStationReply_stg : (s.withStationReply e seq kind r).stg = s.stg := rfl
@[simp] theorem State.withStationReply_svw : (s.withStationReply e seq kind r).svw = s.svw := rfl
@[simp] theorem State.withStationReply_rcu : (s.withStationReply e seq kind r).rcu = s.rcu := rfl
@[simp] theorem State.withStationReply_hlk : (s.withStationReply e seq kind r).hlk = s.hlk := rfl
@[simp] theorem State.withStationReply_rpu : (s.withStationReply e seq kind r).rpu = s.rpu := rfl
@[simp] theorem State.withStationReply_pending : (s.withStationReply e seq kind r).pending = s.pending := rfl
end

end Sys2Proof.Machine
end

