-- ==== Sys2Proof/Laws/Frames.lean ====
section
/-! SUPPORT. What each operation leaves unchanged: one lemma per operation, every block that it never writes (and,
where it writes only a part of the roster, the parts it keeps). -/

namespace Sys2Proof.Machine

/-- A fold keeps whatever each of its steps keeps. -/
theorem foldl_keeps {α β γ : Type} (g : β → γ) (f : β → α → β) (h : ∀ b a, g (f b a) = g b) (l : List α) (b : β) :
    g (l.foldl f b) = g b := by
  induction l generalizing b with
  | nil => rfl
  | cons a l ih => simp [ih, h]

/-- A pass over the stream records keeps whatever each turn keeps. -/
theorem State.eachStream_keeps {γ : Type} (g : State → γ) (s : State) (f : StreamRecord → State → State)
    (h : ∀ r s, g (f r s) = g s) : g (s.eachStream f) = g s := by
  unfold State.eachStream
  refine foldl_keeps g _ (fun b a => ?_) _ _
  split <;> simp [h]

/-- The known-tag list alone changes. -/
@[simp] theorem Roster.touch_frame (r : Roster) (t : Tag) :
    (r.touch t).epoch = r.epoch ∧ (r.touch t).stations = r.stations ∧ (r.touch t).rollPeriod = r.rollPeriod := by
  unfold Roster.touch; split <;> simp

/-- The known-tag list alone changes. -/
@[simp] theorem Roster.addKnown_frame (r : Roster) (k : Known) :
    (r.addKnown k).1.epoch = r.epoch ∧ (r.addKnown k).1.stations = r.stations ∧
    (r.addKnown k).1.rollPeriod = r.rollPeriod := by
  unfold Roster.addKnown; split <;> [simp; (split <;> simp)]

/-- The known-tag list alone changes. -/
@[simp] theorem Roster.giveRights_frame (r : Roster) (t : Tag) (rights : Rights) :
    (r.giveRights t rights).1.epoch = r.epoch ∧ (r.giveRights t rights).1.stations = r.stations ∧
    (r.giveRights t rights).1.rollPeriod = r.rollPeriod := by
  unfold Roster.giveRights; split <;> simp [Roster.putRights]

/-- The known-tag list alone changes. -/
@[simp] theorem Roster.recordNumber_frame (r : Roster) (t : Tag) (n : Nat) (d : Rights) :
    (r.recordNumber t n d).epoch = r.epoch ∧ (r.recordNumber t n d).stations = r.stations ∧
    (r.recordNumber t n d).rollPeriod = r.rollPeriod := by
  unfold Roster.recordNumber; split <;> simp

/-- The stations alone change. -/
@[simp] theorem Roster.addStation_frame (r : Roster) (e : Station) :
    (r.addStation e).epoch = r.epoch ∧ (r.addStation e).known = r.known ∧
    (r.addStation e).rollPeriod = r.rollPeriod := by
  simp [Roster.addStation]

@[simp] theorem State.renumber_roster (s : State) (e : Station) :
    (s.renumber e).rst.epoch = s.rst.epoch ∧ (s.renumber e).rst.rollPeriod = s.rst.rollPeriod := by
  simp

@[simp] theorem State.clearRoster_roster (s : State) :
    s.clearRoster.rst.epoch = s.rst.epoch ∧ s.clearRoster.rst.rollPeriod = 0 ∧ s.clearRoster.rst.stations = [] := by
  simp only [State.clearRoster, and_self, and_true]
  exact foldl_keeps (fun r : Roster => r.epoch) (fun r (e : Station) => r.touch e.tag)
    (fun r e => (Roster.touch_frame r e.tag).1) _ _

/-- The known-tag list alone changes. -/
@[simp] theorem Roster.touchAll_frame (r : Roster) (l : List Station) :
    (l.foldl (fun (r : Roster) e => r.touch e.tag) r).epoch = r.epoch ∧
    (l.foldl (fun (r : Roster) e => r.touch e.tag) r).stations = r.stations ∧
    (l.foldl (fun (r : Roster) e => r.touch e.tag) r).rollPeriod = r.rollPeriod := by
  induction l generalizing r with
  | nil => simp
  | cons a l ih => simp [ih]

@[simp] theorem State.joinNotice_frame (s : State) (number : Nat) (n : Notice) :
    (s.joinNotice number n).csq = s.csq ∧ (s.joinNotice number n).cfg = s.cfg ∧
    (s.joinNotice number n).lgr = s.lgr ∧ (s.joinNotice number n).streams = s.streams ∧
    (s.joinNotice number n).stg = s.stg ∧ (s.joinNotice number n).svw = s.svw ∧
    (s.joinNotice number n).rcu = s.rcu ∧ (s.joinNotice number n).hlk = s.hlk ∧
    (s.joinNotice number n).rpu = s.rpu ∧ (s.joinNotice number n).pending = s.pending ∧
    (s.joinNotice number n).rst.epoch = s.rst.epoch ∧ (s.joinNotice number n).rst.known = s.rst.known ∧
    (s.joinNotice number n).rst.rollPeriod = s.rst.rollPeriod := by
  unfold State.joinNotice; split <;> simp [Roster.update]

@[simp] theorem State.parkNotice_frame (s : State) (number : Nat) (n : Notice) :
    (s.parkNotice number n).csq = s.csq ∧ (s.parkNotice number n).cfg = s.cfg ∧
    (s.parkNotice number n).lgr = s.lgr ∧ (s.parkNotice number n).streams = s.streams ∧
    (s.parkNotice number n).stg = s.stg ∧ (s.parkNotice number n).svw = s.svw ∧
    (s.parkNotice number n).rcu = s.rcu ∧ (s.parkNotice number n).hlk = s.hlk ∧
    (s.parkNotice number n).rpu = s.rpu ∧ (s.parkNotice number n).pending = s.pending ∧
    (s.parkNotice number n).rst.epoch = s.rst.epoch ∧ (s.parkNotice number n).rst.known = s.rst.known ∧
    (s.parkNotice number n).rst.rollPeriod = s.rst.rollPeriod := by
  unfold State.parkNotice; simp only; split <;> simp [Roster.update]

@[simp] theorem State.handNotice_frame (s : State) (number : Nat) (kind : NoticeKind) (body : List Byte) :
    (s.handNotice number kind body).csq = s.csq ∧ (s.handNotice number kind body).cfg = s.cfg ∧
    (s.handNotice number kind body).lgr = s.lgr ∧ (s.handNotice number kind body).streams = s.streams ∧
    (s.handNotice number kind body).stg = s.stg ∧ (s.handNotice number kind body).svw = s.svw ∧
    (s.handNotice number kind body).rcu = s.rcu ∧ (s.handNotice number kind body).hlk = s.hlk ∧
    (s.handNotice number kind body).rpu = s.rpu ∧ (s.handNotice number kind body).pending = s.pending ∧
    (s.handNotice number kind body).rst.epoch = s.rst.epoch ∧
    (s.handNotice number kind body).rst.known = s.rst.known ∧
    (s.handNotice number kind body).rst.rollPeriod = s.rst.rollPeriod := by
  unfold State.handNotice; split <;> [simp; (split <;> simp)]

@[simp] theorem State.noticeIfPresent_frame (s : State) (t : Tag) (kind : NoticeKind) (body : List Byte) :
    (s.noticeIfPresent t kind body).csq = s.csq ∧ (s.noticeIfPresent t kind body).cfg = s.cfg ∧
    (s.noticeIfPresent t kind body).lgr = s.lgr ∧ (s.noticeIfPresent t kind body).streams = s.streams ∧
    (s.noticeIfPresent t kind body).stg = s.stg ∧ (s.noticeIfPresent t kind body).svw = s.svw ∧
    (s.noticeIfPresent t kind body).rcu = s.rcu ∧ (s.noticeIfPresent t kind body).hlk = s.hlk ∧
    (s.noticeIfPresent t kind body).rpu = s.rpu ∧ (s.noticeIfPresent t kind body).pending = s.pending ∧
    (s.noticeIfPresent t kind body).rst.epoch = s.rst.epoch ∧
    (s.noticeIfPresent t kind body).rst.known = s.rst.known ∧
    (s.noticeIfPresent t kind body).rst.rollPeriod = s.rst.rollPeriod := by
  unfold State.noticeIfPresent; split <;> simp

@[simp] theorem State.unpark_frame (s : State) :
    (s.unpark).csq = s.csq ∧ (s.unpark).cfg = s.cfg ∧ (s.unpark).lgr = s.lgr ∧ (s.unpark).streams = s.streams ∧
    (s.unpark).stg = s.stg ∧ (s.unpark).svw = s.svw ∧ (s.unpark).rcu = s.rcu ∧ (s.unpark).hlk = s.hlk ∧
    (s.unpark).rpu = s.rpu ∧ (s.unpark).pending = s.pending ∧ (s.unpark).rst.epoch = s.rst.epoch ∧
    (s.unpark).rst.known = s.rst.known ∧ (s.unpark).rst.rollPeriod = s.rst.rollPeriod := by
  unfold State.unpark; split <;> simp

@[simp] theorem State.continueShare_frame (s : State) (left : Nat) :
    (s.continueShare left).csq = s.csq ∧ (s.continueShare left).cfg = s.cfg ∧
    (s.continueShare left).lgr = s.lgr ∧ (s.continueShare left).streams = s.streams ∧
    (s.continueShare left).stg = s.stg ∧ (s.continueShare left).svw = s.svw ∧
    (s.continueShare left).rst = s.rst ∧ (s.continueShare left).rcu = s.rcu ∧
    (s.continueShare left).hlk = s.hlk ∧ (s.continueShare left).rpu = s.rpu ∧
    (s.continueShare left).pending = s.pending := by
  unfold State.continueShare; split <;> [simp; (split <;> simp)]

@[simp] theorem State.tellOutcome_frame (s : State) (recipient : Option Tag) (e : Edit) (o : EditOutcome) :
    (s.tellOutcome recipient e o).csq = s.csq ∧ (s.tellOutcome recipient e o).cfg = s.cfg ∧
    (s.tellOutcome recipient e o).lgr = s.lgr ∧ (s.tellOutcome recipient e o).streams = s.streams ∧
    (s.tellOutcome recipient e o).stg = s.stg ∧ (s.tellOutcome recipient e o).svw = s.svw ∧
    (s.tellOutcome recipient e o).rcu = s.rcu ∧ (s.tellOutcome recipient e o).hlk = s.hlk ∧
    (s.tellOutcome recipient e o).rpu = s.rpu ∧ (s.tellOutcome recipient e o).pending = s.pending ∧
    (s.tellOutcome recipient e o).rst.epoch = s.rst.epoch ∧
    (s.tellOutcome recipient e o).rst.known = s.rst.known ∧
    (s.tellOutcome recipient e o).rst.rollPeriod = s.rst.rollPeriod := by
  unfold State.tellOutcome; split <;> simp

@[simp] theorem State.announce_frame (s : State) (r : StreamRecord) (new : Option StreamState) (cause : ChangeCause) (late : Bool) :
    (s.announce r new cause late).csq = s.csq ∧ (s.announce r new cause late).cfg = s.cfg ∧
    (s.announce r new cause late).lgr = s.lgr ∧ (s.announce r new cause late).streams = s.streams ∧
    (s.announce r new cause late).stg = s.stg ∧ (s.announce r new cause late).svw = s.svw ∧
    (s.announce r new cause late).rcu = s.rcu ∧ (s.announce r new cause late).hlk = s.hlk ∧
    (s.announce r new cause late).pending = s.pending ∧ (s.announce r new cause late).rst.epoch = s.rst.epoch ∧
    (s.announce r new cause late).rst.known = s.rst.known ∧
    (s.announce r new cause late).rst.rollPeriod = s.rst.rollPeriod := by
  unfold State.announce; simp only; split <;> simp

@[simp] theorem State.changeState_frame (s : State) (r : StreamRecord) (new : StreamState) (cause : ChangeCause) (late : Bool) :
    (s.changeState r new cause late).csq = s.csq ∧ (s.changeState r new cause late).cfg = s.cfg ∧
    (s.changeState r new cause late).lgr = s.lgr ∧ (s.changeState r new cause late).stg = s.stg ∧
    (s.changeState r new cause late).svw = s.svw ∧ (s.changeState r new cause late).rcu = s.rcu ∧
    (s.changeState r new cause late).hlk = s.hlk ∧ (s.changeState r new cause late).pending = s.pending ∧
    (s.changeState r new cause late).rst.epoch = s.rst.epoch ∧
    (s.changeState r new cause late).rst.known = s.rst.known ∧
    (s.changeState r new cause late).rst.rollPeriod = s.rst.rollPeriod := by
  simp [State.changeState]

@[simp] theorem State.removeRecord_frame (s : State) (id : Nat) :
    (s.removeRecord id).csq = s.csq ∧ (s.removeRecord id).cfg = s.cfg ∧ (s.removeRecord id).svw = s.svw ∧
    (s.removeRecord id).rst = s.rst ∧ (s.removeRecord id).rcu = s.rcu ∧ (s.removeRecord id).tpt = s.tpt ∧
    (s.removeRecord id).hlk = s.hlk ∧ (s.removeRecord id).rpu = s.rpu ∧
    (s.removeRecord id).pending = s.pending ∧ (s.removeRecord id).stg.next = s.stg.next ∧
    (s.removeRecord id).stg.frozen = s.stg.frozen := by
  unfold State.removeRecord; split <;> simp

@[simp] theorem State.removeRecords_frame (s : State) (ids : List Nat) :
    (s.removeRecords ids).csq = s.csq ∧ (s.removeRecords ids).cfg = s.cfg ∧ (s.removeRecords ids).svw = s.svw ∧
    (s.removeRecords ids).rst = s.rst ∧ (s.removeRecords ids).rcu = s.rcu ∧ (s.removeRecords ids).tpt = s.tpt ∧
    (s.removeRecords ids).hlk = s.hlk ∧ (s.removeRecords ids).rpu = s.rpu ∧
    (s.removeRecords ids).pending = s.pending ∧ (s.removeRecords ids).stg.next = s.stg.next ∧
    (s.removeRecords ids).stg.frozen = s.stg.frozen := by
  induction ids generalizing s with
  | nil => simp [State.removeRecords]
  | cons a l ih => simp only [State.removeRecords, List.foldl_cons] at *; simp [ih]

@[simp] theorem State.endHolding_frame (s : State) (h : Holding) :
    (s.endHolding h).csq = s.csq ∧ (s.endHolding h).cfg = s.cfg ∧ (s.endHolding h).svw = s.svw ∧
    (s.endHolding h).rst = s.rst ∧ (s.endHolding h).rcu = s.rcu ∧ (s.endHolding h).tpt = s.tpt ∧
    (s.endHolding h).hlk = s.hlk ∧ (s.endHolding h).rpu = s.rpu ∧ (s.endHolding h).pending = s.pending := by
  simp [State.endHolding]

@[simp] theorem State.closeIfEmptied_frame (s : State) :
    (s.closeIfEmptied).csq = s.csq ∧ (s.closeIfEmptied).cfg = s.cfg ∧ (s.closeIfEmptied).lgr = s.lgr ∧
    (s.closeIfEmptied).streams = s.streams ∧ (s.closeIfEmptied).stg = s.stg ∧ (s.closeIfEmptied).svw = s.svw ∧
    (s.closeIfEmptied).rst = s.rst ∧ (s.closeIfEmptied).tpt = s.tpt ∧ (s.closeIfEmptied).hlk = s.hlk ∧
    (s.closeIfEmptied).pending = s.pending := by
  unfold State.closeIfEmptied; split <;> simp

@[simp] theorem State.discardHolding_frame (s : State) (h : Holding) (cause : ReleaseCause) :
    (s.discardHolding h cause).csq = s.csq ∧ (s.discardHolding h cause).cfg = s.cfg ∧
    (s.discardHolding h cause).svw = s.svw ∧ (s.discardHolding h cause).hlk = s.hlk ∧
    (s.discardHolding h cause).pending = s.pending ∧ (s.discardHolding h cause).rst.epoch = s.rst.epoch ∧
    (s.discardHolding h cause).rst.known = s.rst.known ∧
    (s.discardHolding h cause).rst.rollPeriod = s.rst.rollPeriod := by
  unfold State.discardHolding; simp only; split <;> simp

@[simp] theorem State.expireHolding_frame (s : State) (h : Holding) :
    (s.expireHolding h).csq = s.csq ∧ (s.expireHolding h).cfg = s.cfg ∧ (s.expireHolding h).svw = s.svw ∧
    (s.expireHolding h).rcu = s.rcu ∧ (s.expireHolding h).hlk = s.hlk ∧ (s.expireHolding h).rpu = s.rpu ∧
    (s.expireHolding h).pending = s.pending ∧ (s.expireHolding h).rst.epoch = s.rst.epoch ∧
    (s.expireHolding h).rst.known = s.rst.known ∧ (s.expireHolding h).rst.rollPeriod = s.rst.rollPeriod := by
  simp [State.expireHolding]

@[simp] theorem State.expireHoldings_frame (s : State) (l : List Holding) :
    (l.foldl State.expireHolding s).csq = s.csq ∧ (l.foldl State.expireHolding s).cfg = s.cfg ∧
    (l.foldl State.expireHolding s).svw = s.svw ∧ (l.foldl State.expireHolding s).rcu = s.rcu ∧
    (l.foldl State.expireHolding s).hlk = s.hlk ∧ (l.foldl State.expireHolding s).rpu = s.rpu ∧
    (l.foldl State.expireHolding s).pending = s.pending ∧
    (l.foldl State.expireHolding s).rst.epoch = s.rst.epoch ∧
    (l.foldl State.expireHolding s).rst.known = s.rst.known ∧
    (l.foldl State.expireHolding s).rst.rollPeriod = s.rst.rollPeriod := by
  induction l generalizing s with
  | nil => simp
  | cons a l ih => simp [ih]

@[simp] theorem State.expireWindow_frame (s : State) :
    (s.expireWindow).csq = s.csq ∧ (s.expireWindow).cfg = s.cfg ∧ (s.expireWindow).svw = s.svw ∧
    (s.expireWindow).hlk = s.hlk ∧ (s.expireWindow).pending = s.pending ∧
    (s.expireWindow).rst.epoch = s.rst.epoch ∧ (s.expireWindow).rst.known = s.rst.known ∧
    (s.expireWindow).rst.rollPeriod = s.rst.rollPeriod := by
  simp [State.expireWindow]

@[simp] theorem State.countDown_frame (s : State) :
    (s.countDown).csq = s.csq ∧ (s.countDown).cfg = s.cfg ∧ (s.countDown).svw = s.svw ∧
    (s.countDown).hlk = s.hlk ∧ (s.countDown).pending = s.pending ∧ (s.countDown).rst.epoch = s.rst.epoch ∧
    (s.countDown).rst.known = s.rst.known ∧ (s.countDown).rst.rollPeriod = s.rst.rollPeriod := by
  unfold State.countDown; split <;> [(simp only; split <;> simp); simp]

@[simp] theorem State.makeRoom_frame (s : State) (touched : List Tag) :
    (s.makeRoom touched).csq = s.csq ∧ (s.makeRoom touched).cfg = s.cfg ∧ (s.makeRoom touched).svw = s.svw ∧
    (s.makeRoom touched).rst = s.rst ∧ (s.makeRoom touched).rcu = s.rcu ∧ (s.makeRoom touched).tpt = s.tpt ∧
    (s.makeRoom touched).hlk = s.hlk ∧ (s.makeRoom touched).pending = s.pending := by
  unfold State.makeRoom; split <;> [simp; (split <;> simp)]

@[simp] theorem State.convertClaim_frame (s : State) (touched : List Tag) (t : Tag) :
    ((State.convertClaim (s, touched) t).1).csq = s.csq ∧ ((State.convertClaim (s, touched) t).1).cfg = s.cfg ∧
    ((State.convertClaim (s, touched) t).1).svw = s.svw ∧ ((State.convertClaim (s, touched) t).1).rst = s.rst ∧
    ((State.convertClaim (s, touched) t).1).rcu = s.rcu ∧ ((State.convertClaim (s, touched) t).1).tpt = s.tpt ∧
    ((State.convertClaim (s, touched) t).1).hlk = s.hlk ∧
    ((State.convertClaim (s, touched) t).1).pending = s.pending := by
  simp only [State.convertClaim]; split <;> simp

@[simp] theorem State.openWindow_frame (s : State) :
    (s.openWindow).csq = s.csq ∧ (s.openWindow).cfg = s.cfg ∧ (s.openWindow).lgr = s.lgr ∧
    (s.openWindow).streams = s.streams ∧ (s.openWindow).stg = s.stg ∧ (s.openWindow).svw = s.svw ∧
    (s.openWindow).rst = s.rst ∧ (s.openWindow).tpt = s.tpt ∧ (s.openWindow).hlk = s.hlk ∧
    (s.openWindow).rpu = s.rpu ∧ (s.openWindow).pending = s.pending := by
  unfold State.openWindow; split <;> simp

@[simp] theorem State.reclaimHolding_frame (s : State) (number : Nat) (h : Holding) :
    (s.reclaimHolding number h).csq = s.csq ∧ (s.reclaimHolding number h).cfg = s.cfg ∧
    (s.reclaimHolding number h).stg = s.stg ∧ (s.reclaimHolding number h).svw = s.svw ∧
    (s.reclaimHolding number h).rst = s.rst ∧ (s.reclaimHolding number h).tpt = s.tpt ∧
    (s.reclaimHolding number h).hlk = s.hlk ∧ (s.reclaimHolding number h).pending = s.pending := by
  simp [State.reclaimHolding]

@[simp] theorem State.undoEdit_frame (s : State) (e : Edit) :
    (s.undoEdit e).csq = s.csq ∧ (s.undoEdit e).cfg = s.cfg ∧ (s.undoEdit e).svw = s.svw ∧
    (s.undoEdit e).rst = s.rst ∧ (s.undoEdit e).rcu = s.rcu ∧ (s.undoEdit e).tpt = s.tpt ∧
    (s.undoEdit e).hlk = s.hlk ∧ (s.undoEdit e).rpu = s.rpu ∧ (s.undoEdit e).pending = s.pending := by
  unfold State.undoEdit; split <;> [simp; (simp only; split <;> simp); simp]

@[simp] theorem State.dropEdit_frame (s : State) (e : Edit) :
    (s.dropEdit e).csq = s.csq ∧ (s.dropEdit e).cfg = s.cfg ∧ (s.dropEdit e).svw = s.svw ∧
    (s.dropEdit e).rst = s.rst ∧ (s.dropEdit e).rcu = s.rcu ∧ (s.dropEdit e).tpt = s.tpt ∧
    (s.dropEdit e).hlk = s.hlk ∧ (s.dropEdit e).rpu = s.rpu ∧ (s.dropEdit e).pending = s.pending := by
  simp [State.dropEdit]

@[simp] theorem State.dropEdits_frame (s : State) (l : List Edit) :
    (s.dropEdits l).csq = s.csq ∧ (s.dropEdits l).cfg = s.cfg ∧ (s.dropEdits l).svw = s.svw ∧
    (s.dropEdits l).rst = s.rst ∧ (s.dropEdits l).rcu = s.rcu ∧ (s.dropEdits l).tpt = s.tpt ∧
    (s.dropEdits l).hlk = s.hlk ∧ (s.dropEdits l).rpu = s.rpu ∧ (s.dropEdits l).pending = s.pending := by
  induction l generalizing s with
  | nil => simp [State.dropEdits]
  | cons a l ih => simp only [State.dropEdits, List.foldl_cons] at *; simp [ih]

@[simp] theorem State.reportDiscards_frame (s : State) (why : DiscardReason) (l : List Edit) :
    (s.reportDiscards why l).csq = s.csq ∧ (s.reportDiscards why l).cfg = s.cfg ∧
    (s.reportDiscards why l).lgr = s.lgr ∧ (s.reportDiscards why l).streams = s.streams ∧
    (s.reportDiscards why l).stg = s.stg ∧ (s.reportDiscards why l).svw = s.svw ∧
    (s.reportDiscards why l).rst = s.rst ∧ (s.reportDiscards why l).rcu = s.rcu ∧
    (s.reportDiscards why l).tpt = s.tpt ∧ (s.reportDiscards why l).hlk = s.hlk ∧
    (s.reportDiscards why l).pending = s.pending := by
  unfold State.reportDiscards; split <;> simp

@[simp] theorem State.commitEdit_frame (s : State) (n : Cycle) (e : Edit) :
    ((s.commitEdit n e).1).csq = s.csq ∧ ((s.commitEdit n e).1).cfg = s.cfg ∧
    ((s.commitEdit n e).1).svw = s.svw ∧ ((s.commitEdit n e).1).rst = s.rst ∧
    ((s.commitEdit n e).1).rcu = s.rcu ∧ ((s.commitEdit n e).1).tpt = s.tpt ∧
    ((s.commitEdit n e).1).hlk = s.hlk ∧ ((s.commitEdit n e).1).rpu = s.rpu ∧
    ((s.commitEdit n e).1).pending = s.pending := by
  unfold State.commitEdit; split
  · simp
  · split <;> (try simp only) <;> (repeat' split) <;> simp

@[simp] theorem State.commitHead_frame (s : State) (n : Cycle) (e : Edit) (rest : List Edit) :
    ((s.commitHead n e rest).1).csq = s.csq ∧ ((s.commitHead n e rest).1).cfg = s.cfg ∧
    ((s.commitHead n e rest).1).svw = s.svw ∧ ((s.commitHead n e rest).1).rcu = s.rcu ∧
    ((s.commitHead n e rest).1).hlk = s.hlk ∧ ((s.commitHead n e rest).1).rpu = s.rpu ∧
    ((s.commitHead n e rest).1).pending = s.pending ∧ ((s.commitHead n e rest).1).rst.epoch = s.rst.epoch ∧
    ((s.commitHead n e rest).1).rst.known = s.rst.known ∧
    ((s.commitHead n e rest).1).rst.rollPeriod = s.rst.rollPeriod := by
  simp [State.commitHead]

@[simp] theorem State.commitUpTo_frame (s : State) (n : Cycle) (k : Nat) :
    ((State.commitUpTo n k s).1).csq = s.csq ∧ ((State.commitUpTo n k s).1).cfg = s.cfg ∧
    ((State.commitUpTo n k s).1).svw = s.svw ∧ ((State.commitUpTo n k s).1).rcu = s.rcu ∧
    ((State.commitUpTo n k s).1).hlk = s.hlk ∧ ((State.commitUpTo n k s).1).rpu = s.rpu ∧
    ((State.commitUpTo n k s).1).pending = s.pending ∧ ((State.commitUpTo n k s).1).rst.epoch = s.rst.epoch ∧
    ((State.commitUpTo n k s).1).rst.known = s.rst.known ∧
    ((State.commitUpTo n k s).1).rst.rollPeriod = s.rst.rollPeriod := by
  induction k generalizing s with
  | zero => simp [State.commitUpTo]
  | succ k ih =>
    unfold State.commitUpTo; split
    · simp
    · simp [ih]

@[simp] theorem State.commit_frame (s : State) (n : Cycle) :
    (s.commit n).csq = s.csq ∧ (s.commit n).cfg = s.cfg ∧ (s.commit n).svw = s.svw ∧ (s.commit n).rcu = s.rcu ∧
    (s.commit n).hlk = s.hlk ∧ (s.commit n).pending = s.pending ∧ (s.commit n).rst.epoch = s.rst.epoch ∧
    (s.commit n).rst.known = s.rst.known ∧ (s.commit n).rst.rollPeriod = s.rst.rollPeriod := by
  unfold State.commit; split <;> [simp; (simp only; split <;> simp)]

@[simp] theorem State.completeDeparture_frame (s : State) (e : Station) :
    (s.completeDeparture e).csq = s.csq ∧ (s.completeDeparture e).cfg = s.cfg ∧
    (s.completeDeparture e).streams = s.streams ∧ (s.completeDeparture e).stg = s.stg ∧
    (s.completeDeparture e).svw = s.svw ∧ (s.completeDeparture e).rcu = s.rcu ∧
    (s.completeDeparture e).hlk = s.hlk ∧ (s.completeDeparture e).pending = s.pending ∧
    (s.completeDeparture e).rst.epoch = s.rst.epoch ∧ (s.completeDeparture e).rst.rollPeriod = s.rst.rollPeriod := by
  unfold State.completeDeparture; split <;> simp

@[simp] theorem State.completeDepartures_frame (s : State) :
    (s.completeDepartures).csq = s.csq ∧ (s.completeDepartures).cfg = s.cfg ∧
    (s.completeDepartures).streams = s.streams ∧ (s.completeDepartures).stg = s.stg ∧
    (s.completeDepartures).svw = s.svw ∧ (s.completeDepartures).rcu = s.rcu ∧
    (s.completeDepartures).hlk = s.hlk ∧ (s.completeDepartures).pending = s.pending ∧
    (s.completeDepartures).rst.epoch = s.rst.epoch ∧ (s.completeDepartures).rst.rollPeriod = s.rst.rollPeriod := by
  unfold State.completeDepartures
  generalize s.rst.stations = l
  induction l generalizing s with
  | nil => simp
  | cons a l ih => simp [ih]

@[simp] theorem State.beginDeparture_frame (s : State) (e : Station) (cause : DepartCause) :
    (s.beginDeparture e cause).csq = s.csq ∧ (s.beginDeparture e cause).cfg = s.cfg ∧
    (s.beginDeparture e cause).svw = s.svw ∧ (s.beginDeparture e cause).rcu = s.rcu ∧
    (s.beginDeparture e cause).tpt = s.tpt ∧ (s.beginDeparture e cause).hlk = s.hlk ∧
    (s.beginDeparture e cause).pending = s.pending ∧ (s.beginDeparture e cause).rst.epoch = s.rst.epoch ∧
    (s.beginDeparture e cause).rst.known = s.rst.known ∧
    (s.beginDeparture e cause).rst.rollPeriod = s.rst.rollPeriod := by
  simp [State.beginDeparture, Roster.update]

@[simp] theorem State.evictPresent_frame (s : State) (e : Station) :
    (s.evictPresent e).csq = s.csq ∧ (s.evictPresent e).cfg = s.cfg ∧ (s.evictPresent e).svw = s.svw ∧
    (s.evictPresent e).rcu = s.rcu ∧ (s.evictPresent e).hlk = s.hlk ∧ (s.evictPresent e).pending = s.pending ∧
    (s.evictPresent e).rst.epoch = s.rst.epoch ∧ (s.evictPresent e).rst.known = s.rst.known ∧
    (s.evictPresent e).rst.rollPeriod = s.rst.rollPeriod := by
  simp [State.evictPresent]

@[simp] theorem State.evict_frame (s : State) (t : Tag) :
    ((s.evict t).1).csq = s.csq ∧ ((s.evict t).1).cfg = s.cfg ∧ ((s.evict t).1).svw = s.svw ∧
    ((s.evict t).1).hlk = s.hlk ∧ ((s.evict t).1).pending = s.pending ∧
    ((s.evict t).1).rst.epoch = s.rst.epoch ∧ ((s.evict t).1).rst.known = s.rst.known ∧
    ((s.evict t).1).rst.rollPeriod = s.rst.rollPeriod := by
  unfold State.evict; split <;> [(simp only; split <;> simp); (split <;> simp)]

@[simp] theorem State.removeRetiring_frame (r : StreamRecord) (s : State) :
    (State.removeRetiring r s).csq = s.csq ∧ (State.removeRetiring r s).cfg = s.cfg ∧
    (State.removeRetiring r s).svw = s.svw ∧ (State.removeRetiring r s).rcu = s.rcu ∧
    (State.removeRetiring r s).hlk = s.hlk ∧ (State.removeRetiring r s).pending = s.pending ∧
    (State.removeRetiring r s).rst.epoch = s.rst.epoch ∧ (State.removeRetiring r s).rst.known = s.rst.known ∧
    (State.removeRetiring r s).rst.rollPeriod = s.rst.rollPeriod := by
  unfold State.removeRetiring; split <;> simp

@[simp] theorem State.tellDiscards_frame (s : State) (l : List (Edit × Option Tag)) :
    (s.tellDiscards l).csq = s.csq ∧ (s.tellDiscards l).cfg = s.cfg ∧ (s.tellDiscards l).lgr = s.lgr ∧
    (s.tellDiscards l).streams = s.streams ∧ (s.tellDiscards l).stg = s.stg ∧ (s.tellDiscards l).svw = s.svw ∧
    (s.tellDiscards l).rcu = s.rcu ∧ (s.tellDiscards l).hlk = s.hlk ∧ (s.tellDiscards l).rpu = s.rpu ∧
    (s.tellDiscards l).pending = s.pending ∧ (s.tellDiscards l).rst.epoch = s.rst.epoch ∧
    (s.tellDiscards l).rst.known = s.rst.known ∧ (s.tellDiscards l).rst.rollPeriod = s.rst.rollPeriod := by
  induction l generalizing s with
  | nil => simp [State.tellDiscards]
  | cons a l ih => simp only [State.tellDiscards, List.foldl_cons] at *; simp [ih]

@[simp] theorem State.suspendDeparted_frame (d : List Tag) (r : StreamRecord) (s : State) :
    (State.suspendDeparted d r s).csq = s.csq ∧ (State.suspendDeparted d r s).cfg = s.cfg ∧
    (State.suspendDeparted d r s).lgr = s.lgr ∧ (State.suspendDeparted d r s).stg = s.stg ∧
    (State.suspendDeparted d r s).svw = s.svw ∧ (State.suspendDeparted d r s).rcu = s.rcu ∧
    (State.suspendDeparted d r s).hlk = s.hlk ∧ (State.suspendDeparted d r s).pending = s.pending ∧
    (State.suspendDeparted d r s).rst.epoch = s.rst.epoch ∧
    (State.suspendDeparted d r s).rst.known = s.rst.known ∧
    (State.suspendDeparted d r s).rst.rollPeriod = s.rst.rollPeriod := by
  unfold State.suspendDeparted; split <;> [(split <;> simp); simp]

@[simp] theorem State.applyMark_frame (r : StreamRecord) (s : State) :
    (State.applyMark r s).csq = s.csq ∧ (State.applyMark r s).cfg = s.cfg ∧ (State.applyMark r s).lgr = s.lgr ∧
    (State.applyMark r s).stg = s.stg ∧ (State.applyMark r s).svw = s.svw ∧ (State.applyMark r s).rcu = s.rcu ∧
    (State.applyMark r s).hlk = s.hlk ∧ (State.applyMark r s).pending = s.pending ∧
    (State.applyMark r s).rst.epoch = s.rst.epoch ∧ (State.applyMark r s).rst.known = s.rst.known ∧
    (State.applyMark r s).rst.rollPeriod = s.rst.rollPeriod := by
  unfold State.applyMark; split <;> [(split <;> simp); simp]

@[simp] theorem State.restore_frame (n : Cycle) (r : StreamRecord) (s : State) :
    (State.restore n r s).csq = s.csq ∧ (State.restore n r s).cfg = s.cfg ∧ (State.restore n r s).lgr = s.lgr ∧
    (State.restore n r s).stg = s.stg ∧ (State.restore n r s).svw = s.svw ∧ (State.restore n r s).rcu = s.rcu ∧
    (State.restore n r s).hlk = s.hlk ∧ (State.restore n r s).pending = s.pending ∧
    (State.restore n r s).rst.epoch = s.rst.epoch ∧ (State.restore n r s).rst.known = s.rst.known ∧
    (State.restore n r s).rst.rollPeriod = s.rst.rollPeriod := by
  unfold State.restore; split <;> [(simp only; split <;> simp); simp]

@[simp] theorem State.activate_frame (n : Cycle) (r : StreamRecord) (s : State) :
    (State.activate n r s).csq = s.csq ∧ (State.activate n r s).cfg = s.cfg ∧
    (State.activate n r s).lgr = s.lgr ∧ (State.activate n r s).stg = s.stg ∧
    (State.activate n r s).svw = s.svw ∧ (State.activate n r s).rcu = s.rcu ∧
    (State.activate n r s).hlk = s.hlk ∧ (State.activate n r s).pending = s.pending ∧
    (State.activate n r s).rst.epoch = s.rst.epoch ∧ (State.activate n r s).rst.known = s.rst.known ∧
    (State.activate n r s).rst.rollPeriod = s.rst.rollPeriod := by
  unfold State.activate; split <;> simp

@[simp] theorem State.returnTalker_frame (n : Cycle) (r : StreamRecord) (s : State) :
    (State.returnTalker n r s).csq = s.csq ∧ (State.returnTalker n r s).cfg = s.cfg ∧
    (State.returnTalker n r s).lgr = s.lgr ∧ (State.returnTalker n r s).stg = s.stg ∧
    (State.returnTalker n r s).svw = s.svw ∧ (State.returnTalker n r s).rcu = s.rcu ∧
    (State.returnTalker n r s).hlk = s.hlk ∧ (State.returnTalker n r s).pending = s.pending ∧
    (State.returnTalker n r s).rst.epoch = s.rst.epoch ∧ (State.returnTalker n r s).rst.known = s.rst.known ∧
    (State.returnTalker n r s).rst.rollPeriod = s.rst.rollPeriod := by
  unfold State.returnTalker; split <;> simp

@[simp] theorem State.each_removeRetiring_frame (s : State) :
    (s.eachStream State.removeRetiring).csq = s.csq ∧ (s.eachStream State.removeRetiring).cfg = s.cfg ∧
    (s.eachStream State.removeRetiring).svw = s.svw ∧ (s.eachStream State.removeRetiring).rcu = s.rcu ∧
    (s.eachStream State.removeRetiring).hlk = s.hlk ∧ (s.eachStream State.removeRetiring).pending = s.pending ∧
    (s.eachStream State.removeRetiring).rst.epoch = s.rst.epoch ∧
    (s.eachStream State.removeRetiring).rst.known = s.rst.known ∧
    (s.eachStream State.removeRetiring).rst.rollPeriod = s.rst.rollPeriod := 
  ⟨State.eachStream_keeps (fun x => x.csq) s _ (by simp),
   State.eachStream_keeps (fun x => x.cfg) s _ (by simp),
   State.eachStream_keeps (fun x => x.svw) s _ (by simp),
   State.eachStream_keeps (fun x => x.rcu) s _ (by simp),
   State.eachStream_keeps (fun x => x.hlk) s _ (by simp),
   State.eachStream_keeps (fun x => x.pending) s _ (by simp),
   State.eachStream_keeps (fun x => x.rst.epoch) s _ (by simp),
   State.eachStream_keeps (fun x => x.rst.known) s _ (by simp),
   State.eachStream_keeps (fun x => x.rst.rollPeriod) s _ (by simp)⟩

@[simp] theorem State.each_suspendDeparted_frame (s : State) (d : List Tag) :
    (s.eachStream (State.suspendDeparted d)).csq = s.csq ∧
    (s.eachStream (State.suspendDeparted d)).cfg = s.cfg ∧
    (s.eachStream (State.suspendDeparted d)).lgr = s.lgr ∧
    (s.eachStream (State.suspendDeparted d)).stg = s.stg ∧
    (s.eachStream (State.suspendDeparted d)).svw = s.svw ∧
    (s.eachStream (State.suspendDeparted d)).rcu = s.rcu ∧
    (s.eachStream (State.suspendDeparted d)).hlk = s.hlk ∧
    (s.eachStream (State.suspendDeparted d)).pending = s.pending ∧
    (s.eachStream (State.suspendDeparted d)).rst.epoch = s.rst.epoch ∧
    (s.eachStream (State.suspendDeparted d)).rst.known = s.rst.known ∧
    (s.eachStream (State.suspendDeparted d)).rst.rollPeriod = s.rst.rollPeriod := 
  ⟨State.eachStream_keeps (fun x => x.csq) s _ (by simp),
   State.eachStream_keeps (fun x => x.cfg) s _ (by simp),
   State.eachStream_keeps (fun x => x.lgr) s _ (by simp),
   State.eachStream_keeps (fun x => x.stg) s _ (by simp),
   State.eachStream_keeps (fun x => x.svw) s _ (by simp),
   State.eachStream_keeps (fun x => x.rcu) s _ (by simp),
   State.eachStream_keeps (fun x => x.hlk) s _ (by simp),
   State.eachStream_keeps (fun x => x.pending) s _ (by simp),
   State.eachStream_keeps (fun x => x.rst.epoch) s _ (by simp),
   State.eachStream_keeps (fun x => x.rst.known) s _ (by simp),
   State.eachStream_keeps (fun x => x.rst.rollPeriod) s _ (by simp)⟩

@[simp] theorem State.each_applyMark_frame (s : State) :
    (s.eachStream State.applyMark).csq = s.csq ∧ (s.eachStream State.applyMark).cfg = s.cfg ∧
    (s.eachStream State.applyMark).lgr = s.lgr ∧ (s.eachStream State.applyMark).stg = s.stg ∧
    (s.eachStream State.applyMark).svw = s.svw ∧ (s.eachStream State.applyMark).rcu = s.rcu ∧
    (s.eachStream State.applyMark).hlk = s.hlk ∧ (s.eachStream State.applyMark).pending = s.pending ∧
    (s.eachStream State.applyMark).rst.epoch = s.rst.epoch ∧
    (s.eachStream State.applyMark).rst.known = s.rst.known ∧
    (s.eachStream State.applyMark).rst.rollPeriod = s.rst.rollPeriod := 
  ⟨State.eachStream_keeps (fun x => x.csq) s _ (by simp),
   State.eachStream_keeps (fun x => x.cfg) s _ (by simp),
   State.eachStream_keeps (fun x => x.lgr) s _ (by simp),
   State.eachStream_keeps (fun x => x.stg) s _ (by simp),
   State.eachStream_keeps (fun x => x.svw) s _ (by simp),
   State.eachStream_keeps (fun x => x.rcu) s _ (by simp),
   State.eachStream_keeps (fun x => x.hlk) s _ (by simp),
   State.eachStream_keeps (fun x => x.pending) s _ (by simp),
   State.eachStream_keeps (fun x => x.rst.epoch) s _ (by simp),
   State.eachStream_keeps (fun x => x.rst.known) s _ (by simp),
   State.eachStream_keeps (fun x => x.rst.rollPeriod) s _ (by simp)⟩

@[simp] theorem State.each_restore_frame (s : State) (n : Cycle) :
    (s.eachStream (State.restore n)).csq = s.csq ∧ (s.eachStream (State.restore n)).cfg = s.cfg ∧
    (s.eachStream (State.restore n)).lgr = s.lgr ∧ (s.eachStream (State.restore n)).stg = s.stg ∧
    (s.eachStream (State.restore n)).svw = s.svw ∧ (s.eachStream (State.restore n)).rcu = s.rcu ∧
    (s.eachStream (State.restore n)).hlk = s.hlk ∧ (s.eachStream (State.restore n)).pending = s.pending ∧
    (s.eachStream (State.restore n)).rst.epoch = s.rst.epoch ∧
    (s.eachStream (State.restore n)).rst.known = s.rst.known ∧
    (s.eachStream (State.restore n)).rst.rollPeriod = s.rst.rollPeriod := 
  ⟨State.eachStream_keeps (fun x => x.csq) s _ (by simp),
   State.eachStream_keeps (fun x => x.cfg) s _ (by simp),
   State.eachStream_keeps (fun x => x.lgr) s _ (by simp),
   State.eachStream_keeps (fun x => x.stg) s _ (by simp),
   State.eachStream_keeps (fun x => x.svw) s _ (by simp),
   State.eachStream_keeps (fun x => x.rcu) s _ (by simp),
   State.eachStream_keeps (fun x => x.hlk) s _ (by simp),
   State.eachStream_keeps (fun x => x.pending) s _ (by simp),
   State.eachStream_keeps (fun x => x.rst.epoch) s _ (by simp),
   State.eachStream_keeps (fun x => x.rst.known) s _ (by simp),
   State.eachStream_keeps (fun x => x.rst.rollPeriod) s _ (by simp)⟩

@[simp] theorem State.each_activate_frame (s : State) (n : Cycle) :
    (s.eachStream (State.activate n)).csq = s.csq ∧ (s.eachStream (State.activate n)).cfg = s.cfg ∧
    (s.eachStream (State.activate n)).lgr = s.lgr ∧ (s.eachStream (State.activate n)).stg = s.stg ∧
    (s.eachStream (State.activate n)).svw = s.svw ∧ (s.eachStream (State.activate n)).rcu = s.rcu ∧
    (s.eachStream (State.activate n)).hlk = s.hlk ∧ (s.eachStream (State.activate n)).pending = s.pending ∧
    (s.eachStream (State.activate n)).rst.epoch = s.rst.epoch ∧
    (s.eachStream (State.activate n)).rst.known = s.rst.known ∧
    (s.eachStream (State.activate n)).rst.rollPeriod = s.rst.rollPeriod := 
  ⟨State.eachStream_keeps (fun x => x.csq) s _ (by simp),
   State.eachStream_keeps (fun x => x.cfg) s _ (by simp),
   State.eachStream_keeps (fun x => x.lgr) s _ (by simp),
   State.eachStream_keeps (fun x => x.stg) s _ (by simp),
   State.eachStream_keeps (fun x => x.svw) s _ (by simp),
   State.eachStream_keeps (fun x => x.rcu) s _ (by simp),
   State.eachStream_keeps (fun x => x.hlk) s _ (by simp),
   State.eachStream_keeps (fun x => x.pending) s _ (by simp),
   State.eachStream_keeps (fun x => x.rst.epoch) s _ (by simp),
   State.eachStream_keeps (fun x => x.rst.known) s _ (by simp),
   State.eachStream_keeps (fun x => x.rst.rollPeriod) s _ (by simp)⟩

@[simp] theorem State.each_returnTalker_frame (s : State) (n : Cycle) :
    (s.eachStream (State.returnTalker n)).csq = s.csq ∧ (s.eachStream (State.returnTalker n)).cfg = s.cfg ∧
    (s.eachStream (State.returnTalker n)).lgr = s.lgr ∧ (s.eachStream (State.returnTalker n)).stg = s.stg ∧
    (s.eachStream (State.returnTalker n)).svw = s.svw ∧ (s.eachStream (State.returnTalker n)).rcu = s.rcu ∧
    (s.eachStream (State.returnTalker n)).hlk = s.hlk ∧
    (s.eachStream (State.returnTalker n)).pending = s.pending ∧
    (s.eachStream (State.returnTalker n)).rst.epoch = s.rst.epoch ∧
    (s.eachStream (State.returnTalker n)).rst.known = s.rst.known ∧
    (s.eachStream (State.returnTalker n)).rst.rollPeriod = s.rst.rollPeriod := 
  ⟨State.eachStream_keeps (fun x => x.csq) s _ (by simp),
   State.eachStream_keeps (fun x => x.cfg) s _ (by simp),
   State.eachStream_keeps (fun x => x.lgr) s _ (by simp),
   State.eachStream_keeps (fun x => x.stg) s _ (by simp),
   State.eachStream_keeps (fun x => x.svw) s _ (by simp),
   State.eachStream_keeps (fun x => x.rcu) s _ (by simp),
   State.eachStream_keeps (fun x => x.hlk) s _ (by simp),
   State.eachStream_keeps (fun x => x.pending) s _ (by simp),
   State.eachStream_keeps (fun x => x.rst.epoch) s _ (by simp),
   State.eachStream_keeps (fun x => x.rst.known) s _ (by simp),
   State.eachStream_keeps (fun x => x.rst.rollPeriod) s _ (by simp)⟩

@[simp] theorem State.removals_frame (s : State) :
    (s.removals).csq = s.csq ∧ (s.removals).cfg = s.cfg ∧ (s.removals).svw = s.svw ∧ (s.removals).rcu = s.rcu ∧
    (s.removals).hlk = s.hlk ∧ (s.removals).pending = s.pending ∧ (s.removals).rst.epoch = s.rst.epoch ∧
    (s.removals).rst.rollPeriod = s.rst.rollPeriod := by
  simp [State.removals]

@[simp] theorem State.boundaryWork_frame (s : State) (n : Cycle) (marks : Bool) :
    (s.boundaryWork n marks).csq = s.csq ∧ (s.boundaryWork n marks).cfg = s.cfg ∧
    (s.boundaryWork n marks).svw = s.svw ∧ (s.boundaryWork n marks).rcu = s.rcu ∧
    (s.boundaryWork n marks).hlk = s.hlk ∧ (s.boundaryWork n marks).pending = s.pending ∧
    (s.boundaryWork n marks).rst.epoch = s.rst.epoch ∧
    (s.boundaryWork n marks).rst.rollPeriod = s.rst.rollPeriod := by
  unfold State.boundaryWork; simp only; cases marks <;> simp

@[simp] theorem State.boundary_frame (s : State) (timing : Timing) (stretch : Nat) :
    (s.boundary timing stretch).cfg = s.cfg ∧ (s.boundary timing stretch).hlk = s.hlk ∧
    (s.boundary timing stretch).pending = s.pending ∧ (s.boundary timing stretch).rst.epoch = s.rst.epoch ∧
    (s.boundary timing stretch).rst.rollPeriod = s.rst.rollPeriod ∧
    (s.boundary timing stretch).csq.partState = s.csq.partState ∧
    (s.boundary timing stretch).csq.lateRun = s.csq.lateRun ∧
    (s.boundary timing stretch).csq.startWaiters = s.csq.startWaiters ∧
    (s.boundary timing stretch).csq.haltWaiters = s.csq.haltWaiters ∧
    (s.boundary timing stretch).csq.lastCycle = some s.csq.nextCycle ∧
    (s.boundary timing stretch).csq.phase = .slots := by
  simp [State.boundary, State.formPlan]

@[simp] theorem State.resetStreams_frame (s : State) :
    (s.resetStreams).csq = s.csq ∧ (s.resetStreams).cfg = s.cfg ∧ (s.resetStreams).svw = s.svw ∧
    (s.resetStreams).rcu = s.rcu ∧ (s.resetStreams).hlk = s.hlk ∧ (s.resetStreams).pending = s.pending ∧
    (s.resetStreams).rst.epoch = s.rst.epoch ∧ (s.resetStreams).rst.rollPeriod = s.rst.rollPeriod := by
  simp [State.resetStreams]

@[simp] theorem State.convertClaimsFold_frame (s : State) (l : List Tag) (touched : List Tag) :
    ((l.foldl State.convertClaim (s, touched)).1).csq = s.csq ∧
    ((l.foldl State.convertClaim (s, touched)).1).cfg = s.cfg ∧
    ((l.foldl State.convertClaim (s, touched)).1).svw = s.svw ∧
    ((l.foldl State.convertClaim (s, touched)).1).rst = s.rst ∧
    ((l.foldl State.convertClaim (s, touched)).1).rcu = s.rcu ∧
    ((l.foldl State.convertClaim (s, touched)).1).tpt = s.tpt ∧
    ((l.foldl State.convertClaim (s, touched)).1).hlk = s.hlk ∧
    ((l.foldl State.convertClaim (s, touched)).1).pending = s.pending := by
  induction l generalizing s touched with
  | nil => simp
  | cons a l ih =>
    have h := State.convertClaim_frame s touched a
    rw [List.foldl_cons, ← Prod.mk.eta (p := State.convertClaim (s, touched) a)]
    simp only [ih, h, and_self]

@[simp] theorem State.convertClaims_frame (s : State) (l : List Tag) :
    (s.convertClaims l).csq = s.csq ∧ (s.convertClaims l).cfg = s.cfg ∧ (s.convertClaims l).svw = s.svw ∧
    (s.convertClaims l).rst = s.rst ∧ (s.convertClaims l).rcu = s.rcu ∧ (s.convertClaims l).tpt = s.tpt ∧
    (s.convertClaims l).hlk = s.hlk ∧ (s.convertClaims l).pending = s.pending := by
  simp [State.convertClaims]

@[simp] theorem State.trunkReset_frame (s : State) (cause : ResetCause) :
    (s.trunkReset cause).cfg = s.cfg ∧ (s.trunkReset cause).hlk = s.hlk ∧
    (s.trunkReset cause).pending = s.pending ∧ (s.trunkReset cause).csq.partState = .starting ∧
    (s.trunkReset cause).csq.lateRun = 0 ∧ (s.trunkReset cause).csq.phase = .none ∧
    (s.trunkReset cause).csq.plan = [] ∧ (s.trunkReset cause).csq.lastCycle = s.csq.lastCycle ∧
    (s.trunkReset cause).csq.generation = s.csq.generation ∧ (s.trunkReset cause).csq.basis = s.csq.basis ∧
    (s.trunkReset cause).csq.startWaiters = s.csq.startWaiters ∧
    (s.trunkReset cause).csq.haltWaiters = s.csq.haltWaiters ∧ (s.trunkReset cause).svw = [] ∧
    (s.trunkReset cause).rst.epoch = s.rst.epoch + 1 ∧ (s.trunkReset cause).rst.stations = [] ∧
    (s.trunkReset cause).rst.rollPeriod = 0 := by
  simp [State.trunkReset, State.clearRoster, Sequencer.enterStarting]

@[simp] theorem State.abandonRollCall_frame (s : State) :
    (s.abandonRollCall).cfg = s.cfg ∧ (s.abandonRollCall).streams = s.streams ∧
    (s.abandonRollCall).stg = s.stg ∧ (s.abandonRollCall).svw = s.svw ∧ (s.abandonRollCall).rcu = s.rcu ∧
    (s.abandonRollCall).pending = s.pending ∧
    (s.abandonRollCall).csq = { s.csq with partState := .halted, phase := .none, startWaiters := [] } ∧
    (s.abandonRollCall).rst.epoch = s.rst.epoch ∧ (s.abandonRollCall).rst.stations = [] ∧
    (s.abandonRollCall).rst.rollPeriod = 0 := by
  simp [State.abandonRollCall, State.clearRoster]

@[simp] theorem State.takeCause_frame (s : State) (cause : ResetCause) :
    (s.takeCause cause).cfg = s.cfg ∧ (s.takeCause cause).pending = s.pending ∧
    (s.takeCause cause).rst.epoch = s.rst.epoch + 1 ∧ (s.takeCause cause).rst.stations = [] ∧
    (s.takeCause cause).rst.rollPeriod = 0 := by
  unfold State.takeCause; simp only; split <;> simp

@[simp] theorem State.numberStation_frame (s : State) (t : Tag) :
    ((s.numberStation t).1).csq = s.csq ∧ ((s.numberStation t).1).cfg = s.cfg ∧
    ((s.numberStation t).1).lgr = s.lgr ∧ ((s.numberStation t).1).streams = s.streams ∧
    ((s.numberStation t).1).stg = s.stg ∧ ((s.numberStation t).1).svw = s.svw ∧
    ((s.numberStation t).1).rcu = s.rcu ∧ ((s.numberStation t).1).tpt = s.tpt ∧
    ((s.numberStation t).1).hlk = s.hlk ∧ ((s.numberStation t).1).rpu = s.rpu ∧
    ((s.numberStation t).1).pending = s.pending ∧ ((s.numberStation t).1).rst.epoch = s.rst.epoch ∧
    ((s.numberStation t).1).rst.rollPeriod = s.rst.rollPeriod := by
  unfold State.numberStation; simp only; split <;> simp

@[simp] theorem State.answerRollCall_frame (s : State) (t : Tag) :
    (s.answerRollCall t).csq = s.csq ∧ (s.answerRollCall t).cfg = s.cfg ∧ (s.answerRollCall t).lgr = s.lgr ∧
    (s.answerRollCall t).streams = s.streams ∧ (s.answerRollCall t).stg = s.stg ∧
    (s.answerRollCall t).svw = s.svw ∧ (s.answerRollCall t).rcu = s.rcu ∧ (s.answerRollCall t).hlk = s.hlk ∧
    (s.answerRollCall t).rpu = s.rpu ∧ (s.answerRollCall t).pending = s.pending ∧
    (s.answerRollCall t).rst.epoch = s.rst.epoch ∧ (s.answerRollCall t).rst.rollPeriod = s.rst.rollPeriod := by
  unfold State.answerRollCall; split <;> simp

@[simp] theorem State.joinStation_frame (s : State) (t : Tag) :
    (s.joinStation t).csq = s.csq ∧ (s.joinStation t).cfg = s.cfg ∧ (s.joinStation t).lgr = s.lgr ∧
    (s.joinStation t).streams = s.streams ∧ (s.joinStation t).stg = s.stg ∧ (s.joinStation t).svw = s.svw ∧
    (s.joinStation t).rcu = s.rcu ∧ (s.joinStation t).hlk = s.hlk ∧ (s.joinStation t).pending = s.pending ∧
    (s.joinStation t).rst.epoch = s.rst.epoch ∧ (s.joinStation t).rst.rollPeriod = s.rst.rollPeriod := by
  unfold State.joinStation; split
  · split <;> simp
  · simp only; split <;> simp



end Sys2Proof.Machine
end

