-- ==== Sys2Proof/Laws/Lists.lean ====
section
/-! SUPPORT. The list operations of Ops: what the first match is where keys are unique, and what each operation keeps. -/

namespace Sys2Proof.Machine

variable {α β : Type} [DecidableEq β]

/-! ### updateFirst -/

@[simp] theorem updateFirst_nil (p : α → Bool) (f : α → α) : updateFirst p f [] = [] := rfl

theorem updateFirst_cons (p : α → Bool) (f : α → α) (a : α) (l : List α) :
    updateFirst p f (a :: l) = if p a then f a :: l else a :: updateFirst p f l := rfl

@[simp] theorem updateFirst_length (p : α → Bool) (f : α → α) (l : List α) : (updateFirst p f l).length = l.length := by
  induction l with
  | nil => rfl
  | cons a l ih => simp only [updateFirst_cons]; split <;> simp [ih]

/-- A projection that the change keeps is kept by the list. -/
theorem updateFirst_map {γ : Type} (g : α → γ) (p : α → Bool) (f : α → α) (h : ∀ a, p a = true → g (f a) = g a)
    (l : List α) : (updateFirst p f l).map g = l.map g := by
  induction l with
  | nil => rfl
  | cons a l ih =>
    simp only [updateFirst_cons]; split
    · next hp => simp [h a hp]
    · simp [ih]

theorem updateFirst_of_none (p : α → Bool) (f : α → α) (l : List α) (h : ∀ a ∈ l, p a = false) :
    updateFirst p f l = l := by
  induction l with
  | nil => rfl
  | cons a l ih => simp [updateFirst_cons, h a (by simp), ih (fun b hb => h b (by simp [hb]))]

/-- The change lands on the first match. -/
theorem updateFirst_split (p : α → Bool) (f : α → α) (before : List α) (a : α) (after : List α)
    (h : ∀ b ∈ before, p b = false) (ha : p a = true) :
    updateFirst p f (before ++ a :: after) = before ++ f a :: after := by
  induction before with
  | nil => simp [updateFirst_cons, ha]
  | cons b l ih => simp [updateFirst_cons, h b (by simp), ih (fun c hc => h c (by simp [hc]))]

/-- With unique keys, changing the first match is changing every match. -/
theorem updateFirst_eq_map (key : α → β) (q : α → Bool) (f : α → α) (k : β) (l : List α) (h : (l.map key).Nodup) :
    updateFirst (fun a => key a == k && q a) f l = l.map (fun a => if key a = k ∧ q a = true then f a else a) := by
  induction l with
  | nil => rfl
  | cons a l ih =>
    simp only [List.map_cons, List.nodup_cons] at h
    by_cases hk : key a = k
    · have hn : ∀ b ∈ l, key b ≠ k := fun b hb hb' => h.1 (hk ▸ hb' ▸ List.mem_map_of_mem hb)
      have hl : l.map (fun a => if key a = k ∧ q a = true then f a else a) = l := by
        conv_rhs => rw [← List.map_id l]
        exact List.map_congr_left (fun b hb => by simp [hn b hb])
      by_cases hq : q a
      · rw [updateFirst_cons, List.map_cons, hl]; simp [hk, hq]
      · rw [updateFirst_cons, updateFirst_of_none _ f l (fun b hb => by simp [hn b hb]), List.map_cons, hl]
        simp [hk, hq]
    · simp [updateFirst_cons, hk, ih h.2]

/-- With unique keys, changing the first element of a key is changing every one. -/
theorem updateFirst_key (key : α → β) (f : α → α) (k : β) (l : List α) (h : (l.map key).Nodup) :
    updateFirst (fun a => key a == k) f l = l.map (fun a => if key a = k then f a else a) := by
  simpa using updateFirst_eq_map key (fun _ => true) f k l h

theorem mem_updateFirst (p : α → Bool) (f : α → α) (l : List α) {b : α} (h : b ∈ updateFirst p f l) :
    b ∈ l ∨ ∃ a ∈ l, p a = true ∧ b = f a := by
  induction l with
  | nil => simp at h
  | cons a l ih =>
    simp only [updateFirst_cons] at h
    split at h
    · next hp =>
      rcases List.mem_cons.1 h with h | h
      · exact .inr ⟨a, by simp, hp, h⟩
      · exact .inl (by simp [h])
    · rcases List.mem_cons.1 h with h | h
      · exact .inl (by simp [h])
      · rcases ih h with h | ⟨a, ha, hp, hb⟩
        · exact .inl (by simp [h])
        · exact .inr ⟨a, by simp [ha], hp, hb⟩

/-! ### insertBy and sortBy -/

theorem insertBy_perm (before : α → α → Bool) (x : α) (l : List α) : (insertBy before x l).Perm (x :: l) := by
  induction l with
  | nil => rfl
  | cons a l ih =>
    unfold insertBy; split
    · exact (ih.cons a).trans (List.Perm.swap x a l)
    · rfl

@[simp] theorem mem_insertBy (before : α → α → Bool) (x y : α) (l : List α) :
    y ∈ insertBy before x l ↔ y = x ∨ y ∈ l := by
  rw [(insertBy_perm before x l).mem_iff, List.mem_cons]

theorem sortBy_perm (before : α → α → Bool) (l : List α) : (sortBy before l).Perm l := by
  have h : ∀ (l acc : List α), (l.foldl (fun acc x => insertBy before x acc) acc).Perm (l ++ acc) := by
    intro l
    induction l with
    | nil => intro acc; rfl
    | cons a l ih =>
      intro acc
      exact (ih _).trans (((insertBy_perm before a acc).append_left l).trans List.perm_middle)
  simpa [sortBy] using h l []

/-- Insertion keeps a list sorted when the order is a strict weak one. -/
theorem insertBy_pairwise (before : α → α → Bool) (r : α → α → Prop) (x : α) (l : List α)
    (hlt : ∀ a, before a x = true → r a x) (hge : ∀ a, before a x = false → r x a) (ht : ∀ a b, r x a → r a b → r x b)
    (h : l.Pairwise r) : (insertBy before x l).Pairwise r := by
  induction l with
  | nil => simp [insertBy]
  | cons a l ih =>
    unfold insertBy
    rw [List.pairwise_cons] at h
    split
    · next hb =>
      refine List.pairwise_cons.2 ⟨fun b hb' => ?_, ih h.2⟩
      rcases (mem_insertBy before x b l).1 hb' with rfl | hb'
      · exact hlt a hb
      · exact h.1 b hb'
    · next hb =>
      have hxa := hge a (by simpa using hb)
      refine List.pairwise_cons.2 ⟨fun b hb' => ?_, List.pairwise_cons.2 h⟩
      rcases List.mem_cons.1 hb' with rfl | hb'
      · exact hxa
      · exact ht a b hxa (h.1 b hb')

/-! ### Unique keys -/

/-- With unique keys, erasing the first element of a key is erasing every one. -/
theorem eraseP_eq_filter (key : α → β) (k : β) (l : List α) (h : (l.map key).Nodup) :
    l.eraseP (fun a => key a == k) = l.filter (fun a => key a != k) := by
  induction l with
  | nil => rfl
  | cons a l ih =>
    simp only [List.map_cons, List.nodup_cons] at h
    by_cases hk : key a = k
    · have hn : ∀ b ∈ l, key b ≠ k := fun b hb hb' => h.1 (hk ▸ hb' ▸ List.mem_map_of_mem hb)
      rw [List.eraseP_cons_of_pos (by simp [hk]), List.filter_cons_of_neg (by simp [hk])]
      exact (List.filter_eq_self.2 (fun b hb => by simp [hn b hb])).symm
    · rw [List.eraseP_cons_of_neg (by simp [hk]), List.filter_cons_of_pos (by simp [hk]), ih h.2]

/-- With unique keys, the first element found by a key is the one that has it. -/
theorem find?_of_mem (key : α → β) (a : α) (l : List α) (h : (l.map key).Nodup) (ha : a ∈ l) :
    l.find? (fun b => key b == key a) = some a := by
  induction l with
  | nil => simp at ha
  | cons b l ih =>
    simp only [List.map_cons, List.nodup_cons] at h
    rcases List.mem_cons.1 ha with rfl | ha
    · simp
    · have hne : key b ≠ key a := fun he => h.1 (he ▸ List.mem_map_of_mem ha)
      rw [List.find?_cons_of_neg (by simp [hne]), ih h.2 ha]

theorem eraseP_map_sublist {γ : Type} (g : α → γ) (p : α → Bool) (l : List α) :
    ((l.eraseP p).map g).Sublist (l.map g) := (List.eraseP_sublist).map g

end Sys2Proof.Machine
end

