-- ==== Sys2Proof/Laws/Transmit.lean ====
section
/-! SUPPORT. What the transmitter can do (R185): it changes HTX, the transmit order and the state of one report
record, and nothing else. -/

namespace Sys2Proof.Machine

/-- Every block but the Host Link and the Report Unit stays, and of those two all but HTX, the order and the queue. -/
@[simp] theorem State.transmit_frame (s : State) :
    s.transmit.csq = s.csq ∧ s.transmit.cfg = s.cfg ∧ s.transmit.lgr = s.lgr ∧ s.transmit.streams = s.streams ∧
    s.transmit.stg = s.stg ∧ s.transmit.svw = s.svw ∧ s.transmit.rst = s.rst ∧ s.transmit.rcu = s.rcu ∧
    s.transmit.tpt = s.tpt ∧ s.transmit.pending = s.pending ∧ s.transmit.hlk.rate = s.hlk.rate ∧
    s.transmit.hlk.framer = s.hlk.framer ∧ s.transmit.hlk.table = s.hlk.table ∧
    s.transmit.hlk.cache = s.hlk.cache ∧ s.transmit.hlk.answers = s.hlk.answers ∧
    s.transmit.hlk.overrun = s.hlk.overrun ∧ s.transmit.hlk.resetting = s.hlk.resetting ∧
    s.transmit.rpu.next = s.rpu.next ∧ s.transmit.rpu.marker = s.rpu.marker ∧ s.transmit.rpu.lost = s.rpu.lost ∧
    s.transmit.rpu.mask = s.rpu.mask := by
  unfold State.transmit
  split
  · simp
  · split
    · split <;> simp
    · split <;> simp
    · split
      · simp
      · split <;> simp [Reports.beginSending]

/-- A frame on HTX is not interrupted. -/
theorem State.transmit_busy (s : State) (h : s.hlk.sending.isSome = true) : s.transmit = s := by
  simp [State.transmit, h]

/-- What a free transmitter leaves of the report queue: one record SENT, if a report is the frame it takes. -/
theorem State.transmit_rpu (s : State) :
    s.transmit.rpu = s.rpu ∨ ∃ x, s.rpu.pick = some x ∧ s.transmit.rpu = s.rpu.beginSending x.seq := by
  unfold State.transmit
  split
  · simp
  · split
    · split <;> simp
    · split <;> simp
    · split
      · simp
      · split
        · next x hx => exact .inr ⟨x, hx, rfl⟩
        · simp

/-- While a frame is sent or a reply or an answer waits, no report begins. -/
theorem State.transmit_rpu_of_waiting (s : State) (h : s.hlk.sending.isSome = true ∨ s.hlk.order ≠ []) :
    s.transmit.rpu = s.rpu := by
  unfold State.transmit
  split
  · rfl
  · next hs =>
    split
    · split <;> rfl
    · split <;> rfl
    · next ho => rcases h with h | h <;> contradiction

/-- The records of the queue are never lost or reordered by a sending: only a state changes. -/
theorem Reports.beginSending_queue (r : Reports) (q : Byte) {γ : Type} (g : ReportRecord → γ)
    (h : ∀ x y, g { x with state := y } = g x) : (r.beginSending q).queue.map g = r.queue.map g :=
  updateFirst_map g _ _ (fun x _ => h x _) _

/-- The transmitter keeps what every record has but its state. -/
theorem State.transmit_queue (s : State) {γ : Type} (g : ReportRecord → γ) (h : ∀ x y, g { x with state := y } = g x) :
    s.transmit.rpu.queue.map g = s.rpu.queue.map g := by
  rcases s.transmit_rpu with hs | ⟨x, -, hs⟩
  · rw [hs]
  · rw [hs, Reports.beginSending_queue _ _ g h]

@[simp] theorem State.transmit_queue_length (s : State) : s.transmit.rpu.queue.length = s.rpu.queue.length := by
  simpa using congrArg List.length (s.transmit_queue (fun _ => ()) (fun _ _ => rfl))

end Sys2Proof.Machine
end

