-- ==== Sys2Proof/Laws/HostLink.lean ====
section
/-! SUPPORT. The Host Link: codes and check bytes, the framer over a whole frame, and what a request that is taken
leaves. -/

namespace Sys2Proof.Machine

/-- Every kind of Table 12-1 is found under its code. -/
@[simp] theorem Kind.ofCode_code (k : Kind) : Kind.ofCode k.code = some k := by cases k <;> rfl

/-- A byte-sized number is sent as itself. -/
theorem byteOf_toNat (n : Nat) (h : n < 256) : (byteOf n).toNat = n := by simp [byteOf, Nat.mod_eq_of_lt h]

/-- The two check bytes give back the check (R199). -/
theorem byteOf_append_byteOf (c : BitVec 16) : byteOf (c.toNat / 256) ++ byteOf c.toNat = c := by
  apply BitVec.eq_of_toNat_eq
  simp only [byteOf, BitVec.toNat_append, BitVec.toNat_ofNat]
  have := c.isLt
  rw [Nat.shiftLeft_eq, Nat.mul_comm, ← Nat.two_pow_add_eq_or_of_lt (by omega)]; omega

/-- The bytes behind a length byte of 2 to 250 bring the frame to its end (R180). -/
theorem State.assemble_fold (s : State) (len : Byte) (pre rest : List Byte) (hl : 2 ≤ len.toNat)
    (hl2 : len.toNat ≤ 250) (hlen : pre.length + rest.length + 1 = len.toNat + 3) (hr : rest ≠ [])
    (hf : s.hlk.framer = .assembling (len :: pre) false) :
    (rest.map (fun b => (⟨b, false⟩ : HostByte))).foldl State.receiveByte s = s.finishFrame (len :: pre ++ rest) false := by
  induction rest generalizing s pre with
  | nil => contradiction
  | cons b l ih =>
    simp only [List.map_cons, List.foldl_cons]
    have hb : s.receiveByte ⟨b, false⟩ = s.assemble (len :: pre) false ⟨b, false⟩ := by simp [State.receiveByte, hf]
    rw [hb]
    simp only [State.assemble, List.cons_append, List.headD_cons, Bool.or_false]
    rw [if_neg (by omega), if_neg (by omega)]
    cases l with
    | nil =>
      simp only [List.length_cons, List.length_nil] at hlen
      simp only [List.length_cons, List.length_append, List.length_nil]
      rw [if_pos (by omega)]
      rfl
    | cons c l =>
      simp only [List.length_cons] at hlen
      simp only [List.length_cons, List.length_append, List.length_nil]
      rw [if_neg (by omega)]
      rw [ih _ (pre ++ [b]) (by simp; omega) (by simp) rfl]
      simp [State.finishFrame, State.hunt, State.abandonFrame]

/-- A frame whose check passes is judged (R181, R182). -/
theorem State.finishFrame_passes (s : State) (all : List Byte) (len kind tag : Byte) (body : List Byte) (hi lo : Byte) (d : Bool)
    (h : all = (len :: kind :: tag :: body) ++ [hi, lo]) (hc : d = false ∧ [hi, lo] = checkBytes (frameCheck (len :: kind :: tag :: body))) :
    s.finishFrame all d = s.hunt.judge ⟨kind, tag, body, hi ++ lo⟩ := by
  subst h
  have e : ((len :: kind :: tag :: body) ++ [hi, lo]).length - 2 = (len :: kind :: tag :: body).length := by simp
  unfold State.finishFrame
  rw [e, List.take_left, List.drop_left]
  simp only
  rw [if_pos hc]

/-- The frame that the statements spell out is the one the model sends (R200). -/
theorem HostFrame.onLine_eq (f : HostFrame) : f.onLine = f.bytes := rfl

/-- An undamaged frame that the framer hunts for is judged (R180, R182). -/
theorem State.receive_frame (s : State) (kind tag : Byte) (body : List Byte) (hf : s.hlk.framer = .hunting) (hb : body.length ≤ 248) :
    (HostFrame.received ⟨kind, tag, body⟩).foldl State.receiveByte s = s.judge (.of kind tag body) := by
  have hlen : (byteOf (body.length + 2)).toNat = body.length + 2 := byteOf_toNat _ (by omega)
  simp only [HostFrame.received, HostFrame.onLine_eq, HostFrame.bytes, List.map_cons, List.foldl_cons, List.cons_append]
  have h1 : s.receiveByte ⟨startByte, false⟩ = { s with hlk := { s.hlk with framer := .assembling [] false } } := by
    simp [State.receiveByte, hf]
  rw [h1]
  have h2 : State.receiveByte { s with hlk := { s.hlk with framer := .assembling [] false } } ⟨byteOf (body.length + 2), false⟩ = { s with hlk := { s.hlk with framer := .assembling [byteOf (body.length + 2)] false } } := by
    simp only [State.receiveByte, State.assemble, List.nil_append, List.headD_cons, hlen]
    rw [if_neg (by omega), if_neg (by omega), if_neg (by simp)]; rfl
  rw [h2]
  have h3 := State.assemble_fold { s with hlk := { s.hlk with framer := .assembling [byteOf (body.length + 2)] false } } (byteOf (body.length + 2)) [] (kind :: tag :: body ++ checkBytes (hostCheck kind tag body)) (by omega) (by omega) (by simp [hlen, checkBytes, be16]) (by simp) rfl
  simp only [List.cons_append, List.map_cons, List.foldl_cons] at h3
  rw [h3]
  have hs : State.hunt { s with hlk := { s.hlk with framer := .assembling [byteOf (body.length + 2)] false } } = s := by
    cases s; rename_i hlk _ _; cases hlk; simp_all [State.hunt]
  have e1 : (byteOf (body.length + 2) :: ([] ++ kind :: tag :: (body ++ checkBytes (hostCheck kind tag body)))) =
     (byteOf (body.length + 2) :: kind :: tag :: body) ++ checkBytes (hostCheck kind tag body) := by simp
  rw [e1]
  rw [show checkBytes (hostCheck kind tag body) = [byteOf ((hostCheck kind tag body).toNat / 256), byteOf (hostCheck kind tag body).toNat] from rfl, State.finishFrame_passes _ _ _ _ _ _ _ _ _ rfl (by simp [hostCheck, checkBytes, be16]), hs, byteOf_append_byteOf]; rfl

/-! ### Requests that are taken -/

/-- A request under a fresh tag, with room in the table, passes to its owner (R182 step 7). -/
theorem State.hostRequest_taken {s : State} {tag : Byte} (h : s.HostReady tag) (kind : Kind) (body : List Byte) :
    s.hostRequest kind tag body =
      (s.takeHostRequest (.of kind.code tag body)).getD
        (s.placeAnswer (replyFrame kind.code tag ⟨.unknownKind, [kind.code]⟩)) := by
  obtain ⟨h1, h2, h3, h4, h5⟩ := h
  have hc : s.hlk.cache.find? (fun c => c.tag == tag) = none := by simpa using h3
  have ht : s.hlk.table.find? (fun e => e.tag == tag) = none := by simpa using h4
  simp only [State.hostRequest, State.judge, HostRequest.of, h1, Option.isSome_none, Bool.false_eq_true, if_false, h2,
    hc, State.judgeFresh, ht, Nat.not_le.2 h5]

/-- The owner's answer to the request just entered: the entry ANSWERED, the reply last in the order (R183). -/
theorem HostLink.answer_new {h : HostLink} {q : HostRequest} {r : Reply} (hq : ∀ e ∈ h.table, e.tag ≠ q.tag) :
    HostLink.answer { h with table := h.table ++ [q.entry] } q.tag r =
      { h with
        table := h.table ++ [{ q.entry with state := .answered (replyFrame q.kind q.tag r) }]
        order := h.order ++ [.reply q.tag] } := by
  have hf : (h.table ++ [q.entry]).find? (fun e => e.tag == q.tag && e.isWaiting) = some q.entry := by
    rw [List.find?_append, List.find?_eq_none.2 (fun e he => by simp [hq e he])]
    simp [HostRequest.entry, TableEntry.isWaiting]
  simp only [HostLink.answer, hf]
  rw [updateFirst_split _ _ h.table q.entry [] (fun e he => by simp [hq e he])
    (by simp [HostRequest.entry, TableEntry.isWaiting])]
  rfl

/-- A request that its owner answers at once, leaving the Host Link alone: the owner's state with the reply formed. -/
theorem State.hostRequest_answered {s s1 : State} {tag : Byte} {kind : Kind} {body : List Byte} {r : Reply}
    (h : s.HostReady tag) (ho : hostOwner kind tag body (s.openEntry (.of kind.code tag body)) = some (s1, some r))
    (hk : s1.hlk = (s.openEntry (.of kind.code tag body)).hlk) :
    s.hostRequest kind tag body = { s1 with hlk := (s.withHostReply kind tag body r).hlk } := by
  rw [s.hostRequest_taken h]
  have hb : (Kind.ofCode (HostRequest.of kind.code tag body).kind).bind
      (fun k => hostOwner k (HostRequest.of kind.code tag body).tag (HostRequest.of kind.code tag body).body
        (s.openEntry (.of kind.code tag body))) = some (s1, some r) := by
    simp only [HostRequest.of, Kind.ofCode_code, Option.bind_some]
    exact ho
  simp only [State.takeHostRequest, hb, Option.getD_some, State.answer, hk]
  have := HostLink.answer_new (h := s.hlk) (q := .of kind.code tag body) (r := r) h.2.2.2.1
  simp only [State.openEntry, State.withHostReply]
  exact congrArg (fun x => { s1 with hlk := x }) this

/-- A request that waits: its owner's state, the entry WAITING (R187). -/
theorem State.hostRequest_waits {s s1 : State} {tag : Byte} {kind : Kind} {body : List Byte} (h : s.HostReady tag)
    (ho : hostOwner kind tag body (s.withHostWaiting kind tag body) = some (s1, none)) :
    s.hostRequest kind tag body = s1 := by
  rw [s.hostRequest_taken h]
  have hb : (Kind.ofCode (HostRequest.of kind.code tag body).kind).bind
      (fun k => hostOwner k (HostRequest.of kind.code tag body).tag (HostRequest.of kind.code tag body).body
        (s.openEntry (.of kind.code tag body))) = some (s1, none) := by
    simp only [HostRequest.of, Kind.ofCode_code, Option.bind_some]
    exact ho
  simp only [State.takeHostRequest, hb, Option.getD_some]

/-- A request that its owner only answers: nothing but its entry and the transmit order changes. -/
theorem State.hostRequest_answered_only {s : State} {tag : Byte} {kind : Kind} {body : List Byte} {r : Reply}
    (h : s.HostReady tag)
    (ho : hostOwner kind tag body (s.openEntry (.of kind.code tag body))
      = some (s.openEntry (.of kind.code tag body), some r)) :
    s.hostRequest kind tag body = s.withHostReply kind tag body r := by
  rw [State.hostRequest_answered h ho rfl]; rfl

/-- A body of at most 248 bytes fits a host frame (R180). -/
theorem hostBodyFits_of {body : List Byte} (h : body.length ≤ 248) : hostBodyFits body = true := by
  simp [hostBodyFits, Config.hostBodyMax, h]

/-! ### The answer list with room -/

/-- With room, and no answer lost before, a frame joins the list as it is (R186). -/
theorem HostLink.placeAnswer_free {h : HostLink} (ht : h.takesAnswer) (f : HostFrame) :
    h.placeAnswer f = h.joinAnswers f := by
  obtain ⟨h1, h2, h3⟩ := ht
  simp [HostLink.placeAnswer, h1, Nat.not_le.2 h2, h3]

theorem State.placeAnswer_free {s : State} (ht : s.hlk.takesAnswer) (f : HostFrame) :
    s.placeAnswer f = s.withAnswer f := by
  simp [State.placeAnswer, HostLink.placeAnswer_free ht, State.withAnswer, HostLink.joinAnswers]

/-- A frame abandoned while the list has room: the framer hunts, and the LINK_ERROR joins the list (R181). -/
theorem State.abandonFrame_free {s : State} (ht : s.hlk.takesAnswer) (cause : Byte) (kind tag : Option Byte) :
    s.abandonFrame cause kind tag =
      State.withAnswer { s with hlk := { s.hlk with framer := .hunting } } (linkError cause kind tag 0) := by
  unfold State.abandonFrame
  rw [State.placeAnswer_free (by exact ht)]; rfl

end Sys2Proof.Machine
end

