-- ==== Sys2Proof/Laws/Ledger.lean ====
section
/-! SUPPORT. The Resource Ledger: what each service of 3.9 and each exchange keeps of the units and of the records. -/

namespace Sys2Proof.Machine

/-- The units of the ledger: free, claimed and held aside (R34). -/
def Ledger.units (l : Ledger) : Nat := l.freeUnits + l.claimedTotal + l.holdingTotal

/-! ### Sums over a list whose first match changes -/

/-- A change of the first match moves a sum by what it moves that element's part. -/
theorem sum_updateFirst {α : Type} (g : α → Nat) (p : α → Bool) (f : α → α) (l : List α) :
    ((updateFirst p f l).map g).sum + ((l.find? p).map g).getD 0
      = (l.map g).sum + ((l.find? p).map (fun a => g (f a))).getD 0 := by
  induction l with
  | nil => rfl
  | cons a l ih =>
    by_cases h : p a = true
    · simp only [updateFirst_cons, h, if_true, List.map_cons, List.sum_cons, List.find?_cons_of_pos, Option.map_some,
        Option.getD_some]
      omega
    · simp only [updateFirst_cons, h, List.map_cons, List.sum_cons, List.find?_cons_of_neg (by simpa using h)]
      simp only [Bool.false_eq_true, if_false, List.map_cons, List.sum_cons]
      omega

/-- Erasing the first match takes its part out of a sum. -/
theorem sum_eraseP {α : Type} (g : α → Nat) (p : α → Bool) (l : List α) :
    ((l.eraseP p).map g).sum + ((l.find? p).map g).getD 0 = (l.map g).sum := by
  induction l with
  | nil => rfl
  | cons a l ih =>
    by_cases h : p a = true
    · rw [List.eraseP_cons_of_pos h, List.find?_cons_of_pos h]; simp; omega
    · rw [List.eraseP_cons_of_neg h, List.find?_cons_of_neg h]; simp; omega

/-! ### Services -/

/-- A change of a party's account leaves the rest of the ledger. -/
@[simp] theorem Ledger.update_frame (l : Ledger) (p : Party) (f : Account → Account) :
    (l.update p f).freeUnits = l.freeUnits ∧ (l.update p f).freeChannels = l.freeChannels ∧
    (l.update p f).holdings = l.holdings ∧ (l.update p f).revision = l.revision ∧
    (l.update p f).claims.map StationClaim.tag = l.claims.map StationClaim.tag := by
  cases p with
  | host => simp [Ledger.update]
  | station t => simp [Ledger.update, updateFirst_map StationClaim.tag]

/-- A change of an account that keeps the claimed units keeps all units: charge, uncharge, bind and unbind (R53 to R56). -/
theorem Ledger.update_units (l : Ledger) (p : Party) (f : Account → Account) (h : ∀ a, (f a).claimed = a.claimed) :
    (l.update p f).units = l.units := by
  cases p with
  | host => simp [Ledger.update, Ledger.units, Ledger.claimedTotal, Ledger.holdingTotal, h]
  | station t =>
    simp only [Ledger.update, Ledger.units, Ledger.claimedTotal, Ledger.holdingTotal]
    rw [updateFirst_map (fun (c : StationClaim) => c.account.claimed) _ _ (fun a _ => h a.account)]

/-- A charge leaves units and channels, and adds to the committed units of one account (R53). -/
theorem Ledger.charge_some {l l' : Ledger} {p : Party} {u : Nat} (h : l.charge p u = some l') :
    (l.account p).committed + u ≤ (l.account p).claimed ∧
    l' = l.update p (fun a => { a with committed := a.committed + u }) ∧ l'.units = l.units := by
  unfold Ledger.charge at h
  split at h
  · next hc =>
    obtain rfl := Option.some.inj h
    exact ⟨hc, rfl, l.update_units p _ (fun _ => rfl)⟩
  · simp at h

/-- A binding leaves the units; the channel is one that the party holds (R55). -/
theorem Ledger.bind_some {l l' : Ledger} {p : Party} {channel id : Nat} (h : l.bind p channel id = some l') :
    hasChannel (l.account p).held channel = true ∧
    l' = l.update p (fun a => { a with bound := bindIn a.bound channel id }) ∧ l'.units = l.units := by
  unfold Ledger.bind at h
  split at h
  · next hc =>
    obtain rfl := Option.some.inj h
    exact ⟨hc, rfl, l.update_units p _ (fun _ => rfl)⟩
  · simp at h

/-- A new record holds nothing yet (R37). -/
theorem Ledger.ensure_units (l : Ledger) (p : Party) : (l.ensure p).units = l.units := by
  unfold Ledger.ensure
  split
  · rfl
  · split
    · rfl
    · simp [Ledger.units, Ledger.claimedTotal, Ledger.holdingTotal, Account.empty]

/-- A record that is removed because it holds nothing takes no units with it (R37). -/
theorem Ledger.dropEmpty_units (l : Ledger) (p : Party) : (l.dropEmpty p).units = l.units := by
  cases p with
  | host => rfl
  | station t =>
    simp only [Ledger.dropEmpty, Ledger.account?]
    cases hf : l.claims.find? (fun c => c.tag == t) with
    | none => rfl
    | some c =>
      simp only [Option.map_some]
      split
      · next h0 =>
        have := sum_eraseP (fun (c : StationClaim) => c.account.claimed) (fun c => c.tag == t) l.claims
        rw [hf] at this
        simp only [Option.map_some, Option.getD_some, h0.1, Nat.add_zero] at this
        simp only [Ledger.units, Ledger.claimedTotal, Ledger.holdingTotal, this]
      · rfl

/-- A release of a claim record whole turns its claimed units into free ones (R57). -/
theorem Ledger.releaseClaim_units (l : Ledger) (t : Tag) : (l.releaseClaim t).units = l.units := by
  simp only [Ledger.releaseClaim, Ledger.account?]
  cases hf : l.claims.find? (fun c => c.tag == t) with
  | none => rfl
  | some c =>
    have := sum_eraseP (fun (c : StationClaim) => c.account.claimed) (fun c => c.tag == t) l.claims
    rw [hf] at this
    simp only [Option.map_some, Option.getD_some] at this ⊢
    simp only [Ledger.units, Ledger.claimedTotal, Ledger.holdingTotal]
    omega

/-- The end of a holding turns its units into free ones (R51, R153, R156). -/
theorem Ledger.releaseHolding_units (l : Ledger) (t : Tag) : (l.releaseHolding t).units = l.units := by
  simp only [Ledger.releaseHolding, Ledger.holding?]
  cases hf : l.holdings.find? (fun h => h.tag == t) with
  | none => rfl
  | some h =>
    have := sum_eraseP Holding.units (fun h => h.tag == t) l.holdings
    rw [hf] at this
    simp only [Option.map_some, Option.getD_some] at this ⊢
    simp only [Ledger.units, Ledger.claimedTotal, Ledger.holdingTotal]
    omega

/-- A held stream leaves its holding without its units (R54). -/
theorem Ledger.dropHeld_units (l : Ledger) (t : Tag) (id : Nat) : (l.dropHeld t id).units = l.units := by
  simp only [Ledger.dropHeld, Ledger.units, Ledger.claimedTotal, Ledger.holdingTotal]
  rw [updateFirst_map Holding.units _ _ (by intro a _; rfl)]

/-- Freeing a stream's charge and channel keeps all units (R56). -/
theorem Ledger.freeStream_units (l : Ledger) (r : StreamRecord) : (l.freeStream r).units = l.units := by
  unfold Ledger.freeStream
  split
  · exact l.dropHeld_units _ _
  · unfold Ledger.unbind Ledger.uncharge
    rw [Ledger.update_units _ _ _ (by intro a; rfl), Ledger.update_units _ _ _ (by intro a; rfl)]

/-! ### Reads of accounts -/

/-- The account of a party after a change of its own. -/
theorem Ledger.account?_update (l : Ledger) (p : Party) (f : Account → Account) :
    (l.update p f).account? p = (l.account? p).map f := by
  cases p with
  | host => rfl
  | station t =>
    simp only [Ledger.update, Ledger.account?]
    induction l.claims with
    | nil => rfl
    | cons c l ih =>
      by_cases h : c.tag = t
      · simp [updateFirst_cons, h]
      · simp only [updateFirst_cons, beq_eq_false_iff_ne.2 h, Bool.false_eq_true, if_false, List.find?_cons]
        simpa using ih

/-- The accounts of other parties stay. -/
theorem Ledger.account?_update_of_ne (l : Ledger) {p q : Party} (hpq : q ≠ p) (f : Account → Account) :
    (l.update p f).account? q = l.account? q := by
  cases p with
  | host => cases q with
    | host => exact absurd rfl hpq
    | station t => rfl
  | station t => cases q with
    | host => rfl
    | station u =>
      have hne : u ≠ t := fun h => hpq (by rw [h])
      simp only [Ledger.update, Ledger.account?]
      induction l.claims with
      | nil => rfl
      | cons c l ih =>
        by_cases h : c.tag = t
        · have : c.tag ≠ u := fun h' => hne (h' ▸ h)
          simp [updateFirst_cons, h, hne.symm]
        · simp only [updateFirst_cons, beq_eq_false_iff_ne.2 h, Bool.false_eq_true, if_false, List.find?_cons]
          split
          · rfl
          · exact ih

end Sys2Proof.Machine
end

