-- ==== Sys2Proof/Laws/PerInstr.lean ====
section
/-! SUPPORT. One statement per command, about the command as syntax: exactly the bodies that fit their frame can be
sent. -/

namespace Sys2Proof.Laws

/-- The most bytes that a request's body may have: 248 from the host (R180), 54 from a station (R203). -/
def roomOf : Sender → Nat
  | .host _ => 248
  | .station _ _ _ => 54

/-- The body that a command carries, and the most bytes that its frame has room for. Commands without a body carry
none. -/
def carried : Instr → List Byte × Nat
  | .powerOnReset _ _ => ([], 0)
  | .hostFrame _ => ([], 0)
  | .interByteTimeout => ([], 0)
  | .replySent _ _ => ([], 0)
  | .answerSent => ([], 0)
  | .reportFrameSent => ([], 0)
  | .reportResendDue _ => ([], 0)
  | .configure _ body => (body, 248)
  | .readConfig _ body => (body, 248)
  | .start _ body => (body, 248)
  | .halt _ body => (body, 248)
  | .reset _ body => (body, 248)
  | .trunkReset _ body => (body, 248)
  | .status _ body => (body, 248)
  | .exchangeUnits sender body => (body, roomOf sender)
  | .exchangeChannels sender body => (body, roomOf sender)
  | .ledgerRead sender body => (body, roomOf sender)
  | .claimList _ body => (body, 248)
  | .discardHolding _ body => (body, 248)
  | .admitStream sender body => (body, roomOf sender)
  | .retire sender body => (body, roomOf sender)
  | .resize sender body => (body, roomOf sender)
  | .suspend sender body => (body, roomOf sender)
  | .resume sender body => (body, roomOf sender)
  | .withdraw sender body => (body, roomOf sender)
  | .freeze _ body => (body, 248)
  | .thaw _ body => (body, 248)
  | .streamRead sender body => (body, roomOf sender)
  | .streamList _ body => (body, 248)
  | .planRead _ body => (body, 248)
  | .rosterRead _ body => (body, 248)
  | .setRights _ body => (body, 248)
  | .evict _ body => (body, 248)
  | .reportAck _ body => (body, 248)
  | .requestFrame _ => ([], 0)
  | .leave _ _ _ body => (body, 54)
  | .reclaim _ _ _ body => (body, 54)
  | .join _ _ => ([], 0)
  | .rollAnswer _ _ => ([], 0)
  | .trunkTransmissionDiscarded _ => ([], 0)
  | .resetBurst _ _ => ([], 0)
  | .nominalInstant _ => ([], 0)
  | .stretchEnd _ => ([], 0)
  | .trunkFault => ([], 0)
  | .reclaimWindowExpiry => ([], 0)
  | .slotObservation _ => ([], 0)
  | .stopCountReached _ => ([], 0)
  | .openWindowShare _ => ([], 0)
  | .outboundFrameSent => ([], 0)
  | .rollCallPeriod => ([], 0)
  | .rollCallEnd => ([], 0)
  | .hostByteReceived _ => ([], 0)

/-- A command can be sent exactly when its body fits its frame and, for the end of a stretch by quiet, the stretch lasts
1 to 64 units (R27; entry 25). -/
def BodyFits.Statement (i : Instr) : Prop :=
  wellFormed i = true ↔
    (carried i).1.length ≤ (carried i).2 ∧ ∀ t, i = .stretchEnd (some t) → 1 ≤ t ∧ t ≤ 64

/-- A command with a body that is well-formed exactly when the body has no more bytes than its frame has room for. -/
theorem BodyFits.of_body {i : Instr} {body : List Byte} {n : Nat} (hw : wellFormed i = decide (body.length ≤ n))
    (hc : carried i = (body, n)) (hs : ∀ t, i ≠ .stretchEnd (some t)) : BodyFits.Statement i := by
  simp [BodyFits.Statement, hw, hc, hs]

/-- A command without a body that can always be sent. -/
theorem BodyFits.of_none {i : Instr} (hw : wellFormed i = true) (hc : carried i = ([], 0))
    (hs : ∀ t, i ≠ .stretchEnd (some t)) : BodyFits.Statement i := by
  simp [BodyFits.Statement, hw, hc, hs]

namespace BodyFits

theorem powerOnReset (rateA : Bool) (rateB : Bool) :
    Statement (.powerOnReset rateA rateB) := of_none rfl rfl nofun

theorem hostFrame (bytes : List HostByte) :
    Statement (.hostFrame bytes) := of_none rfl rfl nofun

theorem interByteTimeout :
    Statement .interByteTimeout := of_none rfl rfl nofun

theorem replySent (rateA : Bool) (rateB : Bool) :
    Statement (.replySent rateA rateB) := of_none rfl rfl nofun

theorem answerSent :
    Statement .answerSent := of_none rfl rfl nofun

theorem reportFrameSent :
    Statement .reportFrameSent := of_none rfl rfl nofun

theorem reportResendDue (seq : Byte) :
    Statement (.reportResendDue seq) := of_none rfl rfl nofun

theorem configure (tag : Byte) (body : List Byte) :
    Statement (.configure tag body) := of_body rfl rfl nofun

theorem readConfig (tag : Byte) (body : List Byte) :
    Statement (.readConfig tag body) := of_body rfl rfl nofun

theorem start (tag : Byte) (body : List Byte) :
    Statement (.start tag body) := of_body rfl rfl nofun

theorem halt (tag : Byte) (body : List Byte) :
    Statement (.halt tag body) := of_body rfl rfl nofun

theorem reset (tag : Byte) (body : List Byte) :
    Statement (.reset tag body) := of_body rfl rfl nofun

theorem trunkReset (tag : Byte) (body : List Byte) :
    Statement (.trunkReset tag body) := of_body rfl rfl nofun

theorem status (tag : Byte) (body : List Byte) :
    Statement (.status tag body) := of_body rfl rfl nofun

theorem exchangeUnits (sender : Sender) (body : List Byte) :
    Statement (.exchangeUnits sender body) := by
  cases sender <;> exact of_body rfl rfl nofun

theorem exchangeChannels (sender : Sender) (body : List Byte) :
    Statement (.exchangeChannels sender body) := by
  cases sender <;> exact of_body rfl rfl nofun

theorem ledgerRead (sender : Sender) (body : List Byte) :
    Statement (.ledgerRead sender body) := by
  cases sender <;> exact of_body rfl rfl nofun

theorem claimList (tag : Byte) (body : List Byte) :
    Statement (.claimList tag body) := of_body rfl rfl nofun

theorem discardHolding (tag : Byte) (body : List Byte) :
    Statement (.discardHolding tag body) := of_body rfl rfl nofun

theorem admitStream (sender : Sender) (body : List Byte) :
    Statement (.admitStream sender body) := by
  cases sender <;> exact of_body rfl rfl nofun

theorem retire (sender : Sender) (body : List Byte) :
    Statement (.retire sender body) := by
  cases sender <;> exact of_body rfl rfl nofun

theorem resize (sender : Sender) (body : List Byte) :
    Statement (.resize sender body) := by
  cases sender <;> exact of_body rfl rfl nofun

theorem suspend (sender : Sender) (body : List Byte) :
    Statement (.suspend sender body) := by
  cases sender <;> exact of_body rfl rfl nofun

theorem resume (sender : Sender) (body : List Byte) :
    Statement (.resume sender body) := by
  cases sender <;> exact of_body rfl rfl nofun

theorem withdraw (sender : Sender) (body : List Byte) :
    Statement (.withdraw sender body) := by
  cases sender <;> exact of_body rfl rfl nofun

theorem freeze (tag : Byte) (body : List Byte) :
    Statement (.freeze tag body) := of_body rfl rfl nofun

theorem thaw (tag : Byte) (body : List Byte) :
    Statement (.thaw tag body) := of_body rfl rfl nofun

theorem streamRead (sender : Sender) (body : List Byte) :
    Statement (.streamRead sender body) := by
  cases sender <;> exact of_body rfl rfl nofun

theorem streamList (tag : Byte) (body : List Byte) :
    Statement (.streamList tag body) := of_body rfl rfl nofun

theorem planRead (tag : Byte) (body : List Byte) :
    Statement (.planRead tag body) := of_body rfl rfl nofun

theorem rosterRead (tag : Byte) (body : List Byte) :
    Statement (.rosterRead tag body) := of_body rfl rfl nofun

theorem setRights (tag : Byte) (body : List Byte) :
    Statement (.setRights tag body) := of_body rfl rfl nofun

theorem evict (tag : Byte) (body : List Byte) :
    Statement (.evict tag body) := of_body rfl rfl nofun

theorem reportAck (tag : Byte) (body : List Byte) :
    Statement (.reportAck tag body) := of_body rfl rfl nofun

theorem requestFrame (bytes : List Byte) :
    Statement (.requestFrame bytes) := of_none rfl rfl nofun

theorem leave (number : Byte) (epoch : Byte) (seq : BitVec 4) (body : List Byte) :
    Statement (.leave number epoch seq body) := of_body rfl rfl nofun

theorem reclaim (number : Byte) (epoch : Byte) (seq : BitVec 4) (body : List Byte) :
    Statement (.reclaim number epoch seq body) := of_body rfl rfl nofun

theorem join (tag : Tag) (epoch : Byte) :
    Statement (.join tag epoch) := of_none rfl rfl nofun

theorem rollAnswer (tag : Tag) (epoch : Byte) :
    Statement (.rollAnswer tag epoch) := of_none rfl rfl nofun

theorem trunkTransmissionDiscarded (why : DiscardCause) :
    Statement (.trunkTransmissionDiscarded why) := of_none rfl rfl nofun

theorem resetBurst (units : Nat) (quiet : Bool) :
    Statement (.resetBurst units quiet) := of_none rfl rfl nofun

theorem nominalInstant (busy : Bool) :
    Statement (.nominalInstant busy) := of_none rfl rfl nofun

theorem stretchEnd (quietAt : Option Nat) :
    Statement (.stretchEnd quietAt) := by
  cases quietAt with
  | none => exact ⟨fun _ => ⟨Nat.le_refl 0, nofun⟩, fun _ => rfl⟩
  | some n =>
    have h : wellFormed (.stretchEnd (some n)) = (decide (1 ≤ n) && decide (n ≤ 64)) := rfl
    simp only [Statement, h, Bool.and_eq_true, decide_eq_true_eq]
    exact ⟨fun hn => ⟨Nat.le_refl 0, fun t ht => by cases ht; exact hn⟩, fun hn => hn.2 n rfl⟩

theorem trunkFault :
    Statement .trunkFault := of_none rfl rfl nofun

theorem reclaimWindowExpiry :
    Statement .reclaimWindowExpiry := of_none rfl rfl nofun

theorem slotObservation (seen : SlotSeen) :
    Statement (.slotObservation seen) := of_none rfl rfl nofun

theorem stopCountReached (id : Nat) :
    Statement (.stopCountReached id) := of_none rfl rfl nofun

theorem openWindowShare (unitsLeft : Nat) :
    Statement (.openWindowShare unitsLeft) := of_none rfl rfl nofun

theorem outboundFrameSent :
    Statement .outboundFrameSent := of_none rfl rfl nofun

theorem rollCallPeriod : Statement .rollCallPeriod := of_none rfl rfl nofun

theorem rollCallEnd :
    Statement .rollCallEnd := of_none rfl rfl nofun

theorem hostByteReceived (byte : HostByte) :
    Statement (.hostByteReceived byte) := of_none rfl rfl nofun

end BodyFits

end Sys2Proof.Laws
end

