-- ==== Sys2Proof/Laws/Reports.lean ====
section
/-! SUPPORT. The report queue (11): distinct sequences, and what each operation on the queue does to a record. -/

namespace Sys2Proof.Machine

/-- Consecutive sequences in a queue of at most 24 are distinct (R191). -/
theorem Reports.inOrder.seq_nodup {r : Reports} (h : r.inOrder) : (r.queue.map ReportRecord.seq).Nodup := by
  obtain ⟨hl, hs, -⟩ := h
  rw [hs]
  refine (List.nodup_range).map_on (fun i hi j hj hij => ?_)
  simp only [List.mem_range, Config.reportRoom] at hi hj hl
  have := congrArg BitVec.toNat (sub_right_injective hij)
  simp only [byteOf, BitVec.toNat_ofNat] at this
  omega

/-- A sending changes the state of the one record with the sequence. -/
theorem Reports.beginSending_eq {r : Reports} (h : r.inOrder) (q : Byte) :
    r.beginSending q =
      { r with queue := r.queue.map (fun x => if x.seq = q then { x with state := .sent .unset } else x) } := by
  unfold Reports.beginSending
  rw [updateFirst_key ReportRecord.seq _ q _ h.seq_nodup]

theorem Reports.sendingEnds_eq {r : Reports} (h : r.inOrder) (q : Byte) :
    r.sendingEnds q =
      { r with
        queue := r.queue.map
          (fun x => if x.seq = q ∧ x.state = .sent .unset then { x with state := .sent .running } else x) } := by
  unfold Reports.sendingEnds
  rw [updateFirst_eq_map ReportRecord.seq (fun x => x.state == .sent .unset) _ q _ h.seq_nodup]
  simp

theorem Reports.resendDue_eq {r : Reports} (h : r.inOrder) (q : Byte) :
    r.resendDue q =
      { r with
        queue := r.queue.map
          (fun x => if x.seq = q ∧ x.state = .sent .running then { x with state := .sent .due } else x) } := by
  unfold Reports.resendDue
  rw [updateFirst_eq_map ReportRecord.seq (fun x => x.state == .sent .running) _ q _ h.seq_nodup]
  simp

end Sys2Proof.Machine
end

