-- ==== Sys2Proof/Laws/Stations.lean ====
section
/-! SUPPORT. The Trunk Port: what a REQUEST that is taken passes to its owner, and what follows it. -/

namespace Sys2Proof.Machine

/-- A REQUEST that is no repeat and finds room, in the station portion, is executed and answered (R165 to R169), but
while a RESET is pending one that has an owner to reach is dropped (R7). -/
theorem State.stationFrame_fresh {s : State} {number epoch : Byte} {seq : BitVec 4} {e : Station}
    (h : s.StationFresh number epoch seq e) (kind : Byte) (body : List Byte) :
    s.stationFrame number epoch seq kind body =
      if s.hlk.resetting.isSome && s.enterPortion.reachesOwner e kind body then s.enterPortion
      else s.enterPortion.answerStation e seq kind body := by
  obtain ⟨h1, h2, h3, h4, h5, h6⟩ := h
  subst h4
  have h2' : s.enterPortion.rst.byNumber number.toNat = some e := h2
  have h5' : s.enterPortion.tpt.hasRoom = true := h5
  unfold State.stationFrame
  rw [if_pos h1]
  unfold State.takeRequest
  rw [h2']
  have h7 : s.enterPortion.hlk.resetting = s.hlk.resetting := rfl
  simp only [h3, h5', h6, h7, if_false]
  simp [State.enterPortion]

/-- While no RESET is pending, a REQUEST that is no repeat and finds room is executed and answered (R165 to R169). -/
theorem State.stationFrame_taken {s : State} {number epoch : Byte} {seq : BitVec 4} {e : Station}
    (h : s.StationReady number epoch seq e) (kind : Byte) (body : List Byte) :
    s.stationFrame number epoch seq kind body = s.enterPortion.answerStation e seq kind body := by
  rw [State.stationFrame_fresh h.1, h.2]
  rfl

/-- A REQUEST whose owner leaves the sender's roster and the outbound queue alone: the owner's state with the reply
queued and remembered (R169). -/
theorem State.answerStation_of {s s1 : State} {e : Station} {seq : BitVec 4} {kind : Byte} {body : List Byte} {r : Reply}
    (ho : s.enterPortion.executeStation e kind body = (s1, r)) :
    s.enterPortion.answerStation e seq kind body =
      let f := OutFrame.reply e.number e.tag s.rst.epoch seq kind r
      { s1 with
        tpt := { s1.tpt with outbound := s1.tpt.outbound ++ [f] }
        rst := s1.rst.update e.number (fun x => { x with lastSeq := some seq, cachedReply := some f }) } := by
  unfold State.answerStation
  rw [ho]
  rfl

/-- The owner of a station request, for a kind that stations may send, while remote requests are on (R168). -/
theorem State.executeStation_owner {s s1 : State} {e : Station} {kind : Kind} {body : List Byte} {r : Reply}
    (hr : s.cfg.remoteRequests = true) (ho : stationOwner kind e body s = some (s1, r)) :
    s.executeStation e kind.code body = (s1, r) := by
  have hk : Kind.ofCode kind.code = some kind := by cases kind <;> rfl
  simp [State.executeStation, hr, hk, ho]

/-- The entry found under a number has that number, and stands in the roster. -/
theorem Roster.byNumber_some {r : Roster} {n : Nat} {e : Station} (h : r.byNumber n = some e) :
    e ∈ r.stations ∧ e.number = n := by
  refine ⟨List.mem_of_find?_eq_some h, ?_⟩
  have := List.find?_some h
  simpa using this

/-- What a discarded transmission does: a broken burst pattern ends the detector's count, and nothing else happens. -/
theorem State.discardTransmission_eq (s : State) (why : DiscardCause) :
    s.discardTransmission why = if why = .brokenBurst then s.burstQuiet else s := by
  cases why <;> rfl

end Sys2Proof.Machine
end

