-- ==== Sys2Proof/Tests/Slice0.lean ====
section
/-! SUPPORT. Tests: the checks of well-formedness, and the data book's worked sequences and rules on small states. Every
expected value is the data book's, or follows from it by hand; the source of each is named. -/

namespace Sys2Proof.Tests

-- One theorem after another: each kernel evaluation that waits for the one before it would hold a thread.
set_option Elab.async false

open Sys2Proof Sys2Proof.Machine

/-! ### Helpers -/

/-- What can be read off the state that a command leaves. -/
def leaves {α : Type} (s : State) (c : Instr) (f : State → α) : Option α :=
  match exec c s with
  | .next t => some (f t)
  | .fault _ => none
  | .refused _ => none

/-- The reply formed for the request with this tag: its outcome byte and body. -/
def answer (tag : Byte) (s : State) : Option (List Byte) :=
  (s.hlk.table.find? (fun e => e.tag == tag)).bind (fun e => match e.state with
    | .answered f => some f.body
    | .waiting => none)

/-- The newest reply in the outbound queue. -/
def queued (s : State) : Option Reply :=
  match s.tpt.outbound.getLast? with
  | some (.reply _ _ _ _ _ r) => some r
  | _ => none

/-- The kinds and bodies of the queued reports, oldest first. -/
def reports (s : State) : List (ReportKind × List Byte) := s.rpu.queue.map (fun r => (r.kind, r.body))

/-- The roster entry of a station that has just been numbered. -/
def station (number : Nat) (tag : Tag) : Station := ⟨number, tag, .present, 5, 0, none, none, false⟩

/-- A known-tag entry with every right. -/
def known (number : Nat) (tag : Tag) : Known := ⟨tag, .every, some number⟩

/-- A stream without start cycle and stop count. -/
def stream (id : Nat) (owner : Party) (talker : Tag) (channel units period : Nat) (state : StreamState) : StreamRecord :=
  ⟨id, owner, talker, channel, units, period, 0, none, none, state, none, false, 0, 0, 0, 0⟩

/-- A set of channels. -/
def channels (l : List Nat) : ChannelSet := l.foldl (fun s c => s ||| channelBit c) 0

/-- RUNNING with cycle 812 current and epoch 5, in the open window, with station 1 of tag 0xA present. -/
def running : State :=
  { State.reset with
    csq := { State.reset.csq with partState := .running, lastCycle := some 812, phase := .window }
    rst := ⟨5, [station 1 0xA], [known 1 0xA], 0⟩ }

/-- The start of 3's worked example of two claims that race: budget 1,536, FREE_UNITS 1,024, host 512 claimed and 448
committed, station A without a claim record. -/
def race : State := { running with lgr := { State.reset.lgr with freeUnits := 1024, host := ⟨512, 448, 0, []⟩ } }

/-! ### Well-formedness: one ill-formed term for each check -/

theorem test_hostBodyFits_refuses : wellFormed (.configure 1 (List.replicate 249 0)) = false := by decide +kernel
theorem test_requestBodyFits_refuses : wellFormed (.leave 1 0 0 (List.replicate 55 0)) = false := by decide
theorem test_bodyFits_refuses_host : wellFormed (.retire (.host 1) (List.replicate 249 0)) = false := by decide +kernel
theorem test_bodyFits_refuses_station : wellFormed (.retire (.station 1 0 0) (List.replicate 55 0)) = false := by decide
theorem test_stretchFits_refuses_none : wellFormed (.stretchEnd (some 0)) = false := by decide
theorem test_stretchFits_refuses_beyond : wellFormed (.stretchEnd (some 65)) = false := by decide
theorem test_illFormed_faults :
    exec (.stretchEnd (some 65)) State.reset = .fault .operandOutOfRange := by rfl

/-! ### Formats (chapter 12) -/

/-- R199's check over the characters 1 to 9 is 29B1 hex, the published check value of this polynomial and start value. -/
theorem test_frameCheck :
    frameCheck [0x31, 0x32, 0x33, 0x34, 0x35, 0x36, 0x37, 0x38, 0x39] = 0x29B1#16 := by decide +kernel

/-- R18, R205: five slots make a header of 5 units (2.9). -/
theorem test_headerUnits : headerUnits 5 = 5 ∧ headerUnits 0 = 2 := by decide

/-! ### Resets and the host link (chapters 1 and 10) -/

theorem test_powerOnReset_empties :
    leaves race (.powerOnReset true false) (fun t => (t.lgr.freeUnits, t.hlk.rate, t.csq.partState))
      = some (1536, 460800, .quiescent) := by decide +kernel

/-- 10's tags in flight: "Last byte of reply 4 sent": tag 4 passes from the table to the cache. -/
theorem test_replySent_caches :
    leaves { State.reset with hlk := { State.reset.hlk with
        table := [⟨1, 0x03, 2, 0, .waiting⟩, ⟨4, 0x13, 3, 0, .answered ⟨0x13, 4, [0]⟩⟩]
        sending := some (.reply 4 ⟨0x13, 4, [0]⟩) } } (.replySent false false)
      (fun t => (t.hlk.table.map TableEntry.tag, t.hlk.cache.map CacheEntry.tag)) = some ([1], [4]) := by decide +kernel

/-- R15, R188: the soft reset behind a RESET's DONE keeps the configuration record and samples the straps. -/
theorem test_replySent_resets :
    leaves { race with
        cfg := { race.cfg with budget := 1280 }
        hlk := { race.hlk with resetting := some 17, sending := some (.reply 17 ⟨5, 17, [0]⟩) } } (.replySent true true)
      (fun t => (t.csq.partState, t.rst.epoch, t.lgr.freeUnits, t.hlk.rate)) = some (.quiescent, 0, 1280, 2000000) := by
  decide +kernel

/-- R180: the bytes of STATUS under tag 9 are that request; in QUIESCENT its DONE shows part state 0. -/
theorem test_hostFrame_status :
    leaves State.reset (.hostFrame (HostFrame.received ⟨0x07, 9, []⟩)) (fun t => (answer 9 t).map (fun b => b.take 2))
      = some (some [0, 0]) := by decide +kernel

/-- 10's tags in flight: "Frame with tag 6 fails its check": LINK_ERROR(BAD_CHECK) with kind and tag, no entry. -/
theorem test_hostFrame_badCheck :
    leaves State.reset (.hostFrame ([0xA5, 2, 0x07, 6, 0, 0].map (fun b => ⟨b, false⟩)))
      (fun t => (t.hlk.table.length, t.hlk.sending.map HtxSending.frame))
      = some (0, some ⟨0x41, 0, [3, 3, 0x07, 6, 0]⟩) := by decide +kernel

/-- R180: in HUNTING, A5 begins a frame and any other byte is skipped. -/
theorem test_hostByteReceived_start :
    leaves State.reset (.hostByteReceived ⟨0xA5, false⟩) (fun t => t.hlk.framer) = some (.assembling [] false) ∧
    leaves State.reset (.hostByteReceived ⟨0xA4, false⟩) (fun t => t.hlk.framer) = some .hunting := by decide +kernel

/-- R181: LENGTH above 250 is TOO_LONG at once. -/
theorem test_hostByteReceived_tooLong :
    leaves { State.reset with hlk := { State.reset.hlk with framer := .assembling [] false } } (.hostByteReceived ⟨251, false⟩)
      (fun t => (t.hlk.framer, t.hlk.answers)) = some (.hunting, [⟨0x41, 0, [2, 0, 0, 0, 0]⟩]) := by decide +kernel

/-- R181: 5 ms of silence behind length and kind are TRUNCATED, with the kind alone. -/
theorem test_interByteTimeout_truncates :
    leaves { State.reset with hlk := { State.reset.hlk with framer := .assembling [7, 0x03] false } } .interByteTimeout
      (fun t => (t.hlk.framer, t.hlk.answers)) = some (.hunting, [⟨0x41, 0, [1, 1, 0x03, 0, 0]⟩]) := by decide +kernel

/-- R186: the answer leaves its list, and the next one in the order is sent. -/
theorem test_answerSent_takesNext :
    leaves { State.reset with hlk := { State.reset.hlk with
        answers := [⟨7, 5, [0x13]⟩, ⟨0x41, 0, [1, 0, 0, 0, 0]⟩], order := [.answer], sending := some (.answer ⟨7, 5, [0x13]⟩) } }
      .answerSent (fun t => (t.hlk.answers.length, t.hlk.sending))
      = some (1, some (.answer ⟨0x41, 0, [1, 0, 0, 0, 0]⟩)) := by decide +kernel

/-! ### Reports (chapter 11) -/

/-- The start of 11's worked sequence: records 40 to 63, of which 40 to 43 are SENT, the counter at 64. -/
def fullQueue : State :=
  { State.reset with rpu := { State.reset.rpu with
      queue := (List.range 24).map (fun i => ⟨byteOf (40 + i), .streamChanged, 0, 0, [],
        if i < 4 then .sent .running else .waiting⟩)
      next := 64 } }

/-- "REPORT_ACK(44)": BAD_VALUE with 40 and 43, nothing acknowledged; the presence byte says that both are there. -/
theorem test_reportAck_refused :
    leaves fullQueue (.reportAck 1 [44]) (fun t => (answer 1 t, t.rpu.queue.length)) = some (some [4, 3, 40, 43], 24) := by
  decide +kernel

/-- "REPORT_ACK(41)" with two lost: queue 42 to 64, the last OVERFLOW(2), counter 65; DONE, 2 acknowledged, 23 left. -/
theorem test_reportAck_overflow :
    let s := { fullQueue with rpu := { fullQueue.rpu with marker := true, lost := 2 } }
    leaves s (.reportAck 1 [41]) (fun t => (answer 1 t, t.rpu.next, t.rpu.marker)) = some (some [0, 2, 23], 65, false) ∧
    leaves s (.reportAck 1 [41])
      (fun t => (t.rpu.queue.head?.map ReportRecord.seq, t.rpu.queue.getLast?.map (fun r => (r.seq, r.kind, r.body))))
      = some (some 42, some (64, .overflow, [2])) := by decide +kernel

/-- "First sendings of 44 and 45 begin": with 40 and 41 gone, 44 is the oldest WAITING one. -/
theorem test_reportFrameSent_first :
    leaves { fullQueue with
        rpu := { fullQueue.rpu with queue := fullQueue.rpu.queue.drop 2 }
        hlk := { fullQueue.hlk with sending := some (.report 43 ⟨0x40, 0, []⟩) } } .reportFrameSent
      (fun t => t.hlk.sending.map (fun x => match x with
        | .report q _ => q
        | _ => 0)) = some (some 44) := by decide +kernel

/-- "42 becomes due and is resent" ahead of first sendings. -/
theorem test_reportResendDue_first :
    leaves { fullQueue with rpu := { fullQueue.rpu with queue := fullQueue.rpu.queue.drop 2 } } (.reportResendDue 42)
      (fun t => t.hlk.sending.map (fun x => match x with
        | .report q _ => q
        | _ => 0)) = some (some 42) := by decide +kernel

/-! ### Control (chapter 1) -/

/-- 1's procedure: with budget 1,280, "FREE_UNITS has fallen by 256". -/
theorem test_configure_budget :
    leaves race (.configure 3 [1, 0x05, 0x00]) (fun t => (t.cfg.budget, t.lgr.freeUnits)) = some (1280, 768) := by
  decide +kernel

/-- R10: a budget below claimed and holding units is IN_USE with their sum, 512. -/
theorem test_configure_inUse :
    leaves race (.configure 3 [1, 0x01, 0x00]) (fun t => (answer 3 t, t.cfg.budget)) = some (some [7, 2, 0], 1536) := by
  decide +kernel

/-- R8: the defaults, 1,536, 512, 16, 4, on, all rights, all reports. -/
theorem test_readConfig_defaults :
    leaves State.reset (.readConfig 3 []) (answer 3)
      = some (some [0, 1, 6, 0, 2, 2, 0, 3, 16, 4, 4, 5, 1, 6, 7, 7, 0x0F, 0xFF]) := by decide +kernel

/-- R13: in RUNNING with cycle 812 and epoch 5, one station and nothing else. -/
theorem test_status_running :
    leaves running (.status 3 []) (answer 3)
      = some (some [0, 2, 0, 3, 0x2C, 5, 0, 6, 0, 40, 0, 0, 0, 0, 0, 1, 0, 0]) := by decide +kernel

/-- R2: START in QUIESCENT: epoch 1, STARTING, its tag waits. -/
theorem test_start_quiescent :
    leaves State.reset (.start 1 []) (fun t => (t.csq.partState, t.rst.epoch, t.csq.startWaiters, answer 1 t))
      = some (.starting, 1, [1], none) := by decide +kernel

/-- 1's sequence: "START, tag 11" in STARTING: WRONG_STATE. -/
theorem test_start_wrongState :
    leaves { running with csq := { running.csq with partState := .starting } } (.start 11 [])
      (fun t => (answer 11 t, t.rst.epoch)) = some (some [0x11], 5) := by decide +kernel

/-- 1's sequence: "TRUNK_RESET, tag 10, during cycle 812": STARTING, epoch 6, the cycle number stays. -/
theorem test_trunkReset_running :
    leaves running (.trunkReset 10 [])
      (fun t => (t.csq.partState, t.rst.epoch, t.csq.startWaiters, t.csq.lastCycle, t.rst.stations.length))
      = some (.starting, 6, [10], some 812, 0) := by decide +kernel

/-- 1's sequence: "TRUNK_RESET, tag 14" in HALTED: NOT_RUNNING. -/
theorem test_trunkReset_halted :
    leaves { running with csq := { running.csq with partState := .halted } } (.trunkReset 14 []) (answer 14)
      = some (some [0x12]) := by decide +kernel

/-- 1's sequence: "HALT, tag 16" while tag 15 waits for a roll call: 15 ABORTED, 16 DONE, HALTED. -/
theorem test_halt_starting :
    leaves { running with
        csq := { running.csq with partState := .starting, startWaiters := [15] }
        hlk := { running.hlk with table := [⟨15, 0x03, 2, 0, .waiting⟩] } } (.halt 16 [])
      (fun t => (answer 15 t, answer 16 t, t.csq.partState, t.rst.epoch))
      = some (some [0x16], some [0, 3, 0x2C], .halted, 5) := by decide +kernel

/-- 1's sequence: "HALT, tag 13, during the slots": it waits in RUNNING. -/
theorem test_halt_running :
    leaves running (.halt 13 []) (fun t => (answer 13 t, t.csq.partState, t.csq.haltWaiters))
      = some (none, .running, [13]) := by decide +kernel

/-- R7: RESET in RUNNING answers the HALT that waits ABORTED and itself DONE with the part state. -/
theorem test_reset_aborts :
    leaves { running with
        csq := { running.csq with haltWaiters := [13] }
        hlk := { running.hlk with table := [⟨13, 0x04, 2, 0, .waiting⟩] } } (.reset 17 [])
      (fun t => (answer 13 t, answer 17 t, t.hlk.resetting, t.csq.haltWaiters))
      = some (some [0x16], some [0, 2], some 17, []) := by decide +kernel

/-! ### The ledger (chapter 3) -/

/-- The race, order 1: the host's claim of 100 is taken first. -/
theorem test_exchangeUnits_claim :
    leaves race (.exchangeUnits (.host 1) [0x04, 0x00, 0x03, 0x9C])
      (fun t => (answer 1 t, t.lgr.freeUnits, t.lgr.host.claimed, t.lgr.claims.length))
      = some (some [0, 4, 0], 924, 612, 0) := by decide +kernel

/-- The race, order 2: station A's claim of 200 creates its record; the host's then finds 824. -/
theorem test_exchangeUnits_race :
    leaves race (.exchangeUnits (.station 1 5 4) [0x04, 0x00, 0x03, 0x38])
      (fun t => (queued t, t.lgr.claims.map (fun c => c.account.claimed), t.lgr.revision,
        leaves t (.exchangeUnits (.host 1) [0x04, 0x00, 0x03, 0x9C]) (answer 1)))
      = some (some ⟨.done, [4, 0]⟩, [200], 1, some (some [2, 0x03, 0x38])) := by decide +kernel

/-- R46: the host claims channels 3 and 39; the set form of R201. -/
theorem test_exchangeChannels_claim :
    leaves State.reset (.exchangeChannels (.host 1) ([0, 255, 255, 255, 255, 255] ++ [0, 0xF7, 255, 255, 255, 0x7F]))
      (fun t => (answer 1 t, t.lgr.host.held, t.lgr.freeChannels))
      = some (some [0, 0, 255, 255, 255, 255, 255], channels [3, 39], ~~~channels [3, 39]) := by decide +kernel

/-- R46: releasing a channel that the party does not hold is NOT_HELD with it, and nothing changes. -/
theorem test_exchangeChannels_notHeld :
    leaves { State.reset with lgr := { State.reset.lgr with freeChannels := channels [0] } }
      (.exchangeChannels (.host 1) ([1, 1, 0] ++ [1, 2, 0, 9]))
      (fun t => (answer 1 t, t.lgr.freeChannels)) = some (some [6, 0, 0, 2, 0, 0, 0], channels [0]) := by decide +kernel

/-- R48: from a station without QUERY, record and holding, everything but the budget is absent. -/
theorem test_ledgerRead_station :
    leaves { race with rst := { race.rst with known := [⟨0xA, .nothing, some 1⟩] } } (.ledgerRead (.station 1 5 4) [])
      (fun t => (queued t).map (fun r => (r.code, r.body.head?, r.body.drop 45)))
      = some (some (.done, some 0, [6, 0])) := by decide +kernel

/-- R50: a first index beyond the list is BAD_VALUE with N. -/
theorem test_claimList_beyond :
    leaves race (.claimList 1 [2]) (answer 1) = some (some [4, 1]) := by decide +kernel

/-- R50: from index 0, the host record alone: N 1, revision 0, no more, one entry of 19 bytes. -/
theorem test_claimList_host :
    leaves race (.claimList 1 [0]) (fun t => (answer 1 t).map (fun b => (b.take 6, b.length)))
      = some (some ([0, 1, 0, 0, 1, 0], 24)) := by decide +kernel

/-- Before the discard of 8's first worked sequence, as it stands there: G's holding of 300 units and channels 6 and 7 with
stream 4, host 400, H 150, FREE_UNITS 686. -/
def holdingOfG : State :=
  { running with
    lgr := { State.reset.lgr with
      freeUnits := 686, freeChannels := ~~~channels [1, 6, 7, 20], host := ⟨400, 256, channels [1], [(1, 0)]⟩
      claims := [⟨0xA, ⟨150, 150, channels [20], [(20, 11)]⟩⟩]
      holdings := [⟨0x6, 300, channels [6, 7], [⟨4, 200⟩], 32⟩] }
    streams := [stream 0 .host 0x6 1 256 1 (.suspended .absent), stream 4 (.station 0x6) 0x6 6 200 2 (.held .live),
      stream 11 (.station 0xA) 0xA 20 150 1 (.live none)]
    rcu := ⟨true, 256, 254⟩ }

/-- "Host DISCARD_HOLDING(G)": FREE_UNITS 986, stream 4 removed, the window closed, the two reports in order. -/
theorem test_discardHolding :
    leaves holdingOfG (.discardHolding 1 [0, 0, 0, 0, 0, 6])
      (fun t => (answer 1 t, t.lgr.freeUnits, t.streams.map StreamRecord.id))
      = some (some [0, 0x01, 0x2C, 2, 1], 986, [0, 11]) ∧
    leaves holdingOfG (.discardHolding 1 [0, 0, 0, 0, 0, 6])
      (fun t => (t.rcu.isOpen, (reports t).map Prod.fst, channelCount t.lgr.freeChannels))
      = some (false, [.holdingReleased, .reclaimClosed], 38) := by decide +kernel

/-! ### The staging list (chapter 5) -/

/-- 3's second worked example: B holds 300 units, 200 committed to stream 2, and channels 4 and 17; the list's counter
stands at 70. -/
def admission : State :=
  { running with
    lgr := { State.reset.lgr with
      freeUnits := 500
      claims := [⟨0xA, ⟨300, 200, channels [4, 17], [(4, 2)]⟩⟩] }
    streams := [stream 0 .host 0xA 0 256 1 (.live none), stream 2 (.station 0xA) 0xA 4 200 2 (.live none)]
    stg := ⟨[], 70, false⟩ }

/-- The host's ADMIT for owner B on channel 17 with 96 units: bytes by 12's layout. -/
def admitForB : List Byte :=
  [1] ++ [1, 0, 0, 0, 0, 0, 0xA] ++ [0, 0, 0, 0, 0, 0] ++ [17] ++ [0, 96] ++ [1, 0] ++ [0, 0] ++ [0, 0]

/-- "Charge 96 and bind 17: DONE; edit STAGED": B 300 / 296, bound {4: 2, 17: 1}, at the lowest free position. -/
theorem test_admit_staged :
    leaves admission (.admitStream (.host 1) admitForB)
      (fun t => (answer 1 t, t.streams.map StreamRecord.state, t.stg.next))
      = some (some [1, 0, 70, 1, 1, 0], [.live none, .staged, .live none], 71) ∧
    leaves admission (.admitStream (.host 1) admitForB) (fun t => t.lgr.claims.map StationClaim.account)
      = some [⟨300, 296, channels [4, 17], [(4, 2), (17, 1)]⟩] := by decide +kernel

/-- "200 + 96 = 296 exceeds 250; OVER_CLAIM; no bind": body 250 / 200, nothing changes. -/
theorem test_admit_overClaim :
    leaves { admission with lgr := { admission.lgr with claims := [⟨0xA, ⟨250, 200, channels [4, 17], [(4, 2)]⟩⟩] } }
      (.admitStream (.host 1) admitForB) (fun t => (answer 1 t, t.streams.length, t.stg.edits.length))
      = some (some [8, 0, 250, 0, 200], 2, 0) := by decide +kernel

/-- 5's sequence: "Host RETIRE(0)": STAGED with the counter's number. -/
theorem test_retire_staged :
    leaves admission (.retire (.host 1) [0]) (fun t => (answer 1 t, t.stg.edits.map Edit.op))
      = some (some [1, 0, 70, 0, 1, 0], [.retire]) := by decide +kernel

/-- 5's sequence: a RESIZE up by 56 charges 56 at acceptance and is pending on the record. -/
theorem test_resize_up :
    leaves admission (.resize (.station 1 5 4) [2, 1, 0])
      (fun t => (queued t, t.lgr.claims.map (fun c => c.account.committed), t.streams.map StreamRecord.pendingResize))
      = some (some ⟨.staged, [0, 70, 2, 1, 0]⟩, [256], [none, some 256]) := by decide +kernel

/-- 5's sequence: "S RESIZE(2, 160)" meets a pending SUSPEND: PENDING with its number and kind. -/
theorem test_resize_pending :
    leaves { admission with stg := ⟨[⟨73, .host, .suspend, 2, 812⟩], 74, false⟩ } (.resize (.station 1 5 4) [2, 0, 160])
      (fun t => (queued t, t.stg.edits.length)) = some (some ⟨.pending, [0, 73, 0x23]⟩, 1) := by decide +kernel

theorem test_suspend_staged :
    leaves admission (.suspend (.host 1) [2]) (fun t => (answer 1 t, t.stg.edits.map Edit.op))
      = some (some [1, 0, 70, 2, 1, 0], [.suspend]) := by decide +kernel

/-- R94: a RESUME of a LIVE stream is WRONG_STATE. -/
theorem test_resume_wrongState :
    leaves admission (.resume (.host 1) [2]) (fun t => (answer 1 t, t.stg.edits.length)) = some (some [0x11, 2, 0, 0], 0) := by
  decide +kernel

/-- R94: a RESUME of a SUSPENDED stream is STAGED. -/
theorem test_resume_staged :
    leaves { admission with streams := [stream 2 (.station 0xA) 0xA 4 200 2 (.suspended .vacancy)] } (.resume (.host 1) [2])
      (answer 1) = some (some [1, 0, 70, 2, 1, 0]) := by decide +kernel

/-- R106: withdrawing an upward RESIZE uncharges its increase and clears the pending units. -/
theorem test_withdraw_resize :
    leaves { admission with
        lgr := { admission.lgr with claims := [⟨0xA, ⟨300, 256, channels [4, 17], [(4, 2)]⟩⟩] }
        streams := [{ stream 2 (.station 0xA) 0xA 4 200 2 (.live none) with pendingResize := some 256 }]
        stg := ⟨[⟨70, .station 0xA, .resize 256 .up, 2, 812⟩], 71, false⟩ } (.withdraw (.station 1 5 4) [0, 70])
      (fun t => (queued t, t.lgr.claims.map (fun c => c.account.committed), t.streams.map StreamRecord.pendingResize))
      = some (some ⟨.done, [0, 70, 0x22, 2, 0]⟩, [200], [none]) := by decide +kernel

theorem test_freeze_sets : leaves admission (.freeze 1 []) (fun t => (answer 1 t, t.stg.frozen)) = some (some [0, 1, 0], true) := by
  decide +kernel

theorem test_thaw_clears :
    leaves { admission with stg := ⟨[⟨73, .host, .suspend, 2, 812⟩], 74, true⟩ } (.thaw 1 [])
      (fun t => (answer 1 t, t.stg.frozen)) = some (some [0, 0, 1], false) := by decide +kernel

/-! ### Reads (chapters 4, 6 and 7) -/

/-- R85: 39 bytes behind the outcome, the id, the state code and the presence byte first. -/
theorem test_streamRead :
    leaves admission (.streamRead (.host 1) [2]) (fun t => (answer 1 t).map (fun b => (b.take 4, b.length)))
      = some (some ([0, 2, 2, 0], 40)) := by decide +kernel

theorem test_streamList :
    leaves admission (.streamList 1 []) (answer 1) = some (some [0, 2, 0, 2, 0, 0, 2, 2, 1, 4]) := by decide +kernel

/-- 6's reading ahead, before boundary 2,001: streams 1, 2 and 3, cycle 2,000 current. -/
def readingAhead : State :=
  { running with
    csq := { running.csq with lastCycle := some 2000 }
    rst := ⟨5, [station 5 0xA, station 8 0xB, { station 9 0xD with state := .departing .leave 0 }],
      [known 5 0xA, known 8 0xB, known 9 0xD], 0⟩
    streams := [{ stream 1 (.station 0xA) 0xA 4 100 1 (.live none) with stop := some 5, servicesDone := 3 },
      { stream 2 (.station 0xB) 0xB 6 60 2 .waitingStart with phase := 1, start := some 2003 },
      stream 3 .host 0xD 20 40 4 (.live none)] }

/-- Offset 3: target 2,003; stream 1 removed, stream 2 activated at offset 3 with 60 units; open window at 63. -/
theorem test_planRead_ahead :
    leaves readingAhead (.planRead 1 [3, 0]) (answer 1)
      = some (some [0, 1, 1, 7, 0xD3, 2, 0, 1, 3, 1, 2, 6, 8, 0, 3, 0, 60, 0, 0, 63, 0, 0]) := by decide +kernel

/-- Offset 4: empty, since stream 2 is not due; open window at 2. -/
theorem test_planRead_empty :
    leaves readingAhead (.planRead 1 [4, 0]) (answer 1)
      = some (some [0, 1, 1, 7, 0xD4, 2, 0, 0, 2, 0, 0, 0, 2, 0, 0]) := by decide +kernel

/-- R148: the roster: epoch 5, RUNNING, one entry, no more; number 1, tag A, PRESENT, joined in epoch 5 at cycle 0. -/
theorem test_rosterRead :
    leaves running (.rosterRead 1 [0, 0]) (answer 1)
      = some (some [0, 5, 2, 1, 0, 1, 1, 0, 0, 0, 0, 0, 0xA, 0, 0, 0, 5, 0, 0, 0, 0]) := by decide +kernel

/-! ### The roster (chapter 7) -/

/-- R147: a known tag keeps its place; the DONE has its previous rights. -/
theorem test_setRights_known :
    leaves running (.setRights 1 [0, 0, 0, 0, 0, 0xA, 4]) (fun t => (answer 1 t, t.rst.known.map Known.rights))
      = some (some [0, 1, 7, 0, 0, 0, 0, 0, 0], [⟨false, false, true⟩]) := by decide +kernel

/-- R146: EVICT with bar of a PRESENT station: it is told, departs, and its rights become none. -/
theorem test_evict_present :
    leaves admission (.evict 1 [0, 0, 0, 0, 0, 0xA, 1])
      (fun t => (answer 1 t, t.rst.stations.map Station.state, t.rst.known.map Known.rights))
      = some (some [0, 1], [.departing .evict 1], [.nothing]) ∧
    leaves admission (.evict 1 [0, 0, 0, 0, 0, 0xA, 1])
      (fun t => (t.tpt.outbound.length, t.streams.map StreamRecord.state))
      = some (1, [.live none, .retiring .departure]) := by decide +kernel

/-- R144: LEAVE: one stream, 300 units, channels 4 and 17. -/
theorem test_leave :
    leaves admission (.leave 1 5 4 []) (fun t => (queued t, t.rst.stations.map Station.state))
      = some (some ⟨.done, [1, 0x01, 0x2C, 0, 0x10, 0, 2, 0, 0]⟩, [.departing .leave 1]) := by decide +kernel

/-- R143: a JOIN gives the lowest free number, a known-tag entry with the default rights, and STATION_JOINED. -/
theorem test_join_numbers :
    leaves running (.join 0xB 5) (fun t => (t.tpt.outbound, t.rst.stations.map Station.number, (reports t).map Prod.fst))
      = some ([.assign 0xB 2 5], [1, 2], [.stationJoined]) := by decide +kernel

/-- R136: a ROLL_ANSWER of a tag whose last number is free gets it again. -/
theorem test_rollAnswer_lastNumber :
    leaves { running with
        csq := { running.csq with partState := .starting, phase := .none }
        rst := ⟨6, [], [known 7 0xC], 1⟩ } (.rollAnswer 0xC 6) (fun t => t.tpt.outbound)
      = some [.assign 0xC 7 6] := by decide +kernel

theorem test_rollCallPeriod_first :
    leaves { running with csq := { running.csq with partState := .starting, phase := .none }, rst := ⟨6, [], [], 0⟩ }
      .rollCallPeriod (fun t => (t.rst.rollPeriod, t.tpt.sending)) = some (1, some (.rollCall 6 1)) := by decide +kernel

/-- 1's sequence: "Roll call of epoch 8 ends; first boundary": 10 and 12 DONE with epoch 8, RUNNING, cycle 813. -/
theorem test_rollCallEnd :
    leaves { running with
        csq := { running.csq with partState := .starting, phase := .none, startWaiters := [10, 12] }
        rst := ⟨8, [], [], 8⟩
        hlk := { running.hlk with table := [⟨10, 0x06, 2, 0, .waiting⟩, ⟨12, 0x06, 2, 0, .waiting⟩] } } .rollCallEnd
      (fun t => (answer 10 t, answer 12 t, t.csq.partState, t.csq.lastCycle, t.csq.startWaiters))
      = some (some [0, 8, 0, 0], some [0, 8, 0, 0], .running, some 813, []) := by decide +kernel

/-- 1's sequence: "Reset burst from a station" in STARTING: epoch 7, the waiter stays. -/
theorem test_resetBurst :
    leaves { running with csq := { running.csq with partState := .starting, phase := .none, startWaiters := [10] }, rst := ⟨6, [], [], 1⟩ }
      (.resetBurst 16 true) (fun t => (t.rst.epoch, t.csq.partState, t.csq.startWaiters, t.tpt.burst))
      = some (7, .starting, [10], 0) := by decide +kernel

/-- R131: fifteen units are no reset. -/
theorem test_resetBurst_short :
    leaves running (.resetBurst 15 true) (fun t => (t.rst.epoch, t.csq.partState)) = some (5, .running) := by decide +kernel

/-! ### Reclaim (chapter 8) -/

/-- 8's reclaim at the last boundary: K's holding of 96 units, channel 30 and stream 12; 1 cycle remains. -/
def lastBoundary : State :=
  { running with
    csq := { running.csq with lastCycle := some 5199 }
    lgr := { State.reset.lgr with
      freeUnits := 1440, freeChannels := ~~~channels [30], holdings := [⟨0xA, 96, channels [30], [⟨12, 96⟩], 4⟩] }
    streams := [stream 12 (.station 0xA) 0xA 30 96 1 (.held .live)]
    rcu := ⟨true, 512, 1⟩ }

/-- "RECLAIM first": DONE with 96 units, 1 channel, 1 stream; claim record 96 / 96, {30} bound to 12; RECLAIMED, then
RECLAIM_CLOSED(EMPTIED). -/
theorem test_reclaim :
    leaves lastBoundary (.reclaim 1 5 4 [])
      (fun t => (queued t, t.streams.map (fun r => (r.state, r.restoreMark)), t.rcu.isOpen))
      = some (some ⟨.done, [0, 96, 1, 1, 4]⟩, [(.live none, true)], false) ∧
    leaves lastBoundary (.reclaim 1 5 4 []) (fun t => (t.lgr.claims, (reports t).map Prod.fst))
      = some ([⟨0xA, ⟨96, 96, channels [30], [(30, 12)]⟩⟩], [.reclaimed, .reclaimClosed]) := by decide +kernel

/-- 8's table, "Close first": behind the boundary the RECLAIM that waited meets no holding: NOT_HELD with 0 units, behind the
CLAIM_RELEASED notice; no second frame can have waited. -/
theorem test_reclaim_afterBoundary :
    let second (u : State) : Option Nat := leaves u (.ledgerRead (.station 1 5 5) []) (fun v => v.tpt.outbound.length)
    let reply (t : State) : Option (Option Reply × Option Nat) := leaves t (.reclaim 1 5 4 []) (fun u => (queued u, second u))
    leaves lastBoundary (.nominalInstant false) (fun t => t.tpt.outbound)
      = some [.notice 1 0xA 5 false ⟨.claimReleased, [2, 0, 96, 0, 0, 0, 0, 0x40, 0, 1]⟩] ∧
    (leaves lastBoundary (.nominalInstant false) reply = some (some (some ⟨.notHeld, [0, 0]⟩, some 2))) := by decide +kernel

/-- "Boundary first": no record, 96 units free, RECLAIM_CLOSED(EXPIRED, 1, 96, 1, 1, K). -/
theorem test_nominalInstant_closesWindow :
    leaves lastBoundary (.nominalInstant false)
      (fun t => (t.lgr.freeUnits, t.streams.length, t.csq.lastCycle, t.rpu.queue.map ReportRecord.body))
      = some (1536, 0, some 5200, [[0, 1, 0, 96, 1, 1, 1, 0, 0, 0, 0, 0, 0xA]]) := by decide +kernel

/-- R156: the expiry by itself, where the count stands at 0. -/
theorem test_reclaimWindowExpiry :
    leaves { lastBoundary with rcu := ⟨true, 512, 0⟩ } .reclaimWindowExpiry (fun t => (t.lgr.holdings.length, t.rcu.isOpen))
      = some (0, false) := by decide +kernel

/-! ### The cycle (chapters 2 and 6) -/

/-- 2's worked layout: five LIVE streams, before boundary 1,000. -/
def layout : State :=
  { running with
    csq := { running.csq with lastCycle := some 999 }
    rst := ⟨5, [station 2 0xB, station 6 0xF, station 11 0xE], [known 2 0xB, known 6 0xF, known 11 0xE], 0⟩
    streams := [stream 0 .host 0xF 3 200 2 (.live none), stream 2 .host 0xB 30 128 4 (.live none),
      stream 4 .host 0xF 12 96 1 (.live none), stream 5 .host 0xE 1 40 8 (.live none), stream 7 .host 0xB 9 64 1 (.live none)] }

/-- The plan of the worked layout: ids, talkers, offsets and units, and the header's open-window offset 533. -/
theorem test_nominalInstant_layout :
    leaves layout (.nominalInstant false)
      (fun t => (t.csq.plan.map (fun e => (e.stream, e.talker, e.offset, e.units)), t.tpt.sending.map (fun x => match x with
        | .header h => (h.cycle, h.windowOffset, h.timing)
        | _ => (0, 0, .forced))))
      = some ([(7, 2, 5, 64), (4, 6, 69, 96), (0, 6, 165, 200), (2, 2, 365, 128), (5, 11, 493, 40)],
          some (1000, 533, .onTime)) := by decide +kernel

/-- 2's late run: "Busy, quiet at 12 units": LATE, run 1, CYCLE_LATE (3,101, LATE, 12). -/
theorem test_stretchEnd_late :
    leaves { running with csq := { running.csq with lastCycle := some 3100, phase := .stretch } } (.stretchEnd (some 12))
      (fun t => (t.csq.lateRun, reports t, t.csq.lastCycle)) = some (1, [(.cycleLate, [0x0C, 0x1D, 1, 12])], some 3101) := by
  decide +kernel

/-- 2's late run: the eighth in a row is a trunk reset with cause TRUNK_FAULT, and no cycle opens. -/
theorem test_stretchEnd_fault :
    leaves { running with csq := { running.csq with lastCycle := some 3110, phase := .stretch, lateRun := 7 }, rst := { running.rst with epoch := 3 } }
      (.stretchEnd (some 30)) (fun t => (t.csq.partState, t.csq.lateRun, t.rst.epoch, t.csq.lastCycle))
      = some (.starting, 0, 4, some 3110) := by decide +kernel

theorem test_trunkFault :
    leaves { running with csq := { running.csq with phase := .stretch, lateRun := 7 } } .trunkFault
      (fun t => (t.csq.partState, t.rst.epoch)) = some (.starting, 6) := by decide +kernel

/-- 6's overrun: cycle 1,200 with streams 7 and 4 in the plan, vacancy_limit 4. -/
def overrun : State :=
  { running with
    csq := { running.csq with lastCycle := some 1200, phase := .slots }
    cfg := { running.cfg with vacancyLimit := 4 }
    streams := [{ stream 4 .host 0xF 12 96 1 (.live none) with servicesDone := 500, vacantRun := 2, vacantTotal := 10 },
      { stream 7 (.station 0xB) 0xB 9 64 1 (.live none) with servicesDone := 800, vacantTotal := 3, overlongRun := 1 }]
    svw := [⟨⟨7, 9, 2, 3, 64⟩, .pending⟩, ⟨⟨4, 12, 6, 67, 96⟩, .pending⟩] }

/-- The counters of a stream, as 6's sequence shows them. -/
def counters (s : State) (id : Nat) : Option (List Nat) :=
  (s.stream? id).map (fun r => [r.servicesDone, r.vacantRun, r.vacantTotal, r.overlongRun])

/-- The bytes of a SLOT frame from a sender on a channel, with its length field, that runs for `units` units. -/
def slotFrame (sender channel : Byte) (length units : Nat) : List Byte := sealFrame (trunkHead 0x66 sender channel length) units

/-- "Stream 7's slot ends with station 2's frame still on the line": OVERLONG; 801, 0, 3, 2; no mark. -/
theorem test_slotObservation_overlong :
    leaves overrun (.slotObservation (.transmission (slotFrame 2 9 64 64) true))
      (fun t => (counters t 7, (t.stream? 7).map StreamRecord.state, t.svw.map ObsEntry.seen))
      = some (some [801, 0, 3, 2], some (.live none), [.overlong, .pending]) := by decide +kernel

/-- "No opening decoded": VACANT; 501, 3, 11, 0; 3 is below 4, no mark. -/
theorem test_slotObservation_vacant :
    leaves { overrun with svw := [⟨⟨7, 9, 2, 3, 64⟩, .overlong⟩, ⟨⟨4, 12, 6, 67, 96⟩, .pending⟩] } (.slotObservation .nothing)
      (fun t => (counters t 4, (t.stream? 4).map StreamRecord.state)) = some (some [501, 3, 11, 0], some (.live none)) := by
  decide +kernel

theorem test_stopCountReached :
    leaves { readingAhead with streams := [{ stream 1 (.station 0xA) 0xA 4 100 1 (.live none) with stop := some 5, servicesDone := 5 }] }
      (.stopCountReached 1) (fun t => t.streams.map StreamRecord.state) = some [.retiring .stopCount] := by decide +kernel

/-- R21: at the open-window offset the frame at the head begins; it leaves 62 units. -/
theorem test_openWindowShare :
    leaves { running with csq := { running.csq with phase := .slots }, tpt := { running.tpt with outbound := [.assign 0xB 2 5] } }
      (.openWindowShare 1515) (fun t => (t.tpt.share, t.tpt.sending, t.csq.phase))
      = some (some 64, some (.outbound (.assign 0xB 2 5)), .window) := by decide +kernel

/-- 9's sequence: "first frame sent; V's notice moved" from its parked place to the tail. -/
theorem test_outboundFrameSent :
    leaves { running with
        tpt := { running.tpt with
          outbound := [.assign 0xB 2 5], share := some 64, parked := [⟨1, ⟨.editOutcome, [1]⟩⟩] } } .outboundFrameSent
      (fun t => (t.tpt.outbound, t.tpt.parked.length, t.tpt.share))
      = some ([.notice 1 0xA 5 false ⟨.editOutcome, [1]⟩], 0, some 62) := by decide +kernel

/-- R135, R21: with ROLL_CALL sent the share begins with the frame that waits; with none TRK_DIR falls, and answers come. -/
theorem test_outboundFrameSent_call :
    let called (q : List OutFrame) : State := { running with
      csq := { running.csq with partState := .starting, phase := .none }, rst := ⟨6, [], [], 2⟩
      tpt := { running.tpt with outbound := q, sending := some (.rollCall 6 2) } }
    leaves (called [.assign 0xB 2 6]) .outboundFrameSent (fun t => (t.tpt.sending, t.tpt.share, t.answerPortion))
      = some (some (.outbound (.assign 0xB 2 6)), some 64, false) ∧
    leaves (called []) .outboundFrameSent (fun t => (t.trkDir, t.tpt.share, t.answerPortion)) = some (false, none, true) := by
  decide +kernel

/-! ### Requests on the trunk (chapter 9) -/

/-- 9's sequence: "S sends seq 5, STREAM_READ(2)" with 32 frames queued: dropped unexecuted. -/
theorem test_requestFrame_dropped :
    leaves { admission with tpt := { admission.tpt with outbound := List.replicate 32 (.assign 0xB 2 5) } }
      (.requestFrame (requestFrameBytes 1 5 5 0x28 [2])) (fun t => (t.tpt.outbound.length, t.rst.stations.map Station.lastSeq))
      = some (32, [none]) := by decide +kernel

/-- 9's sequence: the same frame with room: DONE, cached, the sequence taken; once more: copied, not executed. -/
theorem test_requestFrame_repeat :
    leaves admission (.requestFrame (requestFrameBytes 1 5 5 0x28 [2]))
      (fun t => (t.tpt.outbound.length, t.rst.stations.map Station.lastSeq,
        leaves t (.requestFrame (requestFrameBytes 1 5 5 0x28 [2])) (fun u => u.tpt.outbound.length)))
      = some (1, [some 5], some 2) := by decide +kernel

/-- R165: a transmission that is discarded leaves no trace. -/
theorem test_trunkTransmissionDiscarded :
    leaves admission (.trunkTransmissionDiscarded .checkFailed) (fun t => decide (t = admission)) = some true := by
  decide +kernel

/-- R131: a pattern that breaks off after 9 units is no burst, and the next 9 units are a new one. -/
theorem test_brokenBurst :
    leaves { running with tpt := { running.tpt with burst := 9 } } (.trunkTransmissionDiscarded .brokenBurst)
      (fun t => leaves t (.resetBurst 9 false) (fun u => (u.tpt.burst, u.csq.partState)))
      = some (some (9, .running)) := by decide +kernel

/-! ### Witnesses: states and operands that meet the hypotheses of each obligation, one for each clause -/

/-- The outcome byte of the reply to the host request with tag 250. -/
def code (s : State) (c : Instr) : Option (Option Byte) := leaves s c (fun t => (answer 250 t).bind List.head?)

/-- The outcome of the newest reply in the outbound queue. -/
def stationCode (s : State) (c : Instr) : Option (Option ResultCode) := leaves s c (fun t => (queued t).map Reply.code)

/-- A state in which every block holds something: RUNNING, station 1 (tag 0xA) present, station 2 (tag 0xB) departing, a
holding for tag 0xC, two edits pending, one report SENT and one WAITING, one reply cached. -/
def whole : State :=
  { running with
    rst := ⟨5, [station 1 0xA, { station 2 0xB with state := .departing .leave 0 }], [known 1 0xA, known 2 0xB, known 3 0xC], 0⟩
    lgr := ⟨1156, ~~~channels [3, 4, 10, 11, 12, 20], ⟨200, 80, channels [3, 4], [(3, 0), (4, 3)]⟩,
      [⟨0xA, ⟨100, 50, channels [10, 11], [(10, 1)]⟩⟩, ⟨0xB, ⟨50, 0, channels [12], []⟩⟩],
      [⟨0xC, 30, channels [20], [⟨2, 30⟩], 4⟩], 3⟩
    streams := [stream 0 .host 0xA 3 64 1 (.live none),
      { stream 1 (.station 0xA) 0xA 10 40 1 (.live none) with pendingResize := some 50 },
      stream 2 (.station 0xC) 0xC 20 30 1 (.held .live), stream 3 .host 0xA 4 16 1 .staged]
    stg := ⟨[⟨7, .host, .admitStream ⟨.host, 0xA, 4, 16, 1, 0, none, none⟩, 3, 812⟩, ⟨8, .station 0xA, .resize 50 .up, 1, 812⟩], 9, false⟩
    rcu := ⟨true, 512, 9⟩
    hlk := { running.hlk with cache := [⟨9, 7, 2, 0x1234, ⟨7, 9, [0]⟩⟩] }
    rpu := { running.rpu with
      queue := [⟨0, .cycleLate, 1, 5, [], .sent .running⟩, ⟨1, .cycleLate, 2, 5, [], .waiting⟩], next := 2 } }

/-- `whole` with a command that opens a cycle. -/
def opening : State := { whole with pending := [.nominalInstant false] }

theorem opening_bounded : opening.bounded := by decide +kernel

/-- The premises of UnitBalanceKept, ChannelPartitionKept, BoundsKept, PartStateKept and ReportOrderKept, with a step. -/
theorem witness_invariants :
    opening.bounded ∧ (opening.lgr.balanced opening.cfg.budget ∧ opening.lgr.partitioned ∧ opening.cfg.valid ∧
      opening.csq.inPlace ∧ opening.windowInPlace ∧ opening.silentInPlace ∧ opening.rpu.inOrder) ∧ ∃ t, step opening = .next t :=
  ⟨opening_bounded, by decide +kernel, _, rfl⟩

theorem opening_resizesInPlace : opening.resizesInPlace := by decide +kernel

theorem opening_accountsInPlace : opening.accountsInPlace :=
  ⟨by decide +kernel, by decide +kernel, by decide +kernel, by decide +kernel⟩

/-- The premises of both parts of RecordsKept, with a step. -/
theorem witness_RecordsKept :
    opening.bounded ∧ (opening.keyed ∧ opening.positioned ∧ opening.channelsApart ∧ opening.heldInPlace ∧
      opening.editsInPlace ∧ opening.stagedInPlace ∧ opening.rosterInPlace ∧ opening.lgr.holdings.length ≤ 32) ∧
    (opening.silentInPlace ∧ opening.claimsInPlace) ∧ opening.resizesInPlace ∧ opening.accountsInPlace ∧
    ∃ t, step opening = .next t :=
  ⟨opening_bounded, by decide +kernel, by decide +kernel, opening_resizesInPlace, opening_accountsInPlace, _, rfl⟩

/-- Every record of `whole` stands in its place. -/
theorem whole_sound :
    whole.keyed ∧ whole.positioned ∧ whole.channelsApart ∧ whole.heldInPlace ∧ whole.editsInPlace ∧ whole.stagedInPlace ∧
    whole.rosterInPlace := by decide +kernel

theorem witness_HostReady : whole.HostReady 250 := by decide +kernel

theorem witness_StationReady : whole.StationReady 1 5 4 (station 1 0xA) ∧ whole.cfg.remoteRequests = true := by decide +kernel

theorem witness_SenderReady :
    whole.SenderReady (.host 250) .host ∧ whole.SenderReady (.station 1 5 4) (.station 0xA) :=
  ⟨⟨witness_HostReady, rfl⟩, station 1 0xA, witness_StationReady.1, rfl, rfl⟩

theorem whole_claims : (whole.lgr.claims.map StationClaim.tag).Nodup := by decide +kernel

/-- The premises of ExchangeUnits, for the host and for a station. -/
theorem premises_ExchangeUnits :
    (whole.SenderReady (.host 250) .host ∧ whole.SenderReady (.station 1 5 4) (.station 0xA)) ∧
    (whole.lgr.claims.map StationClaim.tag).Nodup := ⟨witness_SenderReady, whole_claims⟩

/-- The premises of HoldingDiscarded. -/
theorem premises_HoldingDiscarded : whole.HostReady 250 ∧ whole.keyed ∧ whole.positioned ∧ whole.heldInPlace :=
  ⟨witness_HostReady, whole_sound.1, whole_sound.2.1, whole_sound.2.2.2.1⟩

/-- The premises of StreamEditTaken and, with `goodAdmit.encodable`, of AdmitTaken. -/
theorem premises_StreamEditTaken :
    (whole.SenderReady (.host 250) .host ∧ whole.SenderReady (.station 1 5 4) (.station 0xA)) ∧ whole.positioned ∧
    (whole.lgr.claims.map StationClaim.tag).Nodup ∧ whole.editsInPlace :=
  ⟨witness_SenderReady, whole_sound.2.1, whole_claims, whole_sound.2.2.2.2.1⟩

/-- The premises of WithdrawTaken. -/
theorem premises_WithdrawTaken :
    (whole.SenderReady (.host 250) .host ∧ whole.SenderReady (.station 1 5 4) (.station 0xA)) ∧ whole.positioned ∧
    whole.keyed ∧ whole.editsInPlace ∧ whole.stagedInPlace :=
  ⟨witness_SenderReady, whole_sound.2.1, whole_sound.1, whole_sound.2.2.2.2.1, whole_sound.2.2.2.2.2.1⟩

/-- The premises of StreamsAndRosterRead, and with them those of LedgerReads and PlanRead. -/
theorem premises_StreamsAndRosterRead :
    (whole.SenderReady (.host 250) .host ∧ whole.SenderReady (.station 1 5 4) (.station 0xA)) ∧ whole.positioned ∧
    whole.HostReady 250 := ⟨witness_SenderReady, whole_sound.2.1, witness_HostReady⟩

/-- The premises of TrunkResetShares and of the first part of TrunkResetConvertsClaims. -/
theorem premises_TrunkResetShares :
    whole.positioned ∧ whole.keyed ∧ whole.heldInPlace ∧ whole.editsInPlace ∧ whole.stagedInPlace ∧
    whole.lgr.holdings.length + whole.rst.stations.length ≤ 32 := by decide +kernel

/-- The premises of both parts of LeaveBeginsADeparture. -/
theorem premises_LeaveBeginsADeparture :
    whole.StationReady 1 5 4 (station 1 0xA) ∧ whole.positioned ∧ whole.keyed ∧ whole.editsInPlace ∧ whole.stagedInPlace ∧
    station 1 0xA ∈ whole.rst.stations ∧ (station 1 0xA).state = .present := by decide +kernel

/-- The premises of EvictTaken, and with the known-tag list's bound those of RightsSet. -/
theorem premises_EvictTaken :
    whole.HostReady 250 ∧ whole.keyed ∧ whole.rosterInPlace ∧ whole.rst.known.length ≤ 32 ∧ whole.rst.stations.length ≤ 24 := by
  decide +kernel

/-- The premises of the first two parts of RequestsNotExecuted. -/
theorem premises_RequestsNotExecuted :
    whole.keyed ∧ ([] : List Byte).length ≤ 54 ∧ whole.StationFresh 1 5 4 (station 1 0xA) := by decide +kernel

theorem witness_StepRunsTheFrontCommand : State.reset.pending = [] := rfl

theorem witness_SendableCommandsComplete :
    (wellFormed (.start 1 (List.replicate 248 0)) = true ∧ wellFormed (.start 1 (List.replicate 249 0)) = false) ∧
    (wellFormed (.leave 1 0 0 (List.replicate 54 0)) = true ∧ wellFormed (.leave 1 0 0 (List.replicate 55 0)) = false) ∧
    wellFormed (.stretchEnd (some 1)) = true ∧ wellFormed (.stretchEnd (some 64)) = true := by decide +kernel

theorem witness_ResetsEmptyEveryBlock :
    let s := { whole with hlk := { whole.hlk with sending := some (.reply 9 ⟨5, 9, [0, 2]⟩), resetting := some 9 } }
    s.hlk.sending = some (.reply 9 ⟨5, 9, [0, 2]⟩) ∧ s.hlk.resetting = some 9 := by decide +kernel

/-- `whole` with the framer in ASSEMBLING. -/
def assembling (bytes : List Byte) : State := { whole with hlk := { whole.hlk with framer := .assembling bytes false } }

/-- HUNTING; and in ASSEMBLING a LENGTH of 1, of 251, of 2 and of 250, the byte before the last, and the last byte with a
check that passes and one that fails. -/
theorem witness_EachHostByte :
    whole.hlk.framer = .hunting ∧ (∀ bytes ∈ [[], [2], [2, 7, 9, 0]], (assembling bytes).hlk.takesAnswer) ∧
    leaves (assembling []) (.hostByteReceived ⟨1, false⟩) (fun t => t.hlk.framer) = some .hunting ∧
    leaves (assembling []) (.hostByteReceived ⟨251, false⟩) (fun t => t.hlk.framer) = some .hunting ∧
    leaves (assembling []) (.hostByteReceived ⟨2, false⟩) (fun t => t.hlk.framer) = some (.assembling [2] false) ∧
    leaves (assembling []) (.hostByteReceived ⟨250, false⟩) (fun t => t.hlk.framer) = some (.assembling [250] false) ∧
    (let check := checkBytes (frameCheck [2, 7, 250])
     let last (b : Byte) : Instr := .hostByteReceived ⟨b, false⟩
     code (assembling ([2, 7, 250] ++ check.take 1)) (last (check.getD 1 0)) = some (some 0) ∧
     code (assembling ([2, 7, 250] ++ check.take 1)) (last (check.getD 1 0 + 1)) = some none) := by decide +kernel

/-- `whole` with so many answers waiting and so many lost before. -/
def answering (n lost : Nat) : State :=
  { whole with hlk := { whole.hlk with framer := .assembling [] false, answers := List.replicate n ⟨7, 5, [0x13]⟩, overrun := lost } }

theorem witness_TimeoutAndOverrun :
    (∀ bytes ∈ [[], [7], [7, 3], [7, 3, 9]], (assembling bytes).hlk.takesAnswer) ∧
    (∀ x ∈ [(8, 255), (7, 0), (7, 1), (6, 255)], (answering x.1 x.2).hlk.resetting = none) ∧
    leaves (answering 8 255) .interByteTimeout (fun t => (t.hlk.answers.length, t.hlk.overrun)) = some (8, 255) ∧
    leaves (answering 7 0) .interByteTimeout (fun t => (t.hlk.answers.length, t.hlk.overrun)) = some (8, 0) ∧
    leaves (answering 7 1) .interByteTimeout (fun t => (t.hlk.answers.length, t.hlk.overrun)) = some (8, 1) ∧
    leaves (answering 6 255) .interByteTimeout (fun t => (t.hlk.answers.length, t.hlk.overrun)) = some (8, 0) := by
  decide +kernel

theorem witness_HostFrameIsItsRequest :
    whole.hlk.framer = .hunting ∧ (List.replicate 248 (0 : Byte)).length ≤ 248 ∧ (hostRows 250 []).length = 27 := by
  decide +kernel

/-- `whole` with so many entries in the table. -/
def outstanding (n : Nat) : State :=
  { whole with hlk := { whole.hlk with table := (List.range n).map (fun i => ⟨byteOf (20 + i), 0x03, 2, 0, .waiting⟩) } }

/-- Tag 0; the cached tag 9 with the cached kind, length and check, and with another check; tag 20 in the table; tag 250
with four entries; kind 0x18 with three. -/
theorem witness_FramesThatAreNotTaken :
    (∀ n ∈ [0, 3, 4], (outstanding n).hlk.framer = .hunting ∧ (outstanding n).keyed ∧ (outstanding n).hlk.takesAnswer) ∧
    (∃ e ∈ whole.hlk.cache, e.tag = 9 ∧ e.kind = 7 ∧ e.length = 2 ∧ e.check ≠ hostCheck 7 9 []) ∧
    (∃ e ∈ [(⟨9, 7, 2, hostCheck 7 9 [], ⟨7, 9, [0]⟩⟩ : CacheEntry)], e.kind = 7 ∧ e.length = 2 ∧ e.check = hostCheck 7 9 []) ∧
    (∃ e ∈ (outstanding 4).hlk.table, e.tag = 20) ∧ (∀ e ∈ (outstanding 4).hlk.table, e.tag ≠ 250) ∧
    (outstanding 3).hlk.table.length < 4 ∧ (∀ row ∈ hostRows 250 [], row.1.code ≠ 0x18) := by decide +kernel

/-- `whole` with a queue of report records in these states. -/
def reporting (states : List RecordState) : State :=
  { whole with
    rpu := { whole.rpu with
      queue := states.zipIdx.map (fun x => ⟨byteOf x.2, .cycleLate, 0, 5, [], x.1⟩), next := byteOf states.length } }

/-- HTX busy; a reply first; an answer first; RESET taken; a due record ahead of a WAITING one; the fourth record as the
oldest WAITING one; four SENT; none WAITING. -/
theorem witness_TransmitterTakesNext :
    let first (s : State) : Option (Option HtxSending) := leaves s (.trunkTransmissionDiscarded .tooLong) (fun t => t.hlk.sending)
    let f : HostFrame := ⟨7, 250, [0]⟩
    let sent : RecordState := .sent .running
    (∀ l ∈ [[sent, .sent .due, .waiting], [sent, sent, sent, .waiting], [sent, sent, sent, sent, .waiting], [sent]],
      (reporting l).keyed ∧ (reporting l).rpu.inOrder) ∧
    first { whole with hlk := { whole.hlk with table := [⟨250, 7, 2, 0, .answered f⟩], order := [.reply 250] } }
      = some (some (.reply 250 f)) ∧
    first { whole with hlk := { whole.hlk with answers := [f], order := [.answer] } } = some (some (.answer f)) ∧
    first { whole with hlk := { whole.hlk with resetting := some 3 } } = some none ∧
    first (reporting [sent, .sent .due, .waiting]) = some (some (.report 1 ⟨0x40, 0, [1, 11, 0, 0, 5]⟩)) ∧
    first (reporting [sent, sent, sent, .waiting]) = some (some (.report 3 ⟨0x40, 0, [3, 11, 0, 0, 5]⟩)) ∧
    first (reporting [sent, sent, sent, sent, .waiting]) = some none ∧ first (reporting [sent]) = some none := by
  decide +kernel

/-- A cache of 7 and of 8 entries; the other three rows need no more than the frame on HTX. -/
theorem witness_SendingsEnd :
    let e : TableEntry := ⟨250, 7, 2, 0, .answered ⟨7, 250, [0]⟩⟩
    let s (n : Nat) : State := { whole with hlk := { whole.hlk with
      table := [e], sending := some (.reply 250 ⟨7, 250, [0]⟩)
      cache := (List.range n).map (fun i => ⟨byteOf (i + 1), 7, 2, 0, ⟨7, byteOf (i + 1), [0]⟩⟩) } }
    ((s 7).keyed ∧ (s 8).keyed ∧ e ∈ (s 8).hlk.table ∧ (s 8).hlk.resetting ≠ some e.tag) ∧
    leaves (s 7) (.replySent false false) (fun t => t.hlk.cache.length) = some 8 ∧
    leaves (s 8) (.replySent false false) (fun t => t.hlk.cache.length) = some 8 ∧
    whole.rpu.inOrder := by decide +kernel

/-- A mask with the kind on and off, 23 and 24 records; an acknowledgement of the fourth SENT record with the marker set
and clear, of a WAITING one, and with nothing SENT. -/
theorem witness_ReportsOfferedAndAcknowledged :
    let four : List RecordState := List.replicate 4 (.sent .running) ++ List.replicate 20 .waiting
    let s (m : Bool) : State := { reporting four with rpu := { (reporting four).rpu with marker := m, lost := if m then 2 else 0 } }
    whole.rpu.mask.getLsbD (ReportKind.cycleLate.code - 1) = true ∧ (0x800#12).getLsbD (ReportKind.cycleLate.code - 1) = false ∧
    (reporting four).rpu.queue.length = 24 ∧ (reporting (four.drop 1)).rpu.queue.length = 23 ∧
    ((s true).HostReady 250 ∧ (s true).rpu.inOrder ∧ (s false).rpu.inOrder) ∧
    leaves (s true) (.reportAck 250 [3]) (answer 250) = some (some [0, 4, 21]) ∧
    leaves (s false) (.reportAck 250 [3]) (answer 250) = some (some [0, 4, 20]) ∧
    leaves (s true) (.reportAck 250 [4]) (answer 250) = some (some [4, 3, 0, 3]) ∧
    leaves (reporting [.waiting]) (.reportAck 250 [0]) (answer 250) = some (some [4, 0, 0, 0]) := by decide +kernel

/-- The premises for a station; with remote requests off LEAVE alone. ADMIT with 7 bytes, presence byte 16, an owner byte 2,
an owner of the host with a tag, 22 bytes; EXCHANGE_CHANNELS with a set form of 2, a list of 41 channels, no second set;
ROSTER_READ with a filter of 2 and with no index; SET_RIGHTS with rights 8; EVICT with a bar of 2. -/
theorem witness_BodiesThatDoNotDecode_more :
    let admitting (presence owner : Byte) (n : Nat) : Instr :=
      .admitStream (.host 250) (presence :: owner :: 1 :: List.replicate n 0)
    let no (c : Instr) (field : Byte) : Prop := leaves whole c (answer 250) = some (some [4, field])
    stationCode whole (.leave 1 5 4 [0]) = some (some .badValue) ∧
    stationCode { whole with cfg := { whole.cfg with remoteRequests := false } } (.leave 1 5 4 [0]) = some (some .badValue) ∧
    stationCode whole (.retire (.station 1 5 4) []) = some (some .badValue) ∧
    (no (admitting 0 0 4) 1 ∧ code whole (admitting 16 0 20) = some (some 4) ∧ no (admitting 1 2 20) 1 ∧
      no (admitting 1 0 20) 1 ∧ no (admitting 0 0 19) 8 ∧ no (admitting 0 0 5) 2) ∧
    (no (.exchangeChannels (.host 250) [2]) 1 ∧ no (.exchangeChannels (.host 250) (1 :: 41 :: List.replicate 41 0)) 1 ∧
      no (.exchangeChannels (.host 250) [1, 0]) 2) ∧
    (no (.rosterRead 250 [2, 0]) 1 ∧ no (.rosterRead 250 [1]) 2) ∧
    no (.setRights 250 (tagBytes 1 ++ [8])) 2 ∧ no (.evict 250 (tagBytes 1 ++ [2])) 2 := by decide +kernel

/-- EXCHANGE_UNITS with bodies that end within field 1, before field 2, within field 2, and beyond the layout. -/
theorem witness_BodiesThatDoNotDecode :
    whole.HostReady 250 ∧
    (∃ row ∈ plainRows 250 [], row.sizes = [2, 2] ∧ (row.sizes.take 0).sum ≤ 1 ∧ 1 < (row.sizes.take 1).sum ∧
      (row.sizes.take 1).sum ≤ 2 ∧ 3 < (row.sizes.take 2).sum ∧ row.sizes.sum < 5) ∧
    leaves whole (.exchangeUnits (.host 250) [0]) (answer 250) = some (some [4, 1]) ∧
    leaves whole (.exchangeUnits (.host 250) [0, 0]) (answer 250) = some (some [4, 2]) ∧
    leaves whole (.exchangeUnits (.host 250) [0, 0, 0]) (answer 250) = some (some [4, 2]) := by decide +kernel

/-- All seven fields, each at an end of its range. -/
theorem witness_ConfigureSetsItsFields :
    let fields : List ConfigField := [⟨7, 0x800⟩, ⟨1, 1792⟩, ⟨2, 64⟩, ⟨3, 0⟩, ⟨4, 8⟩, ⟨5, 1⟩, ⟨6, 7⟩]
    whole.HostReady 250 ∧ (fields.map ConfigField.field).Nodup ∧ (∀ f ∈ fields, f.legal) ∧
    whole.lgr.claimedTotal + whole.lgr.holdingTotal ≤ 380 ∧ (∀ f ∈ [ConfigField.mk 1 380, ⟨2, 4096⟩, ⟨3, 255⟩, ⟨4, 1⟩, ⟨7, 0xFFF⟩], f.legal) ∧
    code whole (.configure 250 (fields.map ConfigField.bytes).flatten) = some (some 0) ∧
    code whole (.configure 250 [1, 0x01, 0x7C]) = some (some 0) := by decide +kernel

/-- A field twice; identifiers 0 and 8; reclaim_window 63 and 4,097; a budget of 379 against 380. -/
theorem witness_ConfigureRefused :
    (∀ f ∈ [ConfigField.mk 3 1, ⟨3, 2⟩, ⟨2, 63⟩, ⟨2, 4097⟩, ⟨1, 379⟩], f.encodable) ∧
    ¬ (ConfigField.mk 2 63).legal ∧ ¬ (ConfigField.mk 2 4097).legal ∧ (ConfigField.mk 1 379).legal :=
  ⟨by simp [ConfigField.encodable], by decide, by decide, by decide⟩

theorem witness_ConfigureRefused_outcomes :
    let x (body : List Byte) : Option (Option (List Byte)) := leaves whole (.configure 250 body) (answer 250)
    (x [3, 1, 3, 2] = some (some [4, 3]) ∧ x [3, 1, 0] = some (some [4, 0]) ∧ x [8] = some (some [4, 8])) ∧
    (x [3, 1, 3, 2, 1, 0] = some (some [4, 1]) ∧ x [3] = some (some [4, 3]) ∧ x [5, 2] = some (some [4, 5]) ∧
      x [6, 8] = some (some [4, 6])) ∧
    x [2, 0, 63] = some (some [4, 2]) ∧ x [2, 0x10, 1] = some (some [4, 2]) ∧
    x [1, 0x01, 0x7B] = some (some [7, 0x01, 0x7C]) := by decide +kernel

theorem witness_WaitersAreAnswered :
    ((outstanding 4).hlk.table.map TableEntry.tag).Nodup ∧ [(22 : Byte), 20].Nodup ∧
    (∀ t ∈ [(22 : Byte), 20], ∃ e ∈ (outstanding 4).hlk.table, e.tag = t ∧ e.state = .waiting) := by decide +kernel

/-- `whole` in another part state, with halt waiters. -/
def inState (p : PartState) (halts : List Byte) : State :=
  { whole with csq := { whole.csq with partState := p, haltWaiters := halts, phase := if p = .running then .window else .none } }

theorem witness_StartAndTrunkResetTaken :
    (∀ p ∈ [PartState.quiescent, .starting, .running, .halted], (inState p []).HostReady 250) ∧
    (inState .running [13]).HostReady 250 ∧
    leaves (inState .halted []) (.start 250 []) (fun t => t.csq.partState) = some .starting ∧
    code (inState .starting []) (.start 250 []) = some (some 0x11) ∧
    code (inState .quiescent []) (.trunkReset 250 []) = some (some 0x12) ∧
    leaves (inState .running []) (.trunkReset 250 []) (fun t => t.csq.partState) = some .starting ∧
    leaves (inState .running [13]) (.trunkReset 250 []) (fun t => t.csq.partState) = some .halted := by decide +kernel

theorem witness_HaltTaken :
    (∀ p ∈ [PartState.quiescent, .starting, .running, .halted], (inState p []).HostReady 250) ∧
    leaves { whole with csq := { whole.csq with phase := .stretch } } (.halt 250 []) (fun t => t.csq.partState) = some .halted ∧
    leaves whole (.halt 250 []) (fun t => t.csq.partState) = some .running := by decide +kernel

theorem witness_ResetTaken :
    (outstanding 3).HostReady 250 ∧ { whole.hlk with resetting := some 9 }.resetting.isSome = true := by decide +kernel

/-- In turn: no right; above the budget by one; a mismatch; a read; a claim of all; more than claimed by one; more than
uncommitted by one; all that is uncommitted. -/
theorem witness_ExchangeUnits :
    (whole.lgr.claims.map StationClaim.tag).Nodup ∧
    (let x (n : Nat) : Instr := .exchangeUnits (.host 250) (be16 1156 ++ be16 n)
     code whole (x 1537) = some (some 4) ∧ code whole (x 1156) = some (some 0) ∧ code whole (x 0) = some (some 0) ∧
     code whole (x (1156 + 201)) = some (some 6) ∧ code whole (x (1156 + 121)) = some (some 7) ∧
     code whole (x (1156 + 120)) = some (some 0)) ∧
    code whole (.exchangeUnits (.host 250) (be16 1155 ++ be16 1000)) = some (some 2) ∧
    stationCode { whole with rst := { whole.rst with known := [⟨0xA, ⟨false, true, true⟩, some 1⟩] } }
      (.exchangeUnits (.station 1 5 4) (be16 1156 ++ be16 1000)) = some (some .notPermitted) := by decide +kernel

theorem namesChannels_list (l : List Byte) (h : l.length ≤ 40) :
    namesChannels (1 :: byteOf l.length :: l) (l.map BitVec.toNat) := .inr ⟨l, h, rfl, rfl⟩

/-- In turn: channel 40; a mismatch; a read; a channel not held; a bound one; a claim and a release at once. -/
theorem witness_ExchangeChannels :
    namesChannels [1, 1, 39] [39] ∧ namesChannels [1, 0] [] ∧
    bodyFits (.host 250) ([1, 1, 39] ++ [1, 0]) = true ∧
    (let s : State := { whole with lgr := { whole.lgr with freeChannels := channels [39] } }
     let x (l : List Byte) : Instr := .exchangeChannels (.host 250) ([1, 1, 39] ++ 1 :: byteOf l.length :: l)
     code s (x [40]) = some (some 4) ∧ code whole (x []) = some (some 2) ∧ code s (x [39]) = some (some 0) ∧
     code s (x [10]) = some (some 6) ∧ code s (x [3]) = some (some 7) ∧
     code { s with lgr := { s.lgr with host := ⟨200, 80, channels [3, 4], [(3, 0)]⟩ } } (x [4]) = some (some 0)) :=
  ⟨namesChannels_list [39] (by decide), namesChannels_list [] (by decide), by decide +kernel, by decide +kernel⟩

/-- A station with QUERY, and the host; first indexes 4 and 5 of a list of 4. -/
theorem witness_LedgerReads :
    code whole (.ledgerRead (.host 250) []) = some (some 0) ∧ stationCode whole (.ledgerRead (.station 1 5 4) []) = some (some .done) ∧
    whole.claimEntries.length = 4 ∧ code whole (.claimList 250 [4]) = some (some 0) ∧
    code whole (.claimList 250 [5]) = some (some 4) := by decide +kernel

theorem witness_HoldingDiscarded :
    (∃ h ∈ whole.lgr.holdings, h.tag = 0xC ∧ whole.lgr.holdings = [h]) ∧ (∀ h ∈ whole.lgr.holdings, h.tag ≠ 0xA) ∧
    code whole (.discardHolding 250 (tagBytes 0xC)) = some (some 0) ∧
    code whole (.discardHolding 250 (tagBytes 0xA)) = some (some 6) := by decide +kernel

/-- An ADMIT of a host stream on a held and free channel 4, before its other arguments are spoilt one by one. -/
def goodAdmit : AdmitRequest := ⟨some .host, some 0xA, 11, 50, 4, 3, some 819, some 1⟩

/-- `whole` with room on the host's account and channels 3, 4 and 11. -/
def roomy : State :=
  { whole with lgr := { whole.lgr with host := ⟨200, 80, channels [3, 4, 11], [(3, 0), (4, 3)]⟩ } }

/-- Each check of R91 to R97 in turn, at an end of its range. -/
theorem witness_AdmitTaken :
    goodAdmit.encodable ∧ roomy.positioned ∧ roomy.editsInPlace ∧
    (let x (a : AdmitRequest) : Option (Option Byte) := code roomy (.admitStream (.host 250) a.bytes)
     (x { goodAdmit with owner := none } = some (some 4) ∧ x { goodAdmit with talker := none } = some (some 4) ∧
      x { goodAdmit with channel := 40 } = some (some 4) ∧ x { goodAdmit with units := 1 } = some (some 4) ∧
      x { goodAdmit with units := 513 } = some (some 4) ∧ x { goodAdmit with period := 3 } = some (some 4) ∧
      x { goodAdmit with phase := 4 } = some (some 4) ∧ x { goodAdmit with stop := some 0 } = some (some 4)) ∧
     x { goodAdmit with start := some 820 } = some (some 5) ∧
     x { goodAdmit with owner := some (.station 0xB), talker := none } = some (some 0x10) ∧
     x { goodAdmit with channel := 20 } = some (some 9) ∧ x { goodAdmit with units := 121 } = some (some 8) ∧
     x { goodAdmit with channel := 39 } = some (some 6) ∧ x { goodAdmit with units := 120 } = some (some 1)) ∧
    stationCode whole (.admitStream (.station 1 5 4) { goodAdmit with owner := none, talker := none, channel := 39 }.bytes)
      = some (some .notHeld) := by decide +kernel

/-- The full table and the full list of AdmitTaken: 40 records, 16 edits. -/
theorem witness_AdmitTaken_full :
    code { roomy with streams := (List.range 40).map (fun i => stream i .host 0xA (i + 40) 2 1 (.suspended .owner)), stg := ⟨[], 9, false⟩ }
      (.admitStream (.host 250) goodAdmit.bytes) = some (some 0x0A) ∧
    code { roomy with stg := { roomy.stg with edits := (List.range 16).map (fun i => ⟨BitVec.ofNat 16 (i + 20), .host, .retire, 30, 0⟩) } }
      (.admitStream (.host 250) goodAdmit.bytes) = some (some 0x0B) := by decide +kernel

/-- Each check of a stream edit in turn: a station's right, id 40, 513 units, another's stream, no stream, a HELD one, one
with an edit pending, a full list, an increase beyond the claim by one; then one accepted. -/
theorem witness_StreamEditTaken :
    let full : List Edit := (List.range 16).map (fun i => ⟨BitVec.ofNat 16 (i + 20), .host, .retire, 30, 0⟩)
    stationCode { whole with rst := { whole.rst with known := [⟨0xA, ⟨true, false, true⟩, some 1⟩] } } (.retire (.station 1 5 4) [1])
      = some (some .notPermitted) ∧
    code whole (.retire (.host 250) [40]) = some (some 4) ∧ code whole (.resize (.host 250) [0, 2, 1]) = some (some 4) ∧
    stationCode whole (.suspend (.station 1 5 4) [0]) = some (some .notPermitted) ∧
    code whole (.suspend (.host 250) [39]) = some (some 0x0D) ∧ code whole (.resume (.host 250) [2]) = some (some 0x11) ∧
    code whole (.retire (.host 250) [1]) = some (some 0x0C) ∧
    code { whole with stg := { whole.stg with edits := full } } (.retire (.host 250) [0]) = some (some 0x0B) ∧
    code whole (.resize (.host 250) [0, 0, 64 + 121]) = some (some 8) ∧
    code whole (.resize (.host 250) [0, 0, 64 + 120]) = some (some 1) := by decide +kernel

theorem witness_WithdrawTaken :
    stationCode { whole with rst := { whole.rst with known := [⟨0xA, ⟨true, false, true⟩, some 1⟩] } } (.withdraw (.station 1 5 4) [0, 8])
      = some (some .notPermitted) ∧
    code whole (.withdraw (.host 250) [0, 0]) = some (some 4) ∧ code whole (.withdraw (.host 250) [0, 9]) = some (some 0x0E) ∧
    stationCode whole (.withdraw (.station 1 5 4) [0, 7]) = some (some .notPermitted) ∧
    code whole (.withdraw (.host 250) [0, 7]) = some (some 0) ∧ code whole (.withdraw (.host 250) [0, 8]) = some (some 0) := by
  decide +kernel

theorem witness_FreezeAndThaw :
    whole.HostReady 250 ∧ { whole with stg := { whole.stg with frozen := true } }.stg.frozen = true := by decide +kernel

/-- Each operation meets a record that it applies to and one that it does not; start cycles at distances 0, 32,767 and
32,768. -/
theorem witness_EditCommitted :
    whole.positioned ∧
    (∀ r ∈ whole.streams, r.id = 3 → r.state = .staged) ∧ (∃ r ∈ whole.streams, r.id = 3 ∧ r.talker = 0xA) ∧
    (let o (op : EditOp) (id : Nat) : EditOutcome := (whole.commitEdit 813 ⟨7, .host, op, id, 0⟩).2
     o .retire 0 = .applied ∧ o .retire 2 = .stale ∧ o (.resize 64 .same) 0 = .applied ∧ o (.resize 64 .same) 2 = .stale ∧
     o .suspend 0 = .applied ∧ o .suspend 2 = .stale ∧ o .resume 0 = .stale) ∧
    (let s (start : Option Cycle) (talker : Tag) : State :=
       { whole with streams := [{ stream 0 .host talker 3 64 1 (.suspended .owner) with start := start }] }
     let o (start : Option Cycle) (talker : Tag) : EditOutcome × List StreamState :=
       let r := (s start talker).commitEdit 813 ⟨7, .host, .resume, 0, 0⟩
       (r.2, r.1.streams.map StreamRecord.state)
     o none 0xA = (.applied, [.live none]) ∧ o (some 813) 0xA = (.applied, [.live none]) ∧
     o (some (813 + 32767)) 0xA = (.applied, [.waitingStart]) ∧ o (some (813 + 32768)) 0xA = (.lateStart, [.live none]) ∧
     o none 0xB = (.applied, [.suspended .absent])) := by decide +kernel

/-- Edits from the host and from a station, for the host's stream and for a station's; an empty list. -/
theorem witness_CommitTakesFromTheHead :
    whole.stg.frozen = false ∧ whole.editsInPlace ∧ 1 ≤ whole.cfg.commitLimit ∧
    whole.stg.edits.map Edit.submitter = [.host, .station 0xA] ∧ (whole.streams.map StreamRecord.id).Nodup ∧
    { whole with stg := ⟨[], 9, false⟩ }.editsInPlace := by decide +kernel

/-- Id 40; no record with and without QUERY; a station's own record without QUERY, and another's; list positions 2 and 3 of
a roster of 2. -/
theorem witness_StreamsAndRosterRead :
    let blind : State := { whole with rst := { whole.rst with known := [⟨0xA, ⟨true, true, false⟩, some 1⟩] } }
    code whole (.streamRead (.host 250) [40]) = some (some 4) ∧ code whole (.streamRead (.host 250) [39]) = some (some 0x0D) ∧
    stationCode blind (.streamRead (.station 1 5 4) [39]) = some (some .notPermitted) ∧
    stationCode blind (.streamRead (.station 1 5 4) [1]) = some (some .done) ∧
    stationCode blind (.streamRead (.station 1 5 4) [0]) = some (some .notPermitted) ∧
    code whole (.rosterRead 250 [0, 2]) = some (some 0) ∧ code whole (.rosterRead 250 [0, 3]) = some (some 4) ∧
    code whole (.rosterRead 250 [1, 3]) = some (some 0) := by decide +kernel

/-- A record on an account, a HELD one, and one of each kind of owner. -/
theorem witness_RecordRemovedAndAnnounced :
    whole.positioned ∧ whole.streams.map (fun r => (r.id, r.isHeld)) = [(0, false), (1, false), (2, true), (3, false)] ∧
    whole.streams.map StreamRecord.owner = [.host, .station 0xA, .station 0xC, .host] := by decide +kernel

/-- A boundary that removes two RETIRING records, each with an edit of the host for a station's stream and one of a station:
the report, the notices to a PRESENT station, then the departure of station 2. -/
theorem witness_RecordRemovedAndAnnounced_removals :
    let s : State := { whole with
      streams := whole.streams.map (fun r => if r.id = 0 ∨ r.id = 1 then { r with state := .retiring .departure } else r)
      stg := ⟨[⟨7, .station 0xA, .suspend, 0, 812⟩, ⟨8, .host, .suspend, 1, 812⟩], 9, false⟩ }
    s.positioned ∧ (s.removals.streams.map StreamRecord.id, s.removals.stg.edits.length) = ([2, 3], 0) ∧
    (s.removals.rpu.queue.drop 2).map ReportRecord.kind
      = [.streamChanged, .streamChanged, .editsDiscarded, .stationLeft] ∧
    s.removals.tpt.outbound.length = 3 := by decide +kernel

/-- No other hypothesis than what each clause names: two LIVE records, distinct channels. -/
theorem witness_SlotsLieEndToEnd :
    whole.positioned ∧ whole.channelsApart ∧ (whole.slotList 813).map SlotEntry.offset = [3, 67] := by decide +kernel

theorem witness_NominalInstant :
    (whole.csq.partState = .running ∧ whole.csq.phase ≠ .stretch ∧ whole.csq.haltWaiters = []) ∧
    leaves (inState .halted []) (.nominalInstant false) (fun t => t.csq.partState) = some .halted ∧
    leaves (inState .running [13]) (.nominalInstant true) (fun t => t.csq.partState) = some .halted ∧
    leaves whole (.nominalInstant true) (fun t => t.csq.phase) = some .stretch := by decide +kernel

/-- A stretch of 1 unit and of 64, the line still busy at 64; late runs 0, 6 and 7; and no stretch. -/
theorem witness_StretchEnds :
    let s (run : Nat) : State := { whole with csq := { whole.csq with phase := .stretch, lateRun := run } }
    (∀ q ∈ [some 1, some 64, none], stretchFits q = true) ∧ (s 0).csq.haltWaiters = [] ∧
    leaves (s 0) (.stretchEnd (some 1)) (fun t => t.csq.lateRun) = some 1 ∧
    leaves (s 6) (.stretchEnd none) (fun t => t.csq.lateRun) = some 7 ∧
    leaves (s 7) (.stretchEnd (some 64)) (fun t => t.csq.partState) = some .starting ∧
    leaves whole (.stretchEnd (some 1)) (fun t => t.csq.lateRun) = some 0 := by decide +kernel

/-- The second of the two slots of `overrun` is next, with this record as the only one. -/
def secondSlot (r : StreamRecord) : State :=
  { overrun with streams := [r], svw := [⟨⟨7, 9, 2, 3, 64⟩, .served⟩, ⟨⟨4, 12, 6, 67, 96⟩, .pending⟩] }

/-- How its observation judges that slot, and what becomes of the record's state. -/
def observed (r : StreamRecord) (seen : SlotSeen) : Option (List Observation × List StreamState) :=
  leaves (secondSlot r) (.slotObservation seen) (fun t => (t.svw.map ObsEntry.seen, t.streams.map StreamRecord.state))

/-- Each way a slot can be judged: a whole frame; a length field of a unit more; a failed check; 7 and 8 bytes of a
transmission that runs on; another sender. -/
theorem witness_SlotsObservedAndCounted_judged :
    let r : StreamRecord := stream 4 .host 0xF 12 96 1 (.live none)
    let o (bytes : List Byte) (busy : Bool) := (observed r (.transmission bytes busy)).map Prod.fst
    ((secondSlot r).csq.partState = .running ∧ (secondSlot r).csq.phase = .slots ∧ (secondSlot r).positioned) ∧
    o (slotFrame 6 12 2 2) false = some [.served, .served] ∧ o (slotFrame 6 12 3 2) false = some [.served, .vacant] ∧
    o ((slotFrame 6 12 2 2).dropLast ++ [0]) false = some [.served, .vacant] ∧
    o ((slotFrame 6 12 2 2).take 7) true = some [.served, .vacant] ∧
    o ((slotFrame 6 12 2 2).take 8) true = some [.served, .overlong] ∧
    o (slotFrame 5 12 2 2) true = some [.served, .vacant] := by decide +kernel

/-- A stream no longer LIVE, the vacant run that reaches the limit, the third overlong one, and the service that reaches
the stop count. -/
theorem witness_SlotsObservedAndCounted :
    let r : StreamRecord := stream 4 .host 0xF 12 96 1 (.live none)
    let o := observed
    o { r with vacantRun := 3 } .nothing = some ([.served, .vacant], [.live (some .vacancy)]) ∧
    o { r with overlongRun := 2 } (.transmission (slotFrame 6 12 2 2) true)
      = some ([.served, .overlong], [.live (some .overlong)]) ∧
    o { r with stop := some 1 } (.transmission (slotFrame 6 12 2 2) false)
      = some ([.served, .served], [.retiring .stopCount]) ∧
    o { r with state := .suspended .owner } .nothing = some ([.served, .uncounted], [.suspended .owner]) := by decide +kernel

/-- Offsets 0, 15 and 16; first indexes 2 and 3 of the two slots of the projected plan. -/
theorem witness_PlanRead :
    code whole (.planRead 250 [0, 0]) = some (some 0) ∧ code whole (.planRead 250 [15, 0]) = some (some 0) ∧
    code whole (.planRead 250 [16, 0]) = some (some 4) ∧ code whole (.planRead 250 [1, 2]) = some (some 0) ∧
    code whole (.planRead 250 [1, 3]) = some (some 4) := by decide +kernel

/-- 32 holdings, of which this trunk reset has touched the oldest. -/
def crowded : State :=
  { whole with
    lgr := { whole.lgr with
      freeUnits := 0
      holdings := (List.range 32).map (fun i => ⟨BitVec.ofNat 48 (100 + i), 1, 0, [], 4⟩) }
    streams := whole.streams.filter (fun r => r.id != 2) }

theorem witness_TrunkResetConvertsClaims_overflow :
    crowded.positioned ∧ crowded.keyed ∧ crowded.heldInPlace ∧ (crowded.lgr.account? (.station 0xA)).isSome = true ∧
    (∀ x ∈ crowded.lgr.holdings, x.tag ≠ 0xA) ∧ crowded.lgr.holdings.length = 32 ∧
    crowded.lgr.holdings = crowded.lgr.holdings.take 1 ++ ⟨101, 1, 0, [], 4⟩ :: crowded.lgr.holdings.drop 2 ∧
    (∀ x ∈ crowded.lgr.holdings.take 1, x.tag ∈ [(100 : Tag)]) ∧ (101 : Tag) ∉ [(100 : Tag)] := by decide +kernel

/-- The premises of the second part of TrunkResetShares where 32 holdings exist and a claim record is to convert, with an edit
for a station's stream; and, with the oldest holding for a station of the roster, each case of one conversion. -/
theorem witness_TrunkResetShares_overflow :
    crowded.positioned ∧ crowded.keyed ∧ crowded.heldInPlace ∧ crowded.editsInPlace ∧ crowded.stagedInPlace ∧
    crowded.lgr.holdings.length + crowded.rst.stations.length = 34 ∧
    ((crowded.trunkReset .start).lgr.holdings.length, (crowded.trunkReset .start).stg.edits.length) = (32, 1) ∧
    ((crowded.trunkReset .start).rpu.queue.drop 2).map ReportRecord.kind
      = [.stationLeft, .editsDiscarded, .holdingReleased, .trunkReset] ∧
    (∀ c ∈ crowded.lgr.claims, c.tag ≠ 0xC) ∧ (∃ c ∈ whole.lgr.claims, c.tag = 0xA) ∧ whole.lgr.holdings.length < 32 ∧
    (State.convertClaim ({ whole with lgr := { whole.lgr with holdings := [⟨0xA, 30, channels [20], [], 4⟩] } }, []) 0xA).1.lgr.holdings
      = [⟨0xA, 130, channels [10, 11, 20], [], 4⟩] := by decide +kernel

/-- `whole` with a roster of n stations in a roll call's answer part. -/
def calling (n : Nat) : State :=
  { whole with
    csq := { whole.csq with partState := .starting, phase := .none }
    rst := ⟨5, (List.range n).map (fun i => station (i + 1) (BitVec.ofNat 48 (i + 10))),
      (List.range n).map (fun i => known (i + 1) (BitVec.ofNat 48 (i + 10))), 1⟩ }

/-- Outside the answer part; a tag in the roster; a roster of 24 and of 23. -/
theorem witness_RollAnswerTaken :
    (∀ n ∈ [1, 23, 24], (calling n).keyed ∧ (calling n).rosterInPlace) ∧
    leaves whole (.rollAnswer 0xE 5) (fun t => t.tpt.outbound) = some [] ∧
    (let called (q : List OutFrame) : State := { calling 1 with
       tpt := { (calling 1).tpt with outbound := q, sending := some (.rollCall 5 1) } }
     leaves (called [.assign 0xE 3 5]) (.rollAnswer 10 5) (fun t => (t.tpt.outbound.length, t.trkDir)) = some (1, true) ∧
     leaves (called []) (.rollAnswer 10 6) (fun t => (t.tpt.outbound, t.trkDir)) = some ([], false)) ∧
    leaves (calling 1) (.rollAnswer 10 5) (fun t => t.tpt.outbound) = some [.assign 10 1 5] ∧
    leaves (calling 24) (.rollAnswer 99 5) (fun t => t.tpt.outbound) = some [.assign 99 0 5] ∧
    leaves (calling 23) (.rollAnswer 99 5) (fun t => t.tpt.outbound) = some [.assign 99 24 5] := by decide +kernel

/-- Another epoch; a present tag; a departing one; a roster of 24; a newcomer; and outside the portion. -/
theorem witness_JoinTaken :
    let full : State := { whole with rst := (calling 24).rst }
    (full.keyed ∧ full.rosterInPlace ∧ full.stationPortion = true) ∧
    leaves whole (.join 0xE 6) (fun t => t.tpt.outbound) = some [] ∧
    leaves whole (.join 0xA 5) (fun t => t.tpt.outbound) = some [.assign 0xA 1 5] ∧
    leaves whole (.join 0xB 5) (fun t => t.tpt.outbound) = some [.assign 0xB 0 5] ∧
    leaves full (.join 0xFF 5) (fun t => t.tpt.outbound) = some [.assign 0xFF 0 5] ∧
    leaves whole (.join 0xC 5) (fun t => t.tpt.outbound) = some [.assign 0xC 3 5] ∧
    leaves (inState .halted []) (.join 0xC 5) (fun t => t.tpt.outbound) = some [] := by decide +kernel

theorem witness_DepartureCompletes :
    whole.keyed ∧ ∃ e ∈ whole.rst.stations, e.tag = 0xB ∧ e.state = .departing .leave 0 := by decide +kernel

theorem witness_LeaveBeginsADeparture :
    stationCode whole (.leave 1 5 4 []) = some (some .done) := by decide +kernel

/-- A present tag, a departing one, one with a holding, and one with neither. -/
theorem witness_EvictTaken :
    (whole.rst.stations.length ≤ 24 ∧ whole.positioned ∧ whole.heldInPlace) ∧
    code whole (.evict 250 (tagBytes 0xA ++ [1])) = some (some 0) ∧
    code whole (.evict 250 (tagBytes 0xB ++ [1])) = some (some 0) ∧
    code whole (.evict 250 (tagBytes 0xC ++ [1])) = some (some 0) ∧
    code whole (.evict 250 (tagBytes 0xE ++ [1])) = some (some 0x10) := by decide +kernel

/-- A known tag; a new one with 31 entries; a new one with 32. -/
theorem witness_RightsSet :
    let s (n : Nat) : State := { whole with
      rst := { whole.rst with known := whole.rst.known ++ (List.range n).map (fun i => ⟨BitVec.ofNat 48 (50 + i), .every, none⟩) } }
    (s 29).keyed ∧ (s 29).rosterInPlace ∧ (s 29).rst.known.length = 32 ∧
    leaves whole (.setRights 250 (tagBytes 0xA ++ [0])) (answer 250) = some (some [0, 1, 7, 0, 0, 0, 0, 0, 0]) ∧
    leaves (s 28) (.setRights 250 (tagBytes 0xE ++ [0])) (answer 250) = some (some [0, 0, 0, 0, 0, 0, 0, 0, 0]) ∧
    leaves (s 29) (.setRights 250 (tagBytes 0xE ++ [0])) (answer 250) = some (some [0, 2, 0, 0, 0, 0, 0, 0, 0xC]) := by
  decide +kernel

/-- No right; no holding; a holding. -/
theorem witness_ReclaimTaken :
    let holds : State := { whole with lgr := { whole.lgr with holdings := [⟨0xA, 30, channels [20], [], 4⟩] } }
    (holds.StationReady 1 5 4 (station 1 0xA) ∧ holds.cfg.remoteRequests = true ∧ holds.positioned ∧ holds.keyed ∧
      holds.heldInPlace) ∧
    stationCode { holds with rst := { holds.rst with known := [⟨0xA, ⟨false, true, true⟩, some 1⟩] } } (.reclaim 1 5 4 [])
      = some (some .notPermitted) ∧
    stationCode whole (.reclaim 1 5 4 []) = some (some .notHeld) ∧
    stationCode holds (.reclaim 1 5 4 []) = some (some .done) := by decide +kernel

/-- A closed window; counts of 2, 1 and 0. -/
theorem witness_ReclaimWindowCloses :
    let s (n : Nat) : State := { whole with rcu := ⟨true, 512, n⟩ }
    ((s 0).positioned ∧ (s 0).keyed ∧ (s 0).heldInPlace) ∧ State.reset.rcu.isOpen = false ∧
    (s 2).countDown.rcu = ⟨true, 512, 1⟩ ∧ (s 1).countDown.rcu = ⟨false, 512, 0⟩ ∧
    leaves (s 0) .reclaimWindowExpiry (fun t => t.rcu.isOpen) = some false ∧
    leaves (s 1) .reclaimWindowExpiry (fun t => t.rcu.isOpen) = some true ∧
    leaves { s 0 with rst := ⟨5, [station 1 0xC], [known 1 0xC], 0⟩ } .reclaimWindowExpiry (fun t => t.tpt.outbound.length)
      = some 1 := by decide +kernel

/-- R135: the call of a period and its end, in a period and outside it; a frame in the queue and none; period 8. -/
theorem witness_RollCallRuns :
    let s (period : Nat) (sending : Option TrunkSending) (q : List OutFrame) : State := { calling 1 with
      rst := { (calling 1).rst with rollPeriod := period }, tpt := { whole.tpt with sending := sending, outbound := q } }
    let call : Option TrunkSending := some (.rollCall 5 2)
    leaves (s 7 none []) .rollCallPeriod (fun t => t.rst.rollPeriod) = some 8 ∧
    leaves (s 8 none []) .rollCallPeriod (fun t => t.rst.rollPeriod) = some 8 ∧
    leaves (s 2 call [.assign 0xE 3 5]) .outboundFrameSent (fun t => t.tpt.share) = some (some 64) ∧
    leaves (s 2 call []) .outboundFrameSent (fun t => t.trkDir) = some false ∧
    leaves (s 7 none []) .rollCallEnd (fun t => t.csq.partState) = some .starting := by decide +kernel

/-- A body of 54 bytes; 65 bytes; 8 bytes whose check fails; sixteen units of the burst pattern, fifteen with 7 bytes behind
them, and sixteen in HALTED. -/
theorem witness_RequestFrameIsItsRow :
    let burst (n : Nat) : Instr := .requestFrame (List.replicate n 0xF0)
    (leaves whole (burst 128) (fun t => (t.csq.partState, t.tpt.burst)) = some (.starting, 0) ∧
      leaves whole (burst 127) (fun t => (t.csq.partState, t.tpt.burst)) = some (.running, 0) ∧
      leaves (inState .halted []) (burst 128) (fun t => t.csq.partState) = some .halted) ∧
    (List.replicate 54 (0 : Byte)).length ≤ 54 ∧ (stationRows 1 5 4 []).length = 12 ∧
    64 < (List.replicate 65 (0 : Byte)).length ∧
    (List.replicate 8 (0 : Byte)).drop 6 ≠ checkBytes (frameCheck (List.replicate 6 0)) := by decide +kernel

/-- The same behind an on-time boundary: the frame that waited is taken in the slots. -/
theorem witness_RequestsNotExecuted_edge :
    let s : State := { whole with csq := { whole.csq with phase := .slots }, tpt := { whole.tpt with edge := true } }
    s.StationReady 1 5 4 (station 1 0xA) ∧ s.heard.csq.phase = .slots ∧ s.heard.stationPortion = whole.svw.isEmpty := by
  decide +kernel

/-- Outside the portion; a number without entry, a departing one, another epoch, a full queue; a repeat; remote requests
off; a kind that is none. -/
theorem witness_RequestsNotExecuted :
    let cached : OutFrame := .assign 0xA 1 5
    let e : Station := { station 1 0xA with lastSeq := some 4, cachedReply := some cached }
    let repeating : State := { whole with rst := { whole.rst with stations := [e] } }
    (whole.keyed ∧ whole.stationPortion = true ∧ (inState .halted []).stationPortion = false) ∧
    leaves whole (.ledgerRead (.station 3 5 4) []) (fun t => t.tpt.outbound) = some [] ∧
    leaves whole (.ledgerRead (.station 2 5 4) []) (fun t => t.tpt.outbound) = some [] ∧
    leaves whole (.ledgerRead (.station 1 6 4) []) (fun t => t.tpt.outbound) = some [] ∧
    leaves repeating (.ledgerRead (.station 1 5 4) []) (fun t => t.tpt.outbound) = some [cached] ∧
    stationCode { whole with cfg := { whole.cfg with remoteRequests := false } } (.requestFrame (requestFrameBytes 1 5 4 0x01 []))
      = some (some .notPermitted) ∧
    stationCode whole (.requestFrame (requestFrameBytes 1 5 4 0x01 [])) = some (some .unknownKind) := by decide +kernel

/-- R7: with RESET taken a request of a station is not executed; one that no block would execute is answered as ever. -/
theorem witness_RequestsNotExecuted_reset :
    let s (remote : Bool) : State := { whole with
      cfg := { whole.cfg with remoteRequests := remote }, hlk := { whole.hlk with resetting := some 9 } }
    (s true).StationFresh 1 5 4 (station 1 0xA) ∧
    leaves (s true) (.ledgerRead (.station 1 5 4) []) (fun t => (t.tpt.outbound, t.rst.stations == whole.rst.stations))
      = some ([], true) ∧
    leaves (s false) (.leave 1 5 4 []) (fun t => (t.tpt.outbound, t.rst.stations == whole.rst.stations)) = some ([], true) ∧
    stationCode (s true) (.requestFrame (requestFrameBytes 1 5 4 0x01 [])) = some (some .unknownKind) ∧
    stationCode (s false) (.ledgerRead (.station 1 5 4) []) = some (some .notPermitted) := by decide +kernel

/-- R200, R203, R205: the bytes on HTX and on the trunk of one frame of each sort; of the checks, the first byte of one (R199). -/
theorem witness_bytesOnTheLines :
    let htx (x : HtxSending) := (State.htxBytes { whole with hlk := { whole.hlk with sending := some x } }).map List.dropLast
    let trk (x : TrunkSending) := State.trkBytes { whole with tpt := { whole.tpt with sending := some x } }
    htx (.reply 9 ⟨7, 9, [0]⟩) = some [0xA5, 3, 7, 9, 0, 0x20] ∧
    (htx (.report 1 ⟨0x40, 0, [1, 11, 3, 44, 5, 9]⟩)).map (List.take 10) = some [0xA5, 8, 0x40, 0, 1, 11, 3, 44, 5, 9] ∧
    (trk (.rollCall 5 2)).map (List.take 6) = some [0x3C, 0, 5, 0, 1, 2] ∧
    (trk (.outbound (.assign 0xE 3 5))).map (List.take 14) = some [0x83, 3, 5, 0, 2, 3, 0, 0, 0, 0, 0, 0, 0, 0xE] ∧
    (trk (.outbound (.notice 1 0xA 5 true ⟨.streamState, [6]⟩))).map (List.take 16)
      = some [0x82, 1, 5, 0, 3, 2, 1, 1, 0, 0, 0, 0, 0, 0xA, 6, 0] ∧
    (trk (.outbound (.reply 1 0xA 5 4 0x18 ⟨.notHeld, [1, 2]⟩))).map (List.take 17)
      = some [0x81, 1, 5, 0, 3, 4, 0x18, 6, 0, 0, 0, 0, 0, 0xA, 2, 1, 2] ∧
    (trk (.header ⟨5, 0x1234, 7, [⟨3, 4, 1, 3, 16⟩], 19, .late, 2, 1⟩)).map (fun b => (b.take 14, b.drop 16))
      = some ([0x5A, 0, 5, 0, 3, 0x12, 0x34, 7, 1, 0, 19, 1, 2, 1], [0x0C, 0x40, 0x83, 0xC3, 0xFF, 0xFF, 0xFF, 0xFF]) := by
  decide +kernel

/-- No entry; room for one more; a full queue with 3 and with 4 notices parked. -/
theorem witness_NoticesQueuedOrParked :
    let s (n m : Nat) : State := { whole with tpt := { whole.tpt with
      outbound := List.replicate n (.assign 0xE 3 5), parked := List.replicate m ⟨1, ⟨.streamState, [0]⟩⟩ } }
    let u (n m : Nat) : Nat × Nat :=
      (((s n m).handNotice 1 .editOutcome []).tpt.outbound.length, ((s n m).handNotice 1 .editOutcome []).tpt.parked.length)
    (s 31 0).keyed ∧ (∀ e ∈ whole.rst.stations, e.number ≠ 3) ∧ u 31 0 = (32, 0) ∧ u 32 3 = (32, 4) ∧ u 32 4 = (32, 4) := by
  decide +kernel

/-- 63 and 64 units left; what is left of the share just enough for the next frame, and too little; no share. -/
theorem witness_ShareOfTheWindow :
    let f : OutFrame := .assign 0xE 3 5
    let s (share : Option Nat) : State := { whole with
      csq := { whole.csq with phase := .slots }, tpt := { whole.tpt with outbound := [f, f], share := share } }
    (∀ x ∈ (s none).svw, x.seen ≠ .pending) ∧ leaves (s none) (.openWindowShare 63) (fun t => t.tpt.sending) = some none ∧
    leaves (s none) (.openWindowShare 64) (fun t => t.tpt.sending) = some (some (.outbound f)) ∧
    leaves (s (some 4)) .outboundFrameSent (fun t => t.tpt.share) = some (some 2) ∧
    leaves (s (some 3)) .outboundFrameSent (fun t => t.tpt.share) = some none ∧
    leaves (s none) .outboundFrameSent (fun t => t.tpt.outbound.length) = some 2 ∧
    leaves layout (.nominalInstant false) (fun t => (t.trkDir, leaves t .outboundFrameSent State.trkDir))
      = some (true, some false) := by decide +kernel

/-- HALTED; 15 units; 16; further units of a burst; 16 with a halt waiter. -/
theorem witness_ResetBurstDetected :
    let past : State := { whole with tpt := { whole.tpt with burst := 16 } }
    whole.tpt.burst ≤ 16 ∧ past.tpt.burst ≤ 16 ∧
    leaves (inState .halted []) (.resetBurst 16 false) (fun t => t.tpt.burst) = some 0 ∧
    leaves whole (.resetBurst 15 false) (fun t => (t.tpt.burst, t.csq.partState)) = some (15, .running) ∧
    leaves whole (.resetBurst 16 false) (fun t => (t.tpt.burst, t.csq.partState)) = some (16, .starting) ∧
    leaves past (.resetBurst 1 false) (fun t => (t.tpt.burst, t.csq.partState)) = some (16, .running) ∧
    leaves (inState .running [13]) (.resetBurst 16 false) (fun t => t.csq.partState) = some .halted := by decide +kernel

end Sys2Proof.Tests
end

section
/-! SUPPORT. Resets: what a transmitter with nothing to send does, and the state that a power-on reset leaves. -/

namespace Sys2Proof.Machine

/-- An empty report queue gives the transmitter no record (R193, R194). -/
theorem Reports.pick_of_empty {r : Reports} (h : r.queue = []) : r.pick = none := by
  simp [Reports.pick, h]

/-- A free transmitter with no reply, answer or report waiting takes nothing (R185). -/
theorem State.transmit_of_nothing_waiting {s : State} (hs : s.hlk.sending = none) (ho : s.hlk.order = [])
    (hq : s.rpu.queue = []) : s.transmit = s := by
  simp [State.transmit, hs, ho, Reports.pick_of_empty hq]

/-- Right after either reset HTX stays idle (R190, R198). -/
@[simp] theorem State.transmit_atReset (cfg : ConfigRecord) (rate : Nat) (pending : List Instr) :
    (State.atReset cfg rate pending).transmit = .atReset cfg rate pending :=
  State.transmit_of_nothing_waiting rfl rfl rfl

/-- Power-on reset leaves the values of both resets, with the defaults of R8 and the rate of the straps (R14). -/
theorem exec_powerOnReset (s : State) (rateA rateB : Bool) :
    exec (.powerOnReset rateA rateB) s = .next (.atReset .defaults (lineRate rateA rateB) s.pending) :=
  congrArg Host.Outcome.next (State.transmit_atReset _ _ _)

/-- The defaults of R8, field by field. -/
theorem ConfigRecord.defaults_eq :
    ConfigRecord.defaults =
      { budget := 1536, reclaimWindow := 512, vacancyLimit := 16, commitLimit := 4, remoteRequests := true,
        defaultRights := ⟨true, true, true⟩, reportMask := 0xFFF#12 } := by
  decide

/-- With no cycle opened since the reset, the cycle number reads 0 and the first boundary opens cycle 0 (R13, R14). -/
theorem Sequencer.atReset_cycles :
    Sequencer.atReset.lastCycle = none ∧ Sequencer.atReset.cycleNumber = 0 ∧ Sequencer.atReset.nextCycle = 0 :=
  ⟨rfl, rfl, rfl⟩

/-- After a reset the 4024 sends nothing on the trunk, and TRK_DIR is low (R14). -/
theorem State.atReset_trunk_silent (cfg : ConfigRecord) (rate : Nat) (pending : List Instr) :
    (State.atReset cfg rate pending).trkBytes = none ∧ (State.atReset cfg rate pending).trkDir = false :=
  ⟨rfl, rfl⟩

/-- Settles O3: the state of `exec_powerOnReset`, read off row by row of R14's table. -/
theorem powerOnResetOfTheSequencer : Obligations.PowerOnResetOfTheSequencer := by
  intro s rateA rateB
  obtain ⟨hlast, hnumber, hnext⟩ := Sequencer.atReset_cycles
  obtain ⟨hbytes, hdir⟩ := State.atReset_trunk_silent .defaults (lineRate rateA rateB) s.pending
  exact ⟨_, exec_powerOnReset s rateA rateB, rfl, hlast, hnumber, hnext, rfl, rfl, rfl, rfl, rfl,
    ConfigRecord.defaults_eq, hbytes, hdir⟩

end Sys2Proof.Machine
end

section
/-! SUPPORT. Requests that the host and the stations share: what the sender's answer leaves when the request's owner
changes the ledger alone. -/

namespace Sys2Proof.Machine

/-- A request that is executed alike for both is executed for the host party when the host sends it (R40). -/
theorem hostOwner_eq_partyRequest {kind : Kind} {body : List Byte} {s : State} (tag : Byte)
    (h : (partyRequest kind .host body s).isSome = true) :
    hostOwner kind tag body s = (partyRequest kind .host body s).map (fun x => (x.1, some x.2)) := by
  cases kind <;> simp_all [hostOwner, partyRequest]

/-- A request that is executed alike for both is executed for the station that sends it (R40). -/
theorem stationOwner_eq_partyRequest {kind : Kind} {body : List Byte} {s : State} {e : Station}
    (h : (partyRequest kind (.station e.tag) body s).isSome = true) :
    stationOwner kind e body s = partyRequest kind (.station e.tag) body s := by
  cases kind <;> simp_all [stationOwner, partyRequest]

/-- A request whose owner reads the ledger, the configuration and the roster, and changes the ledger alone, leaves that
ledger and its reply, whoever sends it (R169, R183). -/
theorem State.request_of_ledger {s : State} {sender : Sender} {p : Party} {kind : Kind} {body : List Byte} {l : Ledger}
    {r : Reply} (h : s.SenderReady sender p)
    (ho : ∀ t : State, t.lgr = s.lgr → t.cfg = s.cfg → t.rst = s.rst →
      partyRequest kind p body t = some ({ t with lgr := l }, r)) :
    s.request sender kind body = State.withReply { s with lgr := l } sender kind body r := by
  cases sender with
  | host tag =>
    obtain ⟨hready, rfl⟩ := h
    have hparty := ho (s.openEntry (.of kind.code tag body)) rfl rfl rfl
    have howner := hostOwner_eq_partyRequest tag (Option.isSome_of_eq_some hparty)
    rw [hparty] at howner
    exact (State.hostRequest_answered hready howner rfl).trans rfl
  | station number epoch seq =>
    obtain ⟨e, hready, hremote, rfl⟩ := h
    have ⟨⟨_, hentry, _⟩, _⟩ := hready
    have hparty := ho s.enterPortion rfl rfl rfl
    have howner := stationOwner_eq_partyRequest (Option.isSome_of_eq_some hparty)
    have hexec := State.executeStation_owner (s := s.enterPortion) hremote (howner.trans hparty)
    show s.stationFrame number epoch seq kind.code body = _
    rw [State.stationFrame_taken hready, State.answerStation_of hexec]
    simp only [State.withReply, hentry]
    rfl

end Sys2Proof.Machine
end

section
/-! SUPPORT. The claim records of the Resource Ledger (R36, R37): creation, change and removal of a party's record,
against the record as a whole. -/

namespace Sys2Proof.Machine

/-- A party without a claim record has the empty account. -/
theorem Ledger.account_of_none {l : Ledger} {p : Party} (h : l.account? p = none) : l.account p = .empty := by
  simp [Ledger.account, h]

/-- A claim record that holds no units and no channels, which a station does not keep (R37). -/
def Account.isBare (a : Account) : Prop := a.claimed = 0 ∧ a.held = 0

/-- A station has a claim record exactly if one has its tag. -/
theorem Ledger.account?_station_isSome (l : Ledger) (t : Tag) :
    (l.account? (.station t)).isSome = true ↔ ∃ c ∈ l.claims, c.tag = t := by
  simp [Ledger.account?]

/-- With one record per tag, a station's account is that of the record with its tag. -/
theorem Ledger.account?_of_mem {l : Ledger} (hn : (l.claims.map StationClaim.tag).Nodup) {c : StationClaim}
    (hc : c ∈ l.claims) : l.account? (.station c.tag) = some c.account := by
  simp [Ledger.account?, find?_of_mem StationClaim.tag c l.claims hn hc]

/-! ### Creation (R36) -/

/-- A party that has a record needs no new one. -/
theorem Ledger.ensure_of_isSome {l : Ledger} {p : Party} (h : (l.account? p).isSome = true) : l.ensure p = l := by
  cases p with
  | host => rfl
  | station t => simp_all [Ledger.ensure, Ledger.account?]

/-- A station without a record is given an empty one, behind the others. -/
theorem Ledger.ensure_of_none {l : Ledger} {t : Tag} (h : l.account? (.station t) = none) :
    l.ensure (.station t) = { l with claims := l.claims ++ [⟨t, .empty⟩], revision := l.revision + 1 } := by
  simp_all [Ledger.ensure, Ledger.account?]

/-- The record made sure of stands, and is empty if it is new. -/
theorem Ledger.account?_ensure (l : Ledger) (p : Party) : (l.ensure p).account? p = some (l.account p) := by
  cases h : l.account? p with
  | some a => simp [Ledger.ensure_of_isSome (l := l) (p := p) (by simp [h]), Ledger.account, h]
  | none =>
    cases p with
    | host => nomatch h
    | station t =>
      rw [Ledger.ensure_of_none h, Ledger.account_of_none h]
      have hf : l.claims.find? (fun c => c.tag == t) = none := by simpa [Ledger.account?] using h
      simp [Ledger.account?, List.find?_append, hf]

/-- Tags stay unique when a record is made sure of. -/
theorem Ledger.ensure_nodup {l : Ledger} (hn : (l.claims.map StationClaim.tag).Nodup) (p : Party) :
    ((l.ensure p).claims.map StationClaim.tag).Nodup := by
  cases h : l.account? p with
  | some a => rwa [Ledger.ensure_of_isSome (by simp [h])]
  | none =>
    cases p with
    | host => nomatch h
    | station t =>
      rw [Ledger.ensure_of_none h]
      simp_all [Ledger.account?, List.nodup_append]

/-! ### Change and removal (R37) -/

/-- A record that holds something is kept. -/
theorem Ledger.dropEmpty_of_not_isBare {l : Ledger} {p : Party} (h : ¬ (l.account p).isBare) : l.dropEmpty p = l := by
  cases p with
  | host => rfl
  | station t =>
    cases ha : l.account? (.station t) with
    | none => exact absurd (Ledger.account_of_none ha ▸ ⟨rfl, rfl⟩) h
    | some a =>
      simp only [Ledger.account, ha, Option.getD_some] at h
      simp only [Ledger.dropEmpty, ha]
      exact if_neg h

/-- The free units and the free channels play no part in the removal of a record. -/
theorem Ledger.dropEmpty_free (l : Ledger) (n : Nat) (x : ChannelSet) (p : Party) :
    { l with freeUnits := n }.dropEmpty p = { l.dropEmpty p with freeUnits := n } ∧
    { l with freeChannels := x }.dropEmpty p = { l.dropEmpty p with freeChannels := x } := by
  cases p with
  | host => exact ⟨rfl, rfl⟩
  | station t =>
    simp only [Ledger.dropEmpty, Ledger.account?]
    cases l.claims.find? (fun c => c.tag == t) with
    | none => exact ⟨rfl, rfl⟩
    | some c => simp only [Option.map_some]; split <;> exact ⟨rfl, rfl⟩

/-- The first match is erased whether or not it was changed before. -/
theorem eraseP_updateFirst {α : Type} (p : α → Bool) (f : α → α) (h : ∀ a, p a = true → p (f a) = true)
    (l : List α) : (updateFirst p f l).eraseP p = l.eraseP p := by
  induction l with
  | nil => rfl
  | cons a l ih =>
    by_cases ha : p a = true
    · simp [updateFirst_cons, ha, h a ha]
    · simp [updateFirst_cons, ha, ih]

/-! ### The record as a whole -/

/-- A change of a record that stands, and its removal if it then holds nothing, put the changed account in its place. -/
theorem Ledger.dropEmpty_update {l : Ledger} (hn : (l.claims.map StationClaim.tag).Nodup) {p : Party}
    (h : (l.account? p).isSome = true) (f : Account → Account) :
    (l.update p f).dropEmpty p = l.withAccount p (f (l.account p)) := by
  cases p with
  | host => rfl
  | station t =>
    obtain ⟨c, hc, rfl⟩ := (l.account?_station_isSome t).1 h
    have hexists : ∃ x ∈ l.claims, x.tag = c.tag := ⟨c, hc, rfl⟩
    have hold := Ledger.account?_of_mem hn hc
    have hown : l.account (.station c.tag) = c.account := by simp [Ledger.account, hold]
    have hnew : (l.update (.station c.tag) f).account? (.station c.tag) = some (f c.account) := by
      rw [Ledger.account?_update, hold]; rfl
    simp only [Ledger.dropEmpty, hnew, Ledger.withAccount, hown, if_pos hexists]
    split
    · simp only [Ledger.update]
      rw [eraseP_updateFirst _ _ (by simp), eraseP_eq_filter StationClaim.tag c.tag l.claims hn]
    · have hmap : ∀ x ∈ l.claims, (if x.tag = c.tag then { x with account := f x.account } else x)
          = if x.tag = c.tag then (⟨c.tag, f c.account⟩ : StationClaim) else x := by
        intro x hx
        by_cases hxc : x.tag = c.tag
        · have hsame : x.account = c.account := by simpa [hxc, hold] using (Ledger.account?_of_mem hn hx).symm
          simp [hxc, hsame]
        · simp [hxc]
      simp only [Ledger.update]
      rw [updateFirst_key StationClaim.tag _ c.tag l.claims hn, List.map_congr_left hmap]

/-- A record that is to hold something is created where it is missing. -/
theorem Ledger.withAccount_ensure {l : Ledger} {p : Party} {a : Account} (ha : ¬ a.isBare) :
    (l.ensure p).withAccount p a = l.withAccount p a := by
  cases h : l.account? p with
  | some old => rw [Ledger.ensure_of_isSome (by simp [h])]
  | none =>
    cases p with
    | host => nomatch h
    | station t =>
      have habsent : ∀ c ∈ l.claims, c.tag ≠ t := by simpa [Ledger.account?] using h
      have hkept : l.claims.map (fun c => if c.tag = t then ⟨t, a⟩ else c) = l.claims :=
        (List.map_congr_left (fun c hc => by simp [habsent c hc])).trans (List.map_id _)
      have hmissing : ¬ ∃ c ∈ l.claims, c.tag = t := by simpa using habsent
      have ha' : ¬ (a.claimed = 0 ∧ a.held = 0) := ha
      rw [Ledger.ensure_of_none h]
      simp only [Ledger.withAccount, if_neg hmissing, if_neg ha']
      simp [hkept]

/-- A change that leaves the record with something creates it where it is missing, and does not let it be removed. -/
theorem Ledger.dropEmpty_update_ensure {l : Ledger} (hn : (l.claims.map StationClaim.tag).Nodup) {p : Party}
    {f : Account → Account} (ha : ¬ (f (l.account p)).isBare) :
    ((l.ensure p).update p f).dropEmpty p = l.withAccount p (f (l.account p)) := by
  have hensured := l.account?_ensure p
  have hown : (l.ensure p).account p = l.account p := by simp [Ledger.account, hensured]
  rw [Ledger.dropEmpty_update (Ledger.ensure_nodup hn p) (by simp [hensured]), hown, Ledger.withAccount_ensure ha]

/-- A change that leaves the record with something needs no removal behind it (R37, R42). -/
theorem Ledger.update_ensure {l : Ledger} (hn : (l.claims.map StationClaim.tag).Nodup) {p : Party}
    {f : Account → Account} (ha : ¬ (f (l.account p)).isBare) :
    (l.ensure p).update p f = l.withAccount p (f (l.account p)) := by
  have hnew : ((l.ensure p).update p f).account p = f (l.account p) := by
    simp [Ledger.account, Ledger.account?_update, l.account?_ensure p]
  rw [← Ledger.dropEmpty_update_ensure hn ha, Ledger.dropEmpty_of_not_isBare (hnew ▸ ha)]

end Sys2Proof.Machine
end

section
/-! SUPPORT. EXCHANGE_UNITS (R41 to R44). -/

namespace Sys2Proof.Machine

/-- R42: a claim of some units puts them in the party's record, created if it is missing. -/
theorem Ledger.claimUnits_eq {l : Ledger} (hn : (l.claims.map StationClaim.tag).Nodup) (p : Party)
    {expected proposed : Nat} (h : proposed < expected) :
    l.claimUnits p expected proposed =
      { l.withAccount p { l.account p with claimed := (l.account p).claimed + (expected - proposed) } with
        freeUnits := proposed } := by
  have hkept : ¬ ({ l.account p with claimed := (l.account p).claimed + (expected - proposed) } : Account).isBare :=
    fun hbare => by have := hbare.1; simp only at this; omega
  unfold Ledger.claimUnits
  rw [Ledger.update_ensure hn hkept]

/-- R43: a release of units from a record takes them out of it, and the record goes if it then holds nothing. -/
theorem Ledger.releaseUnits_eq {l : Ledger} (hn : (l.claims.map StationClaim.tag).Nodup) {p : Party}
    (h : (l.account? p).isSome = true) (expected proposed : Nat) :
    l.releaseUnits p expected proposed =
      { l.withAccount p { l.account p with claimed := (l.account p).claimed - (proposed - expected) } with
        freeUnits := proposed } := by
  unfold Ledger.releaseUnits
  rw [(Ledger.dropEmpty_free _ _ 0 p).1, Ledger.dropEmpty_update hn h]

/-- An account that is not empty stands in a record. -/
theorem Ledger.account?_isSome_of_ne {l : Ledger} {p : Party} (h : l.account p ≠ .empty) :
    (l.account? p).isSome = true := by
  cases ha : l.account? p with
  | none => exact absurd (Ledger.account_of_none ha) h
  | some a => rfl

/-- An EXCHANGE_UNITS that is taken leaves the ledger and the reply that R41 to R44 give (R41). -/
theorem exec_exchangeUnits {s : State} {sender : Sender} {p : Party} (h : s.SenderReady sender p) (e1 e0 n1 n0 : Byte)
    {l : Ledger} {r : Reply}
    (hx : s.lgr.exchangeUnits s.cfg.budget (s.rst.rightsOf p) p (word16 e1 e0) (word16 n1 n0) = (l, r)) :
    exec (.exchangeUnits sender [e1, e0, n1, n0]) s =
      .next (State.transmit (State.withReply { s with lgr := l } sender .exchangeUnits [e1, e0, n1, n0] r)) := by
  have hfits : bodyFits sender [e1, e0, n1, n0] = true := by cases sender <;> rfl
  have htaken := State.request_of_ledger (kind := .exchangeUnits) (body := [e1, e0, n1, n0]) (l := l) (r := r) h
    (fun t hlgr hcfg hrst => by simp only [partyRequest, takeExchangeUnits, decodeWordWord, hlgr, hcfg, hrst, hx])
  show outcome (bodyFits sender _) _ = _
  rw [hfits, htaken]
  rfl

/-- An exchange is permitted by QUERY where it is a read and by CLAIM where it moves something, however the statement
says that the two values are the same (R41, R45). -/
theorem permitted_iff {read same : Prop} [Decidable read] [Decidable same] (h : read ↔ same) (rights : Rights) :
    ¬ (if same then rights.query = true else rights.claim = true) ↔
      (!(if read then rights.query else rights.claim)) = true := by
  by_cases hr : read <;> simp [hr, ← h]

/-- Settles O20: the checks in the order of `Ledger.exchangeUnits`, each with what it leaves. -/
theorem exchangeUnits : Obligations.ExchangeUnits := by
  intro s sender p e1 e0 n1 n0 hready hn
  have leads := fun {l r} => exec_exchangeUnits (l := l) (r := r) hready e1 e0 n1 n0
  simp only [permitted_iff Iff.rfl]
  generalize hperm :
    (!(if word16 n1 n0 = word16 e1 e0 then (s.rst.rightsOf p).query else (s.rst.rightsOf p).claim)) = refused
  simp only [Ledger.exchangeUnits, hperm] at leads
  split_ifs at leads ⊢ with hrefused hbudget hfree hread hclaim hheld huse
  · exact leads rfl
  · exact leads rfl
  · exact leads rfl
  · exact leads rfl
  · exact leads (by rw [Ledger.claimUnits_eq hn p hclaim])
  · exact leads rfl
  · exact leads rfl
  · have hrecord : (s.lgr.account? p).isSome = true :=
      Ledger.account?_isSome_of_ne (fun hnone => by rw [hnone] at hheld; simp only [Account.empty] at hheld; omega)
    exact leads (by rw [Ledger.releaseUnits_eq hn hrecord])

end Sys2Proof.Machine
end

section
/-! SUPPORT. Channel sets (R45, R201): which channels the two forms name, and what a set reads as. -/

namespace Sys2Proof.Machine

/-- A set of channel numbers 0 to 255 is that of the numbers listed. -/
def namesExactly (x : BitVec 256) (channels : List Nat) : Prop := ∀ c, x.getLsbD c = true ↔ c ∈ channels

/-- A set gathered element by element has a bit exactly if it had it before or one element brings it. -/
theorem getLsbD_foldl_or {α : Type} {w : Nat} (bits : α → BitVec w) (c : Nat) (l : List α) (x : BitVec w) :
    (l.foldl (fun s a => s ||| bits a) x).getLsbD c = true ↔
      x.getLsbD c = true ∨ ∃ a ∈ l, (bits a).getLsbD c = true := by
  induction l generalizing x with
  | nil => simp
  | cons a l ih =>
    simp only [List.foldl_cons, ih, BitVec.getLsbD_or, Bool.or_eq_true, List.exists_mem_cons_iff, or_assoc]

/-- The bit of a channel number is set in the number's own place alone. -/
theorem getLsbD_one_shiftLeft (w n c : Nat) : (1#w <<< n).getLsbD c = true ↔ c < w ∧ c = n := by
  simp; omega

/-- A channel lies in a set of those listed exactly if it is one of 0 to 39 and listed. -/
theorem getLsbD_channelSetOf (l : List Nat) (c : Nat) : (channelSetOf l).getLsbD c = true ↔ c < 40 ∧ c ∈ l := by
  simp [channelSetOf, channelBit, getLsbD_foldl_or, getLsbD_one_shiftLeft, -BitVec.getLsbD_shiftLeft, and_comm]

/-- The channel numbers of form 1 are the ones that its bytes name (R201). -/
theorem namedSet_namesExactly (l : List Byte) : namesExactly (namedSet l) (l.map BitVec.toNat) := by
  intro c
  rw [namedSet, getLsbD_foldl_or]
  simp only [getLsbD_one_shiftLeft, List.mem_map]
  constructor
  · rintro (hzero | ⟨b, hb, -, rfl⟩)
    · simp at hzero
    · exact ⟨b, hb, rfl⟩
  · rintro ⟨b, hb, rfl⟩
    exact .inr ⟨b, hb, by have := b.isLt; omega, rfl⟩

/-- The bits of a word are those of the bytes listed: bit 8k + j is bit j of byte k. -/
def packs {w : Nat} (x : BitVec w) (bytes : List Byte) : Prop :=
  ∀ c, x.getLsbD c = (bytes.getD (c / 8) 0).getLsbD (c % 8)

/-- One byte is its own word. -/
theorem packs_singleton (b : Byte) : packs b [b] := by
  intro c
  by_cases hc : c < 8
  · simp [Nat.div_eq_of_lt hc, Nat.mod_eq_of_lt hc]
  · obtain ⟨k, hk⟩ : ∃ k, c / 8 = k + 1 := ⟨c / 8 - 1, by omega⟩
    simp [hk, BitVec.getLsbD_of_ge b c (by omega)]

/-- A byte put behind a word becomes the first of its bytes. -/
theorem packs_append {w : Nat} {x : BitVec w} {bytes : List Byte} (h : packs x bytes) (b : Byte) :
    packs (x ++ b) (b :: bytes) := by
  intro c
  rw [BitVec.getLsbD_append]
  by_cases hc : c < 8
  · simp [hc, Nat.div_eq_of_lt hc, Nat.mod_eq_of_lt hc]
  · have hk : c / 8 = (c - 8) / 8 + 1 := by omega
    have hj : c % 8 = (c - 8) % 8 := by omega
    rw [if_neg hc, h, hk, hj, List.getD_cons_succ]

/-- The channel numbers of form 0 are those of the bits set: channel 8k + j at bit j of byte k (R201). -/
theorem bits_namesExactly {b0 b1 b2 b3 b4 : Byte} {channels : List Nat}
    (h : ∀ c, c ∈ channels ↔ c < 40 ∧ ([b0, b1, b2, b3, b4].getD (c / 8) 0).getLsbD (c % 8) = true) :
    namesExactly ((b4 ++ b3 ++ b2 ++ b1 ++ b0 : ChannelSet).setWidth 256) channels := by
  have hbits : packs (b4 ++ b3 ++ b2 ++ b1 ++ b0 : ChannelSet) [b0, b1, b2, b3, b4] :=
    packs_append (packs_append (packs_append (packs_append (packs_singleton b4) b3) b2) b1) b0
  intro c
  rw [h, ← hbits c, BitVec.getLsbD_setWidth, Bool.and_eq_true, decide_eq_true_iff]
  exact ⟨fun hc => ⟨BitVec.lt_of_getLsbD hc.2, hc.2⟩, fun hc => ⟨by omega, hc.2⟩⟩

/-- A channel set at the front of a body is read as the set of the channels it names, in either form (R201). -/
theorem takeSet_of_namesChannels {bytes : List Byte} {channels : List Nat} (h : namesChannels bytes channels)
    (rest : List Byte) : ∃ x, takeSet (bytes ++ rest) = some (x, rest) ∧ namesExactly x channels := by
  rcases h with ⟨b0, b1, b2, b3, b4, rfl, hbits⟩ | ⟨l, hlen, rfl, rfl⟩
  · exact ⟨_, rfl, bits_namesExactly hbits⟩
  · have hcount : (byteOf l.length).toNat = l.length := byteOf_toNat _ (by omega)
    exact ⟨namedSet l, by simp [takeSet, hcount, hlen], namedSet_namesExactly l⟩

/-- Two sets are the same exactly if each channel that one lists the other lists too. -/
theorem namesExactly_eq_iff {x y : BitVec 256} {xs ys : List Nat} (hx : namesExactly x xs) (hy : namesExactly y ys) :
    y = x ↔ xs ⊆ ys ∧ ys ⊆ xs := by
  constructor
  · rintro rfl
    exact ⟨fun c hc => (hy c).1 ((hx c).2 hc), fun c hc => (hx c).1 ((hy c).2 hc)⟩
  · rintro ⟨hxy, hyx⟩
    refine BitVec.eq_of_getLsbD_eq fun c _ => Bool.eq_iff_iff.2 ?_
    rw [hx, hy]
    exact ⟨fun hc => hyx hc, fun hc => hxy hc⟩

/-- A set is in range exactly if no channel above 39 is listed (R45). -/
theorem setInRange_iff {x : BitVec 256} {xs : List Nat} (hx : namesExactly x xs) :
    setInRange x = true ↔ ∀ c ∈ xs, c < 40 := by
  have hzero : setInRange x = true ↔ ∀ c, x.getLsbD (40 + c) = false := by
    simp only [setInRange, beq_iff_eq]
    constructor
    · intro h c
      simpa using congrArg (fun v => v.getLsbD c) h
    · intro h
      exact BitVec.eq_of_getLsbD_eq fun c _ => by simpa using h c
  rw [hzero]
  constructor
  · intro h c hc
    by_contra hlarge
    have := h (c - 40)
    rw [Nat.add_sub_cancel' (by omega), (hx c).2 hc] at this
    exact Bool.noConfusion this
  · intro h c
    by_contra hset
    have := h _ ((hx (40 + c)).1 (by simpa using hset))
    omega

/-- Cut to the trunk's 40 channels, a set is that of the channels listed. -/
theorem setWidth_eq_channelSetOf {x : BitVec 256} {xs : List Nat} (hx : namesExactly x xs) :
    x.setWidth 40 = channelSetOf xs := by
  refine BitVec.eq_of_getLsbD_eq fun c hc => Bool.eq_iff_iff.2 ?_
  rw [getLsbD_channelSetOf, ← hx c]
  simp [hc]

/-- The bound channels of an account, as the set of the channels in its map (R36). -/
theorem Account.boundSet_eq (a : Account) : a.boundSet = channelSetOf (a.bound.map Prod.fst) := by
  simp [Account.boundSet, channelSetOf, List.foldl_map]

end Sys2Proof.Machine
end

section
/-! SUPPORT. EXCHANGE_CHANNELS (R45 to R47). -/

namespace Sys2Proof.Machine

/-- The two sets of an EXCHANGE_CHANNELS are read as the sets of the channels they name (R45, R201). -/
theorem decodeSets_of_namesChannels {b1 b2 : List Byte} {es ns : List Nat} (he : namesChannels b1 es)
    (hn : namesChannels b2 ns) :
    ∃ x y, decodeSets (b1 ++ b2) = .ok (x, y) ∧ namesExactly x es ∧ namesExactly y ns := by
  obtain ⟨x, hx, hxs⟩ := takeSet_of_namesChannels he b2
  obtain ⟨y, hy, hys⟩ := takeSet_of_namesChannels hn []
  rw [List.append_nil] at hy
  exact ⟨x, y, by simp [decodeSets, hx, hy], hxs, hys⟩

/-- Nothing of a set is left outside another exactly if the other has all its channels. -/
theorem and_not_eq_zero_iff {a b : ChannelSet} :
    a &&& ~~~b = 0 ↔ ∀ c < 40, a.getLsbD c = true → b.getLsbD c = true := by
  constructor
  · intro h c hc ha
    have := congrArg (fun x => x.getLsbD c) h
    simpa [hc, ha] using this
  · intro h
    refine BitVec.eq_of_getLsbD_eq fun c hc => ?_
    have := h c hc
    cases ha : a.getLsbD c <;> simp_all

/-- Two sets that differ leave something of the one or of the other: an exchange that is no read claims or releases a
channel (R45). -/
theorem eq_of_and_not_eq_zero {a b : ChannelSet} (hab : a &&& ~~~b = 0) (hba : b &&& ~~~a = 0) : a = b :=
  BitVec.eq_of_getLsbD_eq fun c hc =>
    Bool.eq_iff_iff.2 ⟨and_not_eq_zero_iff.1 hab c hc, and_not_eq_zero_iff.1 hba c hc⟩

/-- Channels claimed are held after the exchange, for none of them is released (R46). -/
theorem held_ne_zero_of_claimed {held e n : ChannelSet} (hclaim : e &&& ~~~n ≠ 0) :
    (held ||| e &&& ~~~n) &&& ~~~(n &&& ~~~e) ≠ 0 := by
  refine fun hheld => hclaim (and_not_eq_zero_iff.2 fun c hc he => ?_)
  by_contra hnot
  have hbit : ((held ||| e &&& ~~~n) &&& ~~~(n &&& ~~~e)).getLsbD c = false := by rw [hheld]; simp
  simp [hc, he, hnot, -BitVec.getLsbD_eq_getElem] at hbit

/-- R46: the exchange puts the channels claimed in the party's record and takes those released out of it; a record is
created for a claim, and one that then holds nothing goes. -/
theorem Ledger.moveChannels_eq {l : Ledger} (hn : (l.claims.map StationClaim.tag).Nodup) {p : Party} {e n : ChannelSet}
    (hmoves : n ≠ e) (hheld : n &&& ~~~e &&& ~~~(l.account p).held = 0) :
    l.moveChannels p e n =
      { l.withAccount p { l.account p with held := ((l.account p).held ||| e &&& ~~~n) &&& ~~~(n &&& ~~~e) } with
        freeChannels := n } := by
  unfold Ledger.moveChannels
  simp only
  rw [(Ledger.dropEmpty_free _ 0 n p).2]
  split
  · next hclaim =>
    have hrecord : (l.account? p).isSome = true := by
      refine Ledger.account?_isSome_of_ne fun hnone => hmoves (eq_of_and_not_eq_zero ?_ hclaim)
      rwa [hnone, show ~~~Account.empty.held = BitVec.allOnes 40 from rfl, BitVec.and_allOnes] at hheld
    rw [Ledger.dropEmpty_update hn hrecord]
  · next hclaim =>
    rw [Ledger.dropEmpty_update_ensure hn (fun hbare => held_ne_zero_of_claimed hclaim hbare.2)]

/-- An EXCHANGE_CHANNELS whose sets decode leaves the ledger and the reply that R45 to R47 give (R45). -/
theorem exec_exchangeChannels {s : State} {sender : Sender} {p : Party} (h : s.SenderReady sender p) {body : List Byte}
    (hfits : bodyFits sender body = true) {x y : BitVec 256} (hd : decodeSets body = .ok (x, y)) {l : Ledger}
    {r : Reply}
    (hx : s.lgr.exchangeChannels (s.rst.rightsOf p) p x y = (l, r)) :
    exec (.exchangeChannels sender body) s =
      .next (State.transmit (State.withReply { s with lgr := l } sender .exchangeChannels body r)) := by
  have htaken := State.request_of_ledger (kind := .exchangeChannels) (body := body) (l := l) (r := r) h
    (fun t hlgr _ hrst => by simp only [partyRequest, takeExchangeChannels, hd, hlgr, hrst, hx])
  show outcome (bodyFits sender body) _ = _
  rw [hfits, htaken]
  rfl

/-- Settles O21: the checks in the order of `Ledger.exchangeChannels`, on the sets that the two lists name. -/
theorem exchangeChannels : Obligations.ExchangeChannels := by
  intro s sender p b1 b2 es ns hready hn hes hns hfits
  obtain ⟨x, y, hd, hx, hy⟩ := decodeSets_of_namesChannels hes hns
  have leads := fun {l r} => exec_exchangeChannels (l := l) (r := r) hready hfits hd
  have hrange : (∃ c ∈ es ++ ns, 40 ≤ c) ↔ (!(setInRange x && setInRange y)) = true := by
    rw [Bool.not_eq_true', ← Bool.not_eq_true, Bool.and_eq_true, setInRange_iff hx, setInRange_iff hy,
      ← List.forall_mem_append]
    simp
  simp only [permitted_iff (namesExactly_eq_iff hx hy), hrange]
  simp only [Ledger.exchangeChannels, setWidth_eq_channelSetOf hx, setWidth_eq_channelSetOf hy,
    Account.boundSet_eq] at leads
  generalize hperm : (!(if y = x then (s.rst.rightsOf p).query else (s.rst.rightsOf p).claim)) = refused at *
  split_ifs at leads ⊢ with hrefused hbad hfree hread hheld huse
  · exact leads rfl
  · exact leads rfl
  · exact leads rfl
  · exact leads rfl
  · exact leads rfl
  · exact leads rfl
  · exact leads (by rw [Ledger.moveChannels_eq hn hread (not_not.1 hheld)])

end Sys2Proof.Machine
end

section
/-! SUPPORT. What the operations of the Host Link and of the Report Unit keep: bounds, unique tags, and the order of the
report queue (R183, R184, R186, R191, R193, R196). -/

namespace Sys2Proof.Machine

/-! ### The Host Link -/

/-- The tables of the Host Link are within their rooms, and the count of answers lost within its byte (R183, R184,
R186). -/
def HostLink.bounded (h : HostLink) : Prop :=
  h.table.length ≤ Config.tableRoom ∧ h.cache.length ≤ Config.cacheRoom ∧ h.answers.length ≤ Config.answerRoom ∧
  h.overrun ≤ 255

/-- No host tag stands twice in the outstanding-request table and the reply cache together (R183, R184). -/
def HostLink.keyed (h : HostLink) : Prop := (h.table.map TableEntry.tag ++ h.cache.map CacheEntry.tag).Nodup

/-- A change of the Host Link that keeps its bounds and its unique tags. -/
structure HostLink.Keeps (h k : HostLink) : Prop where
  bounded : h.bounded → k.bounded
  keyed : h.keyed → k.keyed

theorem HostLink.Keeps.rfl {h : HostLink} : h.Keeps h := ⟨id, id⟩

theorem HostLink.Keeps.trans {h k l : HostLink} (a : h.Keeps k) (b : k.Keeps l) : h.Keeps l :=
  ⟨b.bounded ∘ a.bounded, b.keyed ∘ a.keyed⟩

/-- A change that leaves the tags and their number, the answers and the count of answers lost. -/
theorem HostLink.Keeps.of_eq {h k : HostLink} (ht : k.table.map TableEntry.tag = h.table.map TableEntry.tag)
    (hc : k.cache = h.cache) (ha : k.answers = h.answers) (ho : k.overrun = h.overrun) : h.Keeps k := by
  have hl : k.table.length = h.table.length := by simpa using congrArg List.length ht
  constructor
  · simp only [HostLink.bounded, hl, hc, ha, ho, imp_self]
  · simp only [HostLink.keyed, ht, hc, imp_self]

/-- An owner's answer changes one entry's state and the transmit order (R183). -/
theorem HostLink.answer_keeps (h : HostLink) (tag : Byte) (r : Reply) : h.Keeps (h.answer tag r) := by
  unfold HostLink.answer
  split
  · exact .rfl
  · refine .of_eq ?_ rfl rfl rfl
    rw [updateFirst_map TableEntry.tag]
    exact fun _ _ => rfl

/-- Answering several requests, in order, keeps what answering one keeps. -/
theorem HostLink.answerEach_keeps (h : HostLink) (tags : List Byte) (r : Reply) : h.Keeps (h.answerEach tags r) := by
  unfold HostLink.answerEach
  induction tags generalizing h with
  | nil => exact .rfl
  | cons t l ih => exact (h.answer_keeps t r).trans (ih _)

/-- A frame joins the answer list only while it has room, and the count of answers lost stops at 255 (R186). -/
theorem HostLink.placeAnswer_keeps (h : HostLink) (f : HostFrame) : h.Keeps (h.placeAnswer f) := by
  unfold HostLink.placeAnswer HostLink.joinAnswers
  split
  · exact .rfl
  · split
    · exact ⟨fun ⟨ht, hc, ha, _⟩ => ⟨ht, hc, ha, Nat.min_le_left _ _⟩, id⟩
    · next hroom =>
      have hone : (h.answers ++ [f]).length ≤ Config.answerRoom := by simp; omega
      split
      · exact ⟨fun ⟨ht, hc, _, ho⟩ => ⟨ht, hc, hone, ho⟩, id⟩
      · simp only
        split
        · next hmore => exact ⟨fun ⟨ht, hc, _, _⟩ => ⟨ht, hc, by simp at hmore ⊢; omega, by simp⟩, id⟩
        · exact ⟨fun ⟨ht, hc, _, _⟩ => ⟨ht, hc, by simpa using hone, by simp⟩, id⟩

/-- A fresh entry joins the table while it has room; a cache entry of its tag has gone before (R182 step 7). -/
theorem HostLink.Keeps.openEntry {g h : HostLink} (k : g.Keeps h) {q : HostRequest}
    (hroom : h.table.length < Config.tableRoom) (hcache : g.keyed → ∀ c ∈ h.cache, c.tag ≠ q.tag)
    (htable : ∀ e ∈ h.table, e.tag ≠ q.tag) : g.Keeps { h with table := h.table ++ [q.entry] } := by
  constructor
  · intro hb
    obtain ⟨-, hc, ha, ho⟩ := k.bounded hb
    exact ⟨by simpa using hroom, hc, ha, ho⟩
  · intro hk
    have hfresh : q.tag ∉ h.table.map TableEntry.tag ++ h.cache.map CacheEntry.tag := by
      simp only [List.mem_append, List.mem_map, not_or, not_exists, not_and]
      exact ⟨htable, hcache hk⟩
    simp only [HostLink.keyed, List.map_append, List.map_cons, List.map_nil, List.append_assoc, List.cons_append,
      List.nil_append]
    exact List.perm_middle.nodup_iff.2 (List.nodup_cons.2 ⟨hfresh, k.keyed hk⟩)

/-- A cache entry goes (R182 step 2). -/
theorem HostLink.forget_keeps (h : HostLink) (p : CacheEntry → Bool) :
    h.Keeps { h with cache := h.cache.eraseP p } := by
  constructor
  · rintro ⟨ht, hc, ha, ho⟩
    exact ⟨ht, (List.eraseP_sublist.length_le).trans hc, ha, ho⟩
  · intro hk
    exact hk.sublist ((List.Sublist.refl _).append (eraseP_map_sublist _ _ _))

/-- The cache entry that goes was its tag's only one (R184). -/
theorem HostLink.keyed.forgotten {h : HostLink} (hk : h.keyed) (tag : Byte) :
    ∀ c ∈ h.cache.eraseP (fun c => c.tag == tag), c.tag ≠ tag := by
  intro c hc
  rw [eraseP_eq_filter CacheEntry.tag tag _ (List.Nodup.of_append_right hk)] at hc
  simpa using (List.mem_filter.1 hc).2

/-- When the reply has been sent its entry leaves the table for the cache, from which a ninth makes the earliest leave
(R183, R184). -/
theorem HostLink.replySent_keeps (h : HostLink) (tag : Byte) (f : HostFrame) : h.Keeps (h.replySent tag f) := by
  unfold HostLink.replySent
  have hlen : (h.table.eraseP (fun e => e.tag == tag)).length ≤ h.table.length := List.eraseP_sublist.length_le
  have herase := eraseP_map_sublist TableEntry.tag (fun e => e.tag == tag) h.table
  split
  · next e he =>
    have htag : e.tag = tag := by simpa using List.find?_some he
    have hmem : e ∈ h.table := List.mem_of_find?_eq_some he
    constructor
    · rintro ⟨ht, hc, ha, ho⟩
      refine ⟨hlen.trans ht, ?_, ha, ho⟩
      simp only [HostLink.cacheReply]
      split
      · simp only [List.length_drop, List.length_append, List.length_singleton]; omega
      · next hroom => exact Nat.not_lt.1 hroom
    · intro hk
      have hk' := List.nodup_append.1 hk
      have hgone : tag ∉ (h.table.eraseP (fun e => e.tag == tag)).map TableEntry.tag := by
        rw [eraseP_eq_filter TableEntry.tag tag _ hk'.1]; simp
      have hfresh : tag ∉ h.cache.map CacheEntry.tag :=
        fun hm => hk'.2.2 _ (List.mem_map_of_mem hmem) _ hm htag
      have hall : ((h.table.eraseP (fun e => e.tag == tag)).map TableEntry.tag
          ++ (h.cache.map CacheEntry.tag ++ [tag])).Nodup := by
        rw [← List.append_assoc]
        refine List.Nodup.append (hk.sublist (herase.append (.refl _))) (List.nodup_singleton _) ?_
        rw [List.disjoint_singleton, List.mem_append]
        exact fun hm => hm.elim hgone hfresh
      refine hall.sublist ((List.Sublist.refl _).append ?_)
      simp only [HostLink.cacheReply]
      split_ifs
      · rw [← htag]
        simpa using ((List.drop_sublist 1 _).map CacheEntry.tag :
          (((h.cache ++ [(⟨e.tag, e.kind, e.length, e.check, f⟩ : CacheEntry)]).drop 1).map CacheEntry.tag).Sublist _)
      · simp [htag]
  · constructor
    · rintro ⟨ht, hc, ha, ho⟩
      exact ⟨hlen.trans ht, hc, ha, ho⟩
    · exact fun hk => hk.sublist (herase.append (.refl _))

/-- The answer that has been sent leaves the list (R186). -/
theorem HostLink.answerSent_keeps (h : HostLink) :
    h.Keeps { h with sending := none, answers := h.answers.drop 1 } := by
  refine ⟨?_, id⟩
  rintro ⟨ht, hc, ha, ho⟩
  exact ⟨ht, hc, by simp only [List.length_drop]; omega, ho⟩

/-! ### The Report Unit -/

/-- The report queue is within its room and the count of reports lost within its byte (R191, R196). -/
def Reports.bounded (r : Reports) : Prop := r.queue.length ≤ Config.reportRoom ∧ r.lost ≤ 255

/-- A change of the Report Unit that keeps its bounds and the order of its queue. -/
structure Reports.Keeps (r q : Reports) : Prop where
  bounded : r.bounded → q.bounded
  inOrder : r.inOrder → q.inOrder

theorem Reports.Keeps.rfl {r : Reports} : r.Keeps r := ⟨id, id⟩

theorem Reports.Keeps.trans {r q u : Reports} (a : r.Keeps q) (b : q.Keeps u) : r.Keeps u :=
  ⟨b.bounded ∘ a.bounded, b.inOrder ∘ a.inOrder⟩

/-- Taken from the end of an n-record queue, the sequences count back from the counter (R191). -/
def sequencesBefore (next : Byte) (n : Nat) : List Byte := (List.range n).map (fun i => next - byteOf (n - i))

/-- One record more: the counter's value is the last sequence. -/
theorem sequencesBefore_succ (next : Byte) (n : Nat) :
    sequencesBefore (next + 1) (n + 1) = sequencesBefore next n ++ [next] := by
  have hlast : next + 1 - byteOf (n + 1 - n) = next := by
    rw [show n + 1 - n = 1 by omega]; simp [byteOf]
  simp only [sequencesBefore, List.range_succ, List.map_append, List.map_cons, List.map_nil, hlast]
  congr 1
  refine List.map_congr_left fun i hi => ?_
  have := List.mem_range.1 hi
  rw [show n + 1 - i = (n - i) + 1 by omega]
  have hone : byteOf (n - i + 1) = byteOf (n - i) + 1 := BitVec.ofNat_add _ _
  rw [hone]
  exact add_sub_add_right_eq_sub _ _ _

/-- Records taken from the front leave the sequences of the others. -/
theorem sequencesBefore_drop (next : Byte) (n k : Nat) :
    (sequencesBefore next n).drop k = sequencesBefore next (n - k) := by
  apply List.ext_getElem
  · simp [sequencesBefore]
  · intro i h1 h2
    simp only [sequencesBefore, List.getElem_drop, List.getElem_map, List.getElem_range]
    congr 2; omega

/-- A WAITING record joins a queue that has room, with the counter's value (R191). -/
theorem Reports.enqueue_inOrder {r : Reports} (h : r.inOrder) (hroom : r.queue.length < Config.reportRoom)
    (k : ReportKind) (cycle : Cycle) (epoch : Byte) (body : List Byte) : (r.enqueue k cycle epoch body).inOrder := by
  obtain ⟨-, hseq, hsent, hfew, hmark⟩ := h
  refine ⟨?_, ?_, ?_, ?_, ?_⟩
  · simpa [Reports.enqueue] using hroom
  · have hseq : r.queue.map ReportRecord.seq = sequencesBefore r.next r.queue.length := hseq
    show (r.queue ++ [_]).map ReportRecord.seq = sequencesBefore (r.next + 1) (r.queue ++ [_]).length
    rw [List.map_append, hseq, List.length_append, List.length_singleton, sequencesBefore_succ]
    rfl
  · simp only [Reports.enqueue, List.map_append, List.map_cons, List.map_nil]
    refine List.pairwise_append.2 ⟨hsent, List.pairwise_singleton _ _, ?_⟩
    intro a _ b hb hset
    obtain rfl := List.mem_singleton.1 hb
    simp [ReportRecord.isSent] at hset
  · simpa [Reports.enqueue, ReportRecord.isSent] using hfew
  · intro hm
    have := hmark hm
    omega

/-- An offer queues a record while there is room, and else sets the marker at a full queue (R191, R192, R196). -/
theorem Reports.offer_keeps (r : Reports) (k : ReportKind) (cycle : Cycle) (epoch : Byte) (body : List Byte) :
    r.Keeps (r.offer k cycle epoch body) := by
  unfold Reports.offer
  split_ifs with hon hroom
  · refine ⟨?_, fun h => Reports.enqueue_inOrder h hroom k cycle epoch body⟩
    rintro ⟨-, hl⟩
    exact ⟨by simpa [Reports.enqueue] using hroom, hl⟩
  · constructor
    · rintro ⟨hq, -⟩
      exact ⟨hq, by simp [Reports.lose]⟩
    · rintro ⟨hq, hseq, hsent, hfew, -⟩
      exact ⟨hq, hseq, hsent, hfew, fun _ => by simp only [Reports.lose]; omega⟩
  · exact .rfl

/-- Records from the front of the queue leave it (R195). -/
theorem Reports.drop_inOrder {r : Reports} (h : r.inOrder) (hm : r.marker = false) (count : Nat) :
    Reports.inOrder { r with queue := r.queue.drop count } := by
  obtain ⟨hq, hseq, hsent, hfew, -⟩ := h
  refine ⟨?_, ?_, ?_, ?_, by simp [hm]⟩
  · simp only [List.length_drop]; omega
  · have hseq : r.queue.map ReportRecord.seq = sequencesBefore r.next r.queue.length := hseq
    show (r.queue.drop count).map ReportRecord.seq = sequencesBefore r.next (r.queue.drop count).length
    rw [List.map_drop, hseq, sequencesBefore_drop, List.length_drop]
  · rw [List.map_drop]
    exact hsent.sublist (List.drop_sublist _ _)
  · exact (((List.drop_sublist count r.queue).filter _).length_le).trans hfew

/-- An acknowledgement of at least one record makes room, in which a set marker becomes an OVERFLOW record (R195,
R196). -/
theorem Reports.acknowledge_keeps (r : Reports) (count : Nat) (hc : 0 < count) (hr : 0 < r.queue.length)
    (cycle : Cycle) (epoch : Byte) :
    r.Keeps (Reports.queueOverflow { r with queue := r.queue.drop count } cycle epoch) := by
  have hdrop : (r.queue.drop count).length < r.queue.length := by simp only [List.length_drop]; omega
  unfold Reports.queueOverflow
  split_ifs with hm
  · constructor
    · rintro ⟨hq, -⟩
      exact ⟨by simp [Reports.enqueue, -List.length_drop]; omega, by simp⟩
    · intro h
      have hplain : Reports.inOrder { r with marker := false } := ⟨h.1, h.2.1, h.2.2.1, h.2.2.2.1, by simp⟩
      have hroom : (r.queue.drop count).length < Config.reportRoom := by have := h.1; omega
      have := Reports.enqueue_inOrder (Reports.drop_inOrder hplain rfl count) hroom .overflow cycle epoch [byteOf r.lost]
      exact ⟨this.1, this.2.1, this.2.2.1, this.2.2.2.1, by simp⟩
  · refine ⟨fun ⟨hq, hl⟩ => ⟨hdrop.le.trans hq, hl⟩, fun h => ?_⟩
    exact Reports.drop_inOrder h (by simpa using hm) count

/-- A change of states that leaves each record SENT or WAITING keeps the queue in order (R193, R194). -/
theorem Reports.restate_keeps (r : Reports) (p : ReportRecord → Bool) (st : RecordState) (hst : st ≠ .waiting)
    (hp : ∀ x, p x = true → x.state ≠ .waiting) :
    r.Keeps { r with queue := updateFirst p (fun x => { x with state := st }) r.queue } := by
  have hseq : (updateFirst p (fun x => { x with state := st }) r.queue).map ReportRecord.seq
      = r.queue.map ReportRecord.seq := updateFirst_map _ _ _ (by intros; rfl) _
  have hsent : (updateFirst p (fun x => { x with state := st }) r.queue).map ReportRecord.isSent
      = r.queue.map ReportRecord.isSent :=
    updateFirst_map _ _ _ (fun x hx => by
      exact (bne_iff_ne.2 hst).trans (bne_iff_ne.2 (hp x hx)).symm) _
  have hcount (l : List ReportRecord) : (l.filter ReportRecord.isSent).length
      = ((l.map ReportRecord.isSent).filter id).length := by
    rw [List.filter_map]; simp
  constructor
  · rintro ⟨hq, hl⟩
    exact ⟨by simpa using hq, hl⟩
  · rintro ⟨hq, hs, ho, hf, hm⟩
    refine ⟨by simpa using hq, by simpa [hseq] using hs, by simpa [hsent] using ho, ?_, by simpa using hm⟩
    rw [hcount] at hf ⊢
    simpa only [hsent] using hf

/-- The record that a free transmitter takes stands in the queue: SENT and due, or the oldest WAITING one while fewer
than 4 are SENT (R193, R194). -/
theorem Reports.pick_some {r : Reports} {x : ReportRecord} (h : r.pick = some x) :
    ∃ before after, r.queue = before ++ x :: after ∧
      (x.isSent = true ∨ x.isSent = false ∧ (∀ y ∈ before, y.isSent = true) ∧
        (r.queue.filter ReportRecord.isSent).length < Config.sentRoom) := by
  unfold Reports.pick at h
  split at h
  · next y hy =>
    obtain rfl := Option.some.inj h
    obtain ⟨hdue, before, after, hq, -⟩ := List.find?_eq_some_iff_append.1 hy
    exact ⟨before, after, hq, .inl (by simp [ReportRecord.isSent, eq_of_beq hdue])⟩
  · split at h
    · next hfew =>
      obtain ⟨hwait, before, after, hq, hbefore⟩ := List.find?_eq_some_iff_append.1 h
      refine ⟨before, after, hq, .inr ⟨by simp [ReportRecord.isSent, eq_of_beq hwait], fun y hy => ?_, hfew⟩⟩
      simpa [ReportRecord.isSent, bne] using hbefore y hy
    · simp at h

/-- The sending of the record that is taken leaves the queue in order (R193). -/
theorem Reports.beginSending_keeps {r : Reports} {x : ReportRecord} (h : r.pick = some x) :
    r.Keeps (r.beginSending x.seq) := by
  refine ⟨fun ⟨hq, hl⟩ => ⟨by simpa [Reports.beginSending] using hq, hl⟩, fun ho => ?_⟩
  obtain ⟨before, after, hqueue, hx⟩ := Reports.pick_some h
  have hnodup := Reports.inOrder.seq_nodup ho
  obtain ⟨hq, hseq, hsent, hfew, hmark⟩ := ho
  have hne : ∀ y ∈ before, (y.seq == x.seq) = false := by
    rw [hqueue, List.map_append, List.map_cons] at hnodup
    have hapart := (List.nodup_append.1 hnodup).2.2
    intro y hy
    simpa using hapart _ (List.mem_map_of_mem hy) _ List.mem_cons_self
  have hnew : (r.beginSending x.seq).queue = before ++ { x with state := .sent .unset } :: after := by
    simp only [Reports.beginSending, hqueue]
    exact updateFirst_split _ _ before x after hne (by simp)
  have hlen : (r.beginSending x.seq).queue.length = r.queue.length := by simp [hnew, hqueue]
  have hseqs : (r.beginSending x.seq).queue.map ReportRecord.seq = r.queue.map ReportRecord.seq := by
    simp [hnew, hqueue]
  have hnewSent : ReportRecord.isSent { x with state := .sent .unset } = true := rfl
  refine ⟨hlen.trans_le hq, ?_, ?_, ?_, fun hm => hlen.trans (hmark hm)⟩
  · rw [hseqs, hlen]
    exact hseq
  · rw [hqueue] at hsent
    simp only [List.map_append, List.map_cons, List.pairwise_append, List.pairwise_cons, List.forall_mem_cons,
      List.forall_mem_map] at hsent
    obtain ⟨hbefore, ⟨-, hafter⟩, hcross⟩ := hsent
    rw [hnew]
    simp only [List.map_append, List.map_cons, List.pairwise_append, List.pairwise_cons, List.forall_mem_cons,
      List.forall_mem_map, hnewSent, implies_true, true_and]
    refine ⟨hbefore, hafter, fun y hy => ⟨fun _ => ?_, (hcross y hy).2⟩⟩
    rcases hx with hx | ⟨-, hx, -⟩
    · exact (hcross y hy).1 hx
    · exact hx y hy
  · rw [hqueue] at hfew hx
    simp only [hnew, List.filter_append, List.filter_cons, List.length_append, hnewSent, if_true,
      List.length_cons] at hfew hx ⊢
    rcases hx with hx | ⟨hx, -, hroom⟩
    · simpa only [hx, if_true, List.length_cons] using hfew
    · simp only [hx, Bool.false_eq_true, if_false] at hroom
      omega

/-- What the transmitter takes next keeps the Host Link's tables and the order of the reports (R185, R193). -/
theorem State.transmit_keeps (s : State) : s.hlk.Keeps s.transmit.hlk ∧ s.rpu.Keeps s.transmit.rpu := by
  constructor
  · exact .of_eq (by simp) (by simp) (by simp) (by simp)
  · rcases s.transmit_rpu with h | ⟨x, hx, h⟩
    · rw [h]; exact .rfl
    · rw [h]; exact Reports.beginSending_keeps hx

end Sys2Proof.Machine
end

section
/-! SUPPORT. What the operations of the Resource Ledger keep: the units in all (R34), and each channel in its one place
(R35). -/

namespace Sys2Proof.Machine

/-- A change of the ledger that keeps the units in all, and each channel in one place. -/
structure Ledger.Keeps (l m : Ledger) : Prop where
  units : m.units = l.units
  partitioned : l.partitioned → m.partitioned

theorem Ledger.Keeps.rfl {l : Ledger} : l.Keeps l := ⟨Eq.refl _, id⟩

theorem Ledger.Keeps.trans {l m n : Ledger} (a : l.Keeps m) (b : m.Keeps n) : l.Keeps n :=
  ⟨b.units.trans a.units, b.partitioned ∘ a.partitioned⟩

/-- A channel is in a set gathered of two exactly if it is in one. -/
theorem hasChannel_or (a b : ChannelSet) (c : Nat) : hasChannel (a ||| b) c = (hasChannel a c || hasChannel b c) :=
  BitVec.getLsbD_or

/-- A channel of the trunk is in what is left of a set exactly if it is in the set and not in what is taken away. -/
theorem hasChannel_and_not (a b : ChannelSet) {c : Nat} (hc : c < 40) :
    hasChannel (a &&& ~~~b) c = (hasChannel a c && !hasChannel b c) := by
  simp [hasChannel, hc]

/-- Two places of which a channel is in at most one count as their union does. -/
theorem toNat_or_of_apart {a b : Bool} (h : a.toNat + b.toNat ≤ 1) : (a || b).toNat = a.toNat + b.toNat := by
  cases a <;> cases b <;> simp at h ⊢

/-! ### A party's account -/

/-- A change of a party's account that leaves its claimed units and its held channels. -/
theorem Ledger.update_keeps (l : Ledger) (p : Party) (f : Account → Account)
    (h : ∀ a, (f a).claimed = a.claimed ∧ (f a).held = a.held) : l.Keeps (l.update p f) := by
  refine ⟨l.update_units p f (fun a => (h a).1), fun hp c hc => ?_⟩
  rw [← hp c hc]
  cases p with
  | host => simp [Ledger.update, Ledger.places, (h l.host).2]
  | station t =>
    simp only [Ledger.update, Ledger.places]
    rw [updateFirst_map (fun (x : StationClaim) => (hasChannel x.account.held c).toNat)]
    intro a _
    simp only [(h a.account).2]

/-- Charging, binding and freeing the charge and the channel of a stream (R53 to R56). -/
theorem Ledger.freeStream_keeps (l : Ledger) (r : StreamRecord) : l.Keeps (l.freeStream r) := by
  refine ⟨l.freeStream_units r, ?_⟩
  unfold Ledger.freeStream
  split
  · intro hp c hc
    rw [← hp c hc]
    simp only [Ledger.dropHeld, Ledger.places]
    rw [updateFirst_map (fun (h : Holding) => (hasChannel h.channels c).toNat)]
    exact fun _ _ => rfl
  · have hcharge : l.Keeps (l.uncharge r.owner r.charge) := l.update_keeps _ _ (by intro; exact ⟨rfl, rfl⟩)
    have hbind : (l.uncharge r.owner r.charge).Keeps ((l.uncharge r.owner r.charge).unbind r.owner r.channel) :=
      Ledger.update_keeps _ _ _ (by intro; exact ⟨rfl, rfl⟩)
    exact (hcharge.trans hbind).partitioned

/-- The ledger step of an ADMIT (R96). -/
theorem Ledger.chargeAndBind_keeps {l m : Ledger} {a : AdmitArgs} {id : Nat} (h : l.chargeAndBind a id = .ok m) :
    l.Keeps m := by
  unfold Ledger.chargeAndBind at h
  split at h
  · simp at h
  · next l1 h1 =>
    split at h
    · simp at h
    · next l2 h2 =>
      obtain rfl := Except.ok.inj h
      obtain ⟨-, rfl, -⟩ := Ledger.charge_some h1
      obtain ⟨-, rfl, -⟩ := Ledger.bind_some h2
      refine Ledger.Keeps.trans (m := l.update a.owner _) (Ledger.update_keeps _ _ _ ?_)
        (Ledger.update_keeps _ _ _ ?_)
      · intro; exact ⟨rfl, rfl⟩
      · intro; exact ⟨rfl, rfl⟩

/-- The ledger step of an edit of a stream (R96). -/
theorem Ledger.chargeEdit_keeps {l m : Ledger} {r : StreamRecord} {op : EditOp} (h : l.chargeEdit r op = some m) :
    l.Keeps m := by
  unfold Ledger.chargeEdit at h
  split at h
  · obtain ⟨-, rfl, -⟩ := Ledger.charge_some h
    exact Ledger.update_keeps _ _ _ (by intro; exact ⟨rfl, rfl⟩)
  · obtain rfl := Option.some.inj h
    exact .rfl

/-! ### Claim records and holdings -/

/-- A claim record is released whole to free (R57). -/
theorem Ledger.releaseClaim_keeps (l : Ledger) (t : Tag) : l.Keeps (l.releaseClaim t) := by
  refine ⟨l.releaseClaim_units t, fun hp c hc => ?_⟩
  have hone := hp c hc
  simp only [Ledger.releaseClaim, Ledger.account?]
  cases hf : l.claims.find? (fun c => c.tag == t) with
  | none => exact hone
  | some x =>
    have hsum := sum_eraseP (fun (x : StationClaim) => (hasChannel x.account.held c).toNat) (fun x => x.tag == t) l.claims
    rw [hf] at hsum
    simp only [Option.map_some, Option.getD_some, Ledger.places, hasChannel_or] at hsum hone ⊢
    rw [toNat_or_of_apart (by omega)]
    omega

/-- A holding is released to free (R51, R153, R156). -/
theorem Ledger.releaseHolding_keeps (l : Ledger) (t : Tag) : l.Keeps (l.releaseHolding t) := by
  refine ⟨l.releaseHolding_units t, fun hp c hc => ?_⟩
  have hone := hp c hc
  simp only [Ledger.releaseHolding, Ledger.holding?]
  cases hf : l.holdings.find? (fun h => h.tag == t) with
  | none => exact hone
  | some x =>
    have hsum := sum_eraseP (fun (x : Holding) => (hasChannel x.channels c).toNat) (fun x => x.tag == t) l.holdings
    rw [hf] at hsum
    simp only [Option.map_some, Option.getD_some, Ledger.places, hasChannel_or] at hsum hone ⊢
    rw [toNat_or_of_apart (by omega)]
    omega

/-- A tag's claim record becomes a new holding (R151). -/
theorem State.newHolding_keeps {s : State} {t : Tag} {a : Account} (h : s.lgr.account? (.station t) = some a) :
    s.lgr.Keeps (s.newHolding t a).lgr := by
  obtain ⟨x, hf, rfl⟩ := Option.map_eq_some_iff.1 h
  constructor
  · have hsum := sum_eraseP (fun (x : StationClaim) => x.account.claimed) (fun x => x.tag == t) s.lgr.claims
    rw [hf] at hsum
    simp only [Option.map_some, Option.getD_some] at hsum
    simp only [State.newHolding, Ledger.units, Ledger.claimedTotal, Ledger.holdingTotal, List.map_append, List.map_cons,
      List.map_nil, List.sum_append, List.sum_singleton]
    omega
  · intro hp c hc
    rw [← hp c hc]
    have hsum := sum_eraseP (fun (x : StationClaim) => (hasChannel x.account.held c).toNat) (fun x => x.tag == t)
      s.lgr.claims
    rw [hf] at hsum
    simp only [Option.map_some, Option.getD_some] at hsum
    simp only [State.newHolding, Ledger.places, List.map_append, List.map_cons, List.map_nil, List.sum_append,
      List.sum_singleton]
    omega

/-- A tag's claim record merges into its holding (R151, R152). -/
theorem State.mergeHolding_keeps {s : State} {t : Tag} {a : Account} {h : Holding}
    (ha : s.lgr.account? (.station t) = some a) (hh : s.lgr.holding? t = some h) :
    s.lgr.Keeps (s.mergeHolding t a).lgr := by
  obtain ⟨x, hf, rfl⟩ := Option.map_eq_some_iff.1 ha
  have hh : s.lgr.holdings.find? (fun h => h.tag == t) = some h := hh
  constructor
  · have hclaims := sum_eraseP (fun (x : StationClaim) => x.account.claimed) (fun x => x.tag == t) s.lgr.claims
    have hholdings := sum_updateFirst Holding.units (fun h => h.tag == t)
      (fun h => { h with
        units := h.units + x.account.claimed
        channels := h.channels ||| x.account.held
        streams := heldList s.streams t h.streams }) s.lgr.holdings
    rw [hf] at hclaims
    rw [hh] at hholdings
    simp only [Option.map_some, Option.getD_some] at hclaims hholdings
    simp only [State.mergeHolding, Ledger.units, Ledger.claimedTotal, Ledger.holdingTotal]
    omega
  · intro hp c hc
    have hone := hp c hc
    have hclaims := sum_eraseP (fun (x : StationClaim) => (hasChannel x.account.held c).toNat) (fun x => x.tag == t)
      s.lgr.claims
    have hholdings := sum_updateFirst (fun (h : Holding) => (hasChannel h.channels c).toNat) (fun h => h.tag == t)
      (fun h => { h with
        units := h.units + x.account.claimed
        channels := h.channels ||| x.account.held
        streams := heldList s.streams t h.streams }) s.lgr.holdings
    have hpart := sum_eraseP (fun (h : Holding) => (hasChannel h.channels c).toNat) (fun h => h.tag == t) s.lgr.holdings
    rw [hf] at hclaims
    rw [hh] at hholdings hpart
    simp only [Option.map_some, Option.getD_some, hasChannel_or] at hclaims hholdings hpart
    simp only [State.mergeHolding, Ledger.places] at hone ⊢
    rw [toNat_or_of_apart (by omega)] at hholdings
    omega

/-! ### Exchanges and RECLAIM -/

/-- A record made sure of holds no channel yet (R37). -/
theorem Ledger.ensure_keeps (l : Ledger) (p : Party) : l.Keeps (l.ensure p) := by
  refine ⟨l.ensure_units p, fun hp c hc => ?_⟩
  rw [← hp c hc]
  unfold Ledger.ensure
  split
  · rfl
  · split
    · rfl
    · simp [Ledger.places, Account.empty, hasChannel]

/-- A record that is removed because it holds nothing takes no channel with it (R37). -/
theorem Ledger.dropEmpty_keeps (l : Ledger) (p : Party) : l.Keeps (l.dropEmpty p) := by
  refine ⟨l.dropEmpty_units p, fun hp c hc => ?_⟩
  rw [← hp c hc]
  cases p with
  | host => rfl
  | station t =>
    simp only [Ledger.dropEmpty, Ledger.account?]
    cases hf : l.claims.find? (fun c => c.tag == t) with
    | none => rfl
    | some x =>
      simp only [Option.map_some]
      split
      · next h0 =>
        have hsum := sum_eraseP (fun (x : StationClaim) => (hasChannel x.account.held c).toNat) (fun x => x.tag == t)
          l.claims
        rw [hf] at hsum
        simp only [Option.map_some, Option.getD_some, h0.2] at hsum
        simp [Ledger.places, hasChannel] at hsum ⊢
        omega
      · rfl

/-- What a change of a party's account moves of a sum over all accounts, where the party has a record. -/
theorem Ledger.update_moves (l : Ledger) (p : Party) (f : Account → Account) (g : Account → Nat) {a : Account}
    (h : l.account? p = some a) :
    g (l.update p f).host + ((l.update p f).claims.map (fun x => g x.account)).sum + g a
      = g l.host + (l.claims.map (fun x => g x.account)).sum + g (f a) := by
  cases p with
  | host =>
    obtain rfl := Option.some.inj h
    simp only [Ledger.update]
    omega
  | station t =>
    obtain ⟨x, hf, rfl⟩ := Option.map_eq_some_iff.1 h
    have hsum := sum_updateFirst (fun (x : StationClaim) => g x.account) (fun x => x.tag == t)
      (fun x => { x with account := f x.account }) l.claims
    rw [hf] at hsum
    simp only [Option.map_some, Option.getD_some] at hsum
    simp only [Ledger.update]
    omega

/-- A change of a party's account together with the free pool, where the party has a record, keeps units and channels
if it does so for the account and the pool by themselves. -/
theorem Ledger.move_keeps {l : Ledger} {p : Party} {a b : Account} (h : l.account? p = some a) (f : Account → Account)
    (hf : f a = b) (n : Nat) (x : ChannelSet) (hunits : n + b.claimed = l.freeUnits + a.claimed)
    (hset : ∀ c < 40, (hasChannel l.freeChannels c).toNat + (hasChannel a.held c).toNat ≤ 1 →
      (hasChannel x c).toNat + (hasChannel b.held c).toNat
        = (hasChannel l.freeChannels c).toNat + (hasChannel a.held c).toNat) :
    l.Keeps { l.update p f with freeUnits := n, freeChannels := x } := by
  constructor
  · have hsum := l.update_moves p f Account.claimed h
    simp only [Ledger.units, Ledger.claimedTotal, Ledger.holdingTotal, (l.update_frame p f).2.2.1] at hsum ⊢
    rw [hf] at hsum
    omega
  · intro hp c hc
    have hone := hp c hc
    have hsum := l.update_moves p f (fun a => (hasChannel a.held c).toNat) h
    have hle : (hasChannel a.held c).toNat
        ≤ (hasChannel l.host.held c).toNat + (l.claims.map (fun x => (hasChannel x.account.held c).toNat)).sum := by
      cases p with
      | host => obtain rfl := Option.some.inj h; omega
      | station t =>
        obtain ⟨y, hy, rfl⟩ := Option.map_eq_some_iff.1 h
        have := List.single_le_sum (fun _ _ => Nat.zero_le _) _
          (List.mem_map_of_mem (f := fun (x : StationClaim) => (hasChannel x.account.held c).toNat)
            (List.mem_of_find?_eq_some hy))
        omega
    simp only [Ledger.places, (l.update_frame p f).2.2.1, hf] at hsum hone ⊢
    have := hset c hc (by omega)
    omega

/-- A record made sure of takes nothing from the free pool (R37). -/
theorem Ledger.ensure_free (l : Ledger) (p : Party) :
    (l.ensure p).freeUnits = l.freeUnits ∧ (l.ensure p).freeChannels = l.freeChannels ∧
    (l.ensure p).holdings = l.holdings := by
  unfold Ledger.ensure
  split
  · exact ⟨rfl, rfl, rfl⟩
  · split <;> exact ⟨rfl, rfl, rfl⟩

/-- R42: the units claimed leave the free pool. -/
theorem Ledger.claimUnits_keeps {l : Ledger} {p : Party} {proposed : Nat} (h : proposed < l.freeUnits) :
    l.Keeps (l.claimUnits p l.freeUnits proposed) := by
  refine (l.ensure_keeps p).trans (Ledger.move_keeps (l.account?_ensure p)
    (fun a => { a with claimed := a.claimed + (l.freeUnits - proposed) }) rfl proposed
    ((l.ensure p).update p _).freeChannels ?_ ?_)
  · simp only [(l.ensure_free p).1]
    omega
  · intro c _ _
    simp only [(Ledger.update_frame _ _ _).2.1]

/-- R43: the units released join the free pool. -/
theorem Ledger.releaseUnits_keeps {l : Ledger} {p : Party} {proposed : Nat} (h : l.freeUnits < proposed)
    (hheld : proposed - l.freeUnits ≤ (l.account p).claimed) : l.Keeps (l.releaseUnits p l.freeUnits proposed) := by
  have hsome : (l.account? p).isSome = true :=
    Ledger.account?_isSome_of_ne fun hnone => by simp only [hnone, Account.empty] at hheld; omega
  obtain ⟨a, ha⟩ := Option.isSome_iff_exists.1 hsome
  have hown : l.account p = a := by simp [Ledger.account, ha]
  rw [hown] at hheld
  refine (Ledger.move_keeps ha (fun a => { a with claimed := a.claimed - (proposed - l.freeUnits) }) rfl proposed
    (l.update p _).freeChannels ?_ ?_).trans (Ledger.dropEmpty_keeps _ p)
  · simp only
    omega
  · intro c _ _
    simp only [(Ledger.update_frame _ _ _).2.1]

/-- EXCHANGE_UNITS, whatever its outcome (R41 to R43). -/
theorem Ledger.exchangeUnits_keeps (l : Ledger) (budget : Nat) (rights : Rights) (p : Party) (expected proposed : Nat) :
    l.Keeps (l.exchangeUnits budget rights p expected proposed).1 := by
  unfold Ledger.exchangeUnits
  generalize (!(if proposed = expected then rights.query else rights.claim)) = refused
  simp only
  split_ifs with h1 h2 h3 h4 h5 h6 h7
  · exact .rfl
  · exact .rfl
  · exact .rfl
  · exact .rfl
  · rw [not_not] at h3
    rw [← h3] at h5 ⊢
    exact Ledger.claimUnits_keeps h5
  · exact .rfl
  · exact .rfl
  · rw [not_not] at h3
    rw [← h3] at h4 h5 h6 ⊢
    exact Ledger.releaseUnits_keeps (by omega) (by omega)

/-- EXCHANGE_CHANNELS moves channels between the free pool and the party's record (R46). -/
theorem Ledger.moveChannels_keeps {l : Ledger} {p : Party} {n : ChannelSet} (hmoves : n ≠ l.freeChannels)
    (hheld : n &&& ~~~l.freeChannels &&& ~~~(l.account p).held = 0) :
    l.Keeps (l.moveChannels p l.freeChannels n) := by
  have hbits (c : Nat) (hc : c < 40) (hn : hasChannel n c = true) (hf : hasChannel l.freeChannels c = false) :
      hasChannel (l.account p).held c = true := by
    by_contra hnot
    have := congrArg (fun x => hasChannel x c) hheld
    simp only [hasChannel_and_not _ _ hc, hn, hf] at this
    simp [hasChannel] at this hnot
    simp [hnot] at this
  have hmove {m : Ledger} (hm : m.account? p = some (l.account p)) (hfree : m.freeChannels = l.freeChannels) :
      m.Keeps ({ m.update p (fun a => { a with
        held := (a.held ||| (l.freeChannels &&& ~~~n)) &&& ~~~(n &&& ~~~l.freeChannels) }) with
        freeChannels := n } : Ledger) := by
    refine Ledger.move_keeps hm _ rfl (m.update p _).freeUnits n ?_ ?_
    · simp
    · intro c hc hle
      have hb := hbits c hc
      simp only [hfree, hasChannel_and_not _ _ hc, hasChannel_or] at hle ⊢
      revert hle hb
      cases hasChannel n c <;> cases hasChannel l.freeChannels c <;> cases hasChannel (l.account p).held c <;> simp
  unfold Ledger.moveChannels
  simp only
  refine Ledger.Keeps.trans ?_ (Ledger.dropEmpty_keeps _ p)
  split
  · next hclaim =>
    have hrecord : (l.account? p).isSome = true := by
      refine Ledger.account?_isSome_of_ne fun hnone => hmoves (eq_of_and_not_eq_zero ?_ hclaim)
      rwa [hnone, show ~~~Account.empty.held = BitVec.allOnes 40 from rfl, BitVec.and_allOnes] at hheld
    obtain ⟨a, ha⟩ := Option.isSome_iff_exists.1 hrecord
    exact hmove (by rw [ha, Ledger.account, ha]; rfl) rfl
  · exact (l.ensure_keeps p).trans (hmove (l.account?_ensure p) (l.ensure_free p).2.1)

/-- EXCHANGE_CHANNELS, whatever its outcome (R45, R46). -/
theorem Ledger.exchangeChannels_keeps (l : Ledger) (rights : Rights) (p : Party) (expected proposed : BitVec 256) :
    l.Keeps (l.exchangeChannels rights p expected proposed).1 := by
  unfold Ledger.exchangeChannels
  generalize (!(if proposed = expected then rights.query else rights.claim)) = refused
  generalize (!(setInRange expected && setInRange proposed)) = outOfRange
  simp only
  split_ifs with h1 h2 h3 h4 h5 h6
  · exact .rfl
  · exact .rfl
  · exact .rfl
  · exact .rfl
  · exact .rfl
  · exact .rfl
  · rw [not_not] at h3 h5
    rw [← h3] at h4 h5 ⊢
    exact Ledger.moveChannels_keeps h4 h5

/-- A holding converts into the tag's claim record (R159). -/
theorem Ledger.convertHolding_keeps {l : Ledger} {t : Tag} {h : Holding} (hh : l.holding? t = some h)
    (streams : List StreamRecord) : l.Keeps (l.convertHolding h streams) := by
  have hh : l.holdings.find? (fun x => x.tag == t) = some h := hh
  obtain rfl : h.tag = t := by simpa using List.find?_some hh
  refine (l.ensure_keeps (.station h.tag)).trans ?_
  have hrecord := l.account?_ensure (.station h.tag)
  rw [← (l.ensure_free (.station h.tag)).2.2] at hh
  constructor
  · have hsum := Ledger.update_moves _ _ (fun a => a.takeHolding h streams) Account.claimed hrecord
    have hless := sum_eraseP Holding.units (fun x => x.tag == h.tag) (l.ensure (.station h.tag)).holdings
    rw [hh] at hless
    simp only [Option.map_some, Option.getD_some, Account.takeHolding] at hsum hless
    simp only [Ledger.convertHolding, Ledger.units, Ledger.claimedTotal, Ledger.holdingTotal,
      (Ledger.update_frame _ _ _).2.2.1, (Ledger.update_frame _ _ _).1] at hsum ⊢
    simp only [Account.takeHolding] at hsum ⊢
    omega
  · intro hp c hc
    have hone := hp c hc
    have hsum := Ledger.update_moves _ _ (fun a => a.takeHolding h streams) (fun a => (hasChannel a.held c).toNat) hrecord
    have hless := sum_eraseP (fun (x : Holding) => (hasChannel x.channels c).toNat) (fun x => x.tag == h.tag)
      (l.ensure (.station h.tag)).holdings
    rw [hh] at hless
    have hle : (hasChannel (l.account (.station h.tag)).held c).toNat
        ≤ ((l.ensure (.station h.tag)).claims.map (fun x => (hasChannel x.account.held c).toNat)).sum := by
      obtain ⟨y, hy, hacc⟩ := Option.map_eq_some_iff.1 hrecord
      rw [← hacc]
      exact List.single_le_sum (fun _ _ => Nat.zero_le _) _
        (List.mem_map_of_mem (f := fun (x : StationClaim) => (hasChannel x.account.held c).toNat)
          (List.mem_of_find?_eq_some hy))
    simp only [Option.map_some, Option.getD_some, Account.takeHolding, hasChannel_or] at hsum hless
    simp only [Ledger.convertHolding, Ledger.places, (Ledger.update_frame _ _ _).2.2.1,
      (Ledger.update_frame _ _ _).2.1] at hone hsum ⊢
    simp only [Account.takeHolding] at hsum ⊢
    rw [toNat_or_of_apart (by omega)] at hsum
    omega

end Sys2Proof.Machine
end

section
/-! SUPPORT. What the operations of the Trunk Port, the Roster, the configuration and the stream counters keep (R8, R64,
R131, R135, R141, R142, R150, R164, R175). -/

namespace Sys2Proof.Machine

/-! ### The Trunk Port -/

/-- The outbound queue, the detector's count and each station's parked notices are within their bounds (R131, R164,
R175). -/
def TrunkPort.bounded (t : TrunkPort) : Prop :=
  t.outbound.length ≤ Config.outboundRoom ∧ t.burst ≤ Config.burstUnits ∧
  ∀ p ∈ t.parked, (t.parked.filter (fun x => x.number == p.number)).length ≤ Config.parkedRoom

/-- A frame joins the queue while it has a free entry (R164). -/
theorem TrunkPort.bounded.push {t : TrunkPort} (h : t.bounded) (hroom : t.hasRoom = true) (f : OutFrame) :
    TrunkPort.bounded { t with outbound := t.outbound ++ [f] } := by
  refine ⟨?_, h.2⟩
  simpa [TrunkPort.hasRoom] using hroom

/-- Fewer parked notices are within the bounds too. -/
theorem TrunkPort.bounded.sublist {t : TrunkPort} (h : t.bounded) {l : List ParkedNotice} (hl : l.Sublist t.parked) :
    TrunkPort.bounded { t with parked := l } :=
  ⟨h.1, h.2.1, fun p hp => ((hl.filter _).length_le).trans (h.2.2 p (hl.subset hp))⟩

/-- A notice joins the parked ones of a station that has fewer than 4 (R175). -/
theorem TrunkPort.bounded.park {t : TrunkPort} (h : t.bounded) {number : Nat} {n : Notice}
    (hroom : (t.parked.filter (fun p => p.number == number)).length < Config.parkedRoom) :
    TrunkPort.bounded { t with parked := t.parked ++ [⟨number, n⟩] } := by
  refine ⟨h.1, h.2.1, fun p hp => ?_⟩
  simp only [List.filter_append, List.length_append]
  by_cases hsame : p.number = number
  · rw [hsame]
    simpa using hroom
  · have hold : p ∈ t.parked := by
      rcases List.mem_append.1 hp with hp | hp
      · exact hp
      · exact absurd (congrArg ParkedNotice.number (List.mem_singleton.1 hp)) hsame
    simpa [Ne.symm hsame] using h.2.2 p hold

/-- The oldest of the notices found goes, and so one of them fewer is left. -/
theorem length_filter_eraseP {α : Type} (p : α → Bool) (l : List α) (h : (l.filter p) ≠ []) :
    ((l.eraseP p).filter p).length + 1 = (l.filter p).length := by
  induction l with
  | nil => simp at h
  | cons a l ih =>
    by_cases ha : p a = true
    · simp [ha]
    · simp only [ha, List.filter_cons, Bool.false_eq_true, if_false, not_false_eq_true, List.eraseP_cons_of_neg] at h ⊢
      exact ih h

/-! ### Notices -/

/-- A notice handed over leaves the Trunk Port within its bounds (R164, R175). -/
theorem State.handNotice_bounded {s : State} (h : s.tpt.bounded) (number : Nat) (kind : NoticeKind) (body : List Byte) :
    (s.handNotice number kind body).tpt.bounded := by
  unfold State.handNotice
  split
  · exact h
  · split
    · next hroom =>
      unfold State.joinNotice
      split
      · exact h
      · exact h.push hroom _
    · unfold State.parkNotice
      simp only
      split
      · next hroom => exact h.park hroom
      · next hfull =>
        have hne : s.tpt.parked.filter (fun p => p.number == number) ≠ [] := by
          intro hnil; simp [hnil, Config.parkedRoom] at hfull
        have hone := length_filter_eraseP (fun (p : ParkedNotice) => p.number == number) s.tpt.parked hne
        obtain ⟨p, hp⟩ := List.exists_mem_of_ne_nil _ hne
        obtain ⟨hmem, hnumber⟩ := List.mem_filter.1 hp
        have hle := h.2.2 p hmem
        simp only [eq_of_beq hnumber] at hle
        exact TrunkPort.bounded.park (h.sublist List.eraseP_sublist) (by simp only; omega)

/-- A notice unparked takes the entry of the frame that has just left the queue (R176). -/
theorem State.unpark_bounded {s : State} (h : s.tpt.bounded) (hroom : s.tpt.hasRoom = true) : s.unpark.tpt.bounded := by
  unfold State.unpark
  split
  · exact h
  · next p rest hp =>
    have hrest : TrunkPort.bounded { s.tpt with parked := rest } := h.sublist (by rw [hp]; exact List.sublist_cons_self _ _)
    unfold State.joinNotice
    split
    · exact hrest
    · exact hrest.push hroom _

/-- A frame leaves the queue (R176). -/
theorem TrunkPort.bounded.pop {t : TrunkPort} (h : t.bounded) {f : OutFrame} {rest : List OutFrame}
    (ht : t.outbound = f :: rest) :
    TrunkPort.bounded { t with outbound := rest } ∧ TrunkPort.hasRoom { t with outbound := rest } = true := by
  have hle := h.1
  rw [ht, List.length_cons] at hle
  exact ⟨⟨by simp only; omega, h.2⟩, by simpa [TrunkPort.hasRoom] using hle⟩

/-- The share goes on or ends: the queue and the parked notices stay (R21). -/
@[simp] theorem State.continueShare_queue (s : State) (left : Nat) :
    (s.continueShare left).tpt.outbound = s.tpt.outbound ∧ (s.continueShare left).tpt.parked = s.tpt.parked ∧
    (s.continueShare left).tpt.burst = s.tpt.burst := by
  unfold State.continueShare
  split
  · simp
  · split <;> simp

/-! ### The Roster -/

/-- The roster, the known-tag list and the roll-call period are within their bounds (R135, R141, R142). -/
def Roster.bounded (r : Roster) : Prop :=
  r.stations.length ≤ Config.rosterRoom ∧ r.known.length ≤ Config.knownRoom ∧ r.rollPeriod ≤ Config.rollPeriods

/-- Roster entries stand by rising number of 1 to 24, no tag twice, each with a known-tag entry; known tags are unique,
and the last numbers that they record are of 1 to 24 (R141, R142). -/
structure Roster.Sound (r : Roster) : Prop where
  tags : (r.stations.map Station.tag).Nodup
  rising : (r.stations.map Station.number).Pairwise (· < ·)
  known : (r.known.map Known.tag).Nodup
  numbers : ∀ e ∈ r.stations, 1 ≤ e.number ∧ e.number ≤ Config.rosterRoom
  recorded : ∀ e ∈ r.stations, ∃ k ∈ r.known, k.tag = e.tag
  lasts : ∀ k ∈ r.known, ∀ n, k.last = some n → 1 ≤ n ∧ n ≤ Config.rosterRoom

/-- Rising numbers are distinct (R141). -/
theorem Roster.Sound.numbers_nodup {r : Roster} (h : r.Sound) : (r.stations.map Station.number).Nodup :=
  h.rising.imp (fun hlt => Nat.ne_of_lt hlt)

/-- Numbers of 1 to 24 without repetition are at most 24 (R141). -/
theorem Roster.Sound.length_le {r : Roster} (h : r.Sound) : r.stations.length ≤ Config.rosterRoom := by
  have hsub : r.stations.map Station.number ⊆ List.range' 1 Config.rosterRoom := by
    intro n hn
    obtain ⟨e, he, rfl⟩ := List.mem_map.1 hn
    have := h.numbers e he
    simp only [List.mem_range'_1]
    omega
  simpa using (List.subperm_of_subset h.numbers_nodup hsub).length_le

/-- A change of the Roster that keeps its bounds and its order, and neither takes an entry away nor makes one
DEPARTING. -/
structure Roster.Keeps (r q : Roster) : Prop where
  bounded : r.bounded → q.bounded
  sound : r.Sound → q.Sound
  stays : ∀ e ∈ r.stations, ∃ x ∈ q.stations, x.tag = e.tag ∧ x.number = e.number
  present : ∀ x ∈ q.stations, x.state ≠ .present → ∃ e ∈ r.stations, e.tag = x.tag ∧ e.state ≠ .present

theorem Roster.Keeps.rfl {r : Roster} : r.Keeps r :=
  ⟨id, id, fun e he => ⟨e, he, Eq.refl _, Eq.refl _⟩, fun x hx hs => ⟨x, hx, Eq.refl _, hs⟩⟩

theorem Roster.Keeps.trans {r q u : Roster} (a : r.Keeps q) (b : q.Keeps u) : r.Keeps u := by
  refine ⟨b.bounded ∘ a.bounded, b.sound ∘ a.sound, fun e he => ?_, fun x hx hs => ?_⟩
  · obtain ⟨y, hy, hye, hyn⟩ := a.stays e he
    obtain ⟨z, hz, hzy, hzn⟩ := b.stays y hy
    exact ⟨z, hz, hzy.trans hye, hzn.trans hyn⟩
  · obtain ⟨y, hy, hyx, hys⟩ := b.present x hx hs
    obtain ⟨z, hz, hzy, hzs⟩ := a.present y hy hys
    exact ⟨z, hz, hzy.trans hyx, hzs⟩

/-- The known-tag list alone changes, within its room and with as many tags, or more, for the roster to find. -/
theorem Roster.Keeps.of_known {r : Roster} {l : List Known} (hlen : r.known.length ≤ Config.knownRoom → l.length ≤ Config.knownRoom)
    (hnodup : (r.known.map Known.tag).Nodup → (l.map Known.tag).Nodup)
    (hrecorded : ∀ e ∈ r.stations, (∃ k ∈ r.known, k.tag = e.tag) → ∃ k ∈ l, k.tag = e.tag)
    (hlasts : ∀ k ∈ l, ∀ n, k.last = some n → ∃ x ∈ r.known, x.last = some n) :
    r.Keeps { r with known := l } where
  bounded h := ⟨h.1, hlen h.2.1, h.2.2⟩
  sound h := ⟨h.tags, h.rising, hnodup h.known, h.numbers, fun e he => hrecorded e he (h.recorded e he),
    fun k hk n hn => by
      obtain ⟨x, hx, hxn⟩ := hlasts k hk n hn
      exact h.lasts x hx n hxn⟩
  stays e he := ⟨e, he, Eq.refl _, Eq.refl _⟩
  present x hx hs := ⟨x, hx, Eq.refl _, hs⟩

/-- The element found goes to the end: the list is the same but for its order. -/
theorem eraseP_append_perm {α : Type} {p : α → Bool} {l : List α} {a : α} (h : l.find? p = some a) :
    (l.eraseP p ++ [a]).Perm l := by
  obtain ⟨ha, before, after, rfl, hbefore⟩ := List.find?_eq_some_iff_append.1 h
  rw [List.eraseP_append_right _ (by simpa using hbefore), List.eraseP_cons_of_pos ha, List.append_assoc]
  exact (List.perm_append_singleton a after).append_left before

/-- A tag's known-tag entry moves to the recent end (R142). -/
theorem Roster.touch_keeps (r : Roster) (t : Tag) : r.Keeps (r.touch t) := by
  unfold Roster.touch
  split
  · exact .rfl
  · next k hk =>
    have hperm := eraseP_append_perm hk
    refine .of_known (fun h => hperm.length_eq.trans_le h) (fun h => (hperm.map _).nodup_iff.2 h) ?_ ?_
    · rintro e - ⟨k', hk', htag⟩
      exact ⟨k', hperm.mem_iff.2 hk', htag⟩
    · exact fun k' hk' n hn => ⟨k', hperm.mem_iff.1 hk', hn⟩

/-- Rights change in an entry's place (R147). -/
theorem Roster.putRights_keeps (r : Roster) (t : Tag) (rights : Rights) : r.Keeps (r.putRights t rights) := by
  have htags : (updateFirst (fun k => k.tag == t) (fun k => { k with rights := rights }) r.known).map Known.tag
      = r.known.map Known.tag := updateFirst_map _ _ _ (by intros; rfl) _
  refine .of_known (fun h => by simpa using h) (fun h => by rwa [htags]) ?_ ?_
  · rintro e - ⟨k, hk, htag⟩
    have : e.tag ∈ (updateFirst (fun k => k.tag == t) (fun k => { k with rights := rights }) r.known).map Known.tag := by
      rw [htags, ← htag]; exact List.mem_map_of_mem hk
    obtain ⟨x, hx, hxt⟩ := List.mem_map.1 this
    exact ⟨x, hx, hxt⟩
  · intro k hk n hn
    rcases mem_updateFirst _ _ _ hk with hk | ⟨x, hx, -, rfl⟩
    · exact ⟨k, hk, hn⟩
    · exact ⟨x, hx, hn⟩

/-- A tag without a known-tag entry (R142). -/
theorem Roster.knownOf_eq_none {r : Roster} {t : Tag} : r.knownOf t = none ↔ ∀ k ∈ r.known, k.tag ≠ t := by
  simp [Roster.knownOf]

/-- A new entry joins the known-tag list at the recent end; a full list first gives up an entry whose tag is not in the
roster, and stays as it is where there is none (R142). -/
theorem Roster.addKnown_cases (r : Roster) (k : Known) :
    (∃ l, l.Sublist r.known ∧ (r.known.length ≤ Config.knownRoom → l.length < Config.knownRoom) ∧
      (r.addKnown k).1 = { r with known := l ++ [k] } ∧ ∀ x ∈ r.known, r.holds x.tag = true → x ∈ l) ∨
    (r.addKnown k).1 = r ∧ Config.knownRoom ≤ r.known.length ∧ ∀ x ∈ r.known, r.holds x.tag = true := by
  unfold Roster.addKnown
  split
  · next hroom => exact .inl ⟨r.known, .refl _, fun _ => hroom, rfl, fun x hx _ => hx⟩
  · next hfull =>
    split
    · next v hv =>
      obtain ⟨hout, hmem⟩ := And.intro (List.find?_some hv) (List.mem_of_find?_eq_some hv)
      refine .inl ⟨_, List.eraseP_sublist, fun hle => ?_, rfl, fun x hx hheld => ?_⟩
      · rw [List.length_eraseP_of_mem hmem (by simp)]
        simp only [Config.knownRoom] at *
        omega
      · refine (List.mem_eraseP_of_neg ?_).2 hx
        intro hsame
        simp [← eq_of_beq hsame, hheld] at hout
    · next hnone =>
      refine .inr ⟨rfl, Nat.not_lt.1 hfull, fun x hx => ?_⟩
      simpa using List.find?_eq_none.1 hnone x hx

/-- A new entry of the known-tag list for a tag that has none (R142). -/
theorem Roster.addKnown_keeps {r : Roster} {k : Known} (hk : r.knownOf k.tag = none) (hlast : k.last = none) :
    r.Keeps (r.addKnown k).1 := by
  rcases r.addKnown_cases k with ⟨l, hsub, hroom, heq, hheld⟩ | ⟨heq, -⟩
  · rw [heq]
    refine .of_known (fun h => by simpa using hroom h) (fun h => ?_) ?_ ?_
    · rw [List.map_append]
      refine List.Nodup.append (h.sublist (hsub.map _)) (List.nodup_singleton _) ?_
      simp only [List.map_cons, List.map_nil, List.disjoint_singleton, List.mem_map, not_exists, not_and]
      exact fun x hx => Roster.knownOf_eq_none.1 hk x (hsub.subset hx)
    · rintro e he ⟨x, hx, htag⟩
      have : r.holds x.tag = true := List.any_eq_true.2 ⟨e, he, by simp [htag]⟩
      exact ⟨x, List.mem_append_left _ (hheld x hx this), htag⟩
    · intro x hx n hn
      rcases List.mem_append.1 hx with hx | hx
      · exact ⟨x, hsub.subset hx, hn⟩
      · rw [List.mem_singleton.1 hx, hlast] at hn
        exact absurd hn nofun
  · rw [heq]; exact .rfl

/-- Rights given to a tag, in its entry's place or in a new one (R146, R147). -/
theorem Roster.giveRights_keeps (r : Roster) (t : Tag) (rights : Rights) : r.Keeps (r.giveRights t rights).1 := by
  unfold Roster.giveRights
  split
  · exact r.putRights_keeps t rights
  · next hnone => exact Roster.addKnown_keeps hnone rfl

/-- A roster entry changes in a way that neither the number nor the tag shows, and does not make it DEPARTING. -/
theorem Roster.update_keeps (r : Roster) (number : Nat) (f : Station → Station)
    (h : ∀ e, (f e).tag = e.tag ∧ (f e).number = e.number ∧ (f e).state = e.state) : r.Keeps (r.update number f) := by
  have hmem : ∀ x ∈ updateFirst (fun e => e.number == number) f r.stations,
      ∃ e ∈ r.stations, e.tag = x.tag ∧ e.number = x.number ∧ e.state = x.state := by
    intro x hx
    rcases mem_updateFirst _ _ _ hx with hx | ⟨e, he, -, rfl⟩
    · exact ⟨x, hx, rfl, rfl, rfl⟩
    · exact ⟨e, he, (h e).1.symm, (h e).2.1.symm, (h e).2.2.symm⟩
  have htags : (updateFirst (fun e => e.number == number) f r.stations).map Station.tag = r.stations.map Station.tag :=
    updateFirst_map _ _ _ (fun e _ => (h e).1) _
  have hnumbers : (updateFirst (fun e => e.number == number) f r.stations).map Station.number
      = r.stations.map Station.number := updateFirst_map _ _ _ (fun e _ => (h e).2.1) _
  refine ⟨fun hb => ⟨by simpa [Roster.update] using hb.1, hb.2⟩, fun hs => ?_, fun e he => ?_, fun x hx hst => ?_⟩
  · refine ⟨?_, ?_, hs.known, fun x hx => ?_, fun x hx => ?_, hs.lasts⟩
    · simpa only [Roster.update, htags] using hs.tags
    · simpa only [Roster.update, hnumbers] using hs.rising
    · obtain ⟨e, he, -, hn, -⟩ := hmem x hx
      exact hn ▸ hs.numbers e he
    · obtain ⟨e, he, ht, -⟩ := hmem x hx
      exact ht ▸ hs.recorded e he
  · have hpair := updateFirst_map (fun (x : Station) => (x.tag, x.number)) (fun e => e.number == number) f
      (fun e _ => Prod.ext (h e).1 (h e).2.1) r.stations
    have : (e.tag, e.number) ∈ (updateFirst (fun e => e.number == number) f r.stations).map
        (fun (x : Station) => (x.tag, x.number)) := by
      rw [hpair]; exact List.mem_map_of_mem (f := fun (x : Station) => (x.tag, x.number)) he
    obtain ⟨x, hx, ht⟩ := List.mem_map.1 this
    exact ⟨x, hx, (Prod.mk.inj ht).1, (Prod.mk.inj ht).2⟩
  · obtain ⟨e, he, ht, -, hes⟩ := hmem x hx
    exact ⟨e, he, ht, hes ▸ hst⟩

/-! ### Numbering (R136) -/

/-- Insertion in its place of an element with a key of its own keeps the keys rising. -/
theorem insertBy_rising {α : Type} (key : α → Nat) (x : α) (l : List α) (h : (l.map key).Pairwise (· < ·))
    (hx : ∀ a ∈ l, key a ≠ key x) : ((insertBy (fun a b => key a < key b) x l).map key).Pairwise (· < ·) := by
  induction l with
  | nil => simp [insertBy]
  | cons a l ih =>
    simp only [List.map_cons, List.pairwise_cons, List.forall_mem_map, List.forall_mem_cons] at h hx
    unfold insertBy
    split
    · next hlt =>
      simp only [List.map_cons, List.pairwise_cons, List.forall_mem_map, mem_insertBy]
      refine ⟨?_, ih h.2 hx.2⟩
      rintro b (rfl | hb)
      · simpa using hlt
      · exact h.1 b hb
    · next hge =>
      have hlt : key x < key a := by have := hx.1; simp at hge; omega
      simp only [List.map_cons, List.pairwise_cons, List.forall_mem_cons, List.forall_mem_map]
      exact ⟨⟨hlt, fun b hb => hlt.trans (h.1 b hb)⟩, h⟩

/-- The number found for a tag is one that no entry holds, of 1 to 24, and found only while the roster has room (R136). -/
theorem Roster.numberFor_spec {r : Roster} {t : Tag} (h : r.numberFor t ≠ 0) :
    r.stations.length < Config.rosterRoom ∧ (∀ e ∈ r.stations, e.number ≠ r.numberFor t) ∧
    ((∀ k ∈ r.known, ∀ n, k.last = some n → 1 ≤ n ∧ n ≤ Config.rosterRoom) →
      1 ≤ r.numberFor t ∧ r.numberFor t ≤ Config.rosterRoom) := by
  have hfree {n : Nat} (hn : r.isFree n = true) : ∀ e ∈ r.stations, e.number ≠ n := by
    simpa [Roster.isFree] using hn
  have hlowest (hne : r.lowestFree.getD 0 ≠ 0) : (∀ e ∈ r.stations, e.number ≠ r.lowestFree.getD 0) ∧
      1 ≤ r.lowestFree.getD 0 ∧ r.lowestFree.getD 0 ≤ Config.rosterRoom := by
    cases hl : r.lowestFree with
    | none => simp [hl] at hne
    | some n =>
      have hmem := List.mem_of_find?_eq_some hl
      simp only [List.mem_range'_1] at hmem
      exact ⟨hfree (List.find?_some hl), by simp only [Option.getD_some]; omega⟩
  unfold Roster.numberFor at h ⊢
  split at h
  · exact absurd rfl h
  · next hroom =>
    rw [if_neg hroom]
    refine ⟨Nat.not_le.1 hroom, ?_⟩
    split at h
    · next n hlast =>
      obtain ⟨k, hk, hkn⟩ := Option.bind_eq_some_iff.1 hlast
      split at h
      · next hn =>
        simp only [hn, if_true]
        exact ⟨hfree hn, fun hall => hall k (List.mem_of_find?_eq_some hk) n hkn⟩
      · next hn =>
        simp only [hn, Bool.false_eq_true, if_false]
        exact ⟨(hlowest h).1, fun _ => (hlowest h).2⟩
    · exact ⟨(hlowest h).1, fun _ => (hlowest h).2⟩

/-- A tag has a roster entry exactly if one is found under it. -/
theorem Roster.byTag_eq_none {r : Roster} {t : Tag} : r.byTag t = none ↔ ∀ e ∈ r.stations, e.tag ≠ t := by
  simp [Roster.byTag]

/-- The known-tag list stays within its room when a number is recorded (R142). -/
theorem Roster.recordNumber_length (r : Roster) (t : Tag) (n : Nat) (d : Rights)
    (h : r.known.length ≤ Config.knownRoom) : (r.recordNumber t n d).known.length ≤ Config.knownRoom := by
  unfold Roster.recordNumber
  split
  · next k hk =>
    have := (eraseP_append_perm hk).length_eq
    simpa using this.trans_le h
  · rcases r.addKnown_cases ⟨t, d, some n⟩ with ⟨l, -, hroom, heq, -⟩ | ⟨heq, -⟩
    · rw [heq]; simpa using hroom h
    · rwa [heq]

/-- A number is recorded in the tag's known-tag entry: the tag has one then, and so has each tag of the roster that had
one (R136, R142). -/
theorem Roster.recordNumber_known {r : Roster} {t : Tag} {n : Nat} {d : Rights} (h : (r.known.map Known.tag).Nodup)
    (hroom : r.stations.length ≤ Config.rosterRoom) :
    ((r.recordNumber t n d).known.map Known.tag).Nodup ∧ (∃ k ∈ (r.recordNumber t n d).known, k.tag = t) ∧
    (∀ k ∈ r.known, r.holds k.tag = true → ∃ k' ∈ (r.recordNumber t n d).known, k'.tag = k.tag) ∧
    ∀ k ∈ (r.recordNumber t n d).known, ∀ m, k.last = some m → m = n ∨ ∃ x ∈ r.known, x.last = some m := by
  unfold Roster.recordNumber
  split
  · next k hk =>
    have htag : k.tag = t := by simpa using List.find?_some hk
    have hperm : ((r.known.eraseP (fun (x : Known) => x.tag == t) ++ [{ k with last := some n }]).map Known.tag).Perm
        (r.known.map Known.tag) := by
      simpa using (eraseP_append_perm hk).map Known.tag
    have hfound {u : Tag} (hu : u ∈ r.known.map Known.tag) :
        ∃ x ∈ r.known.eraseP (fun x => x.tag == t) ++ [{ k with last := some n }], x.tag = u :=
      List.mem_map.1 (hperm.mem_iff.2 hu)
    refine ⟨hperm.nodup_iff.2 h, hfound (htag ▸ List.mem_map_of_mem (List.mem_of_find?_eq_some hk)),
      fun x hx _ => hfound (List.mem_map_of_mem hx), fun x hx m hm => ?_⟩
    rcases List.mem_append.1 hx with hx | hx
    · exact .inr ⟨x, List.eraseP_subset hx, hm⟩
    · rw [List.mem_singleton.1 hx] at hm
      exact .inl (Option.some.inj hm).symm
  · next hnone =>
    rcases r.addKnown_cases ⟨t, d, some n⟩ with ⟨l, hsub, -, heq, hheld⟩ | ⟨-, hfull, hall⟩
    · rw [heq]
      refine ⟨?_, ⟨_, List.mem_append_right _ (List.mem_singleton_self _), rfl⟩,
        fun x hx hx' => ⟨x, List.mem_append_left _ (hheld x hx hx'), rfl⟩, fun x hx m hm => ?_⟩
      · rw [List.map_append]
        refine List.Nodup.append (h.sublist (hsub.map _)) (List.nodup_singleton _) ?_
        simp only [List.map_cons, List.map_nil, List.disjoint_singleton, List.mem_map, not_exists, not_and]
        exact fun x hx => Roster.knownOf_eq_none.1 hnone x (hsub.subset hx)
      · rcases List.mem_append.1 hx with hx | hx
        · exact .inr ⟨x, hsub.subset hx, hm⟩
        · rw [List.mem_singleton.1 hx] at hm
          exact .inl (Option.some.inj hm).symm
    · have hsub : r.known.map Known.tag ⊆ r.stations.map Station.tag := by
        intro u hu
        obtain ⟨k, hk, rfl⟩ := List.mem_map.1 hu
        obtain ⟨e, he, het⟩ := List.any_eq_true.1 (hall k hk)
        exact List.mem_map.2 ⟨e, he, eq_of_beq het⟩
      have hle := (List.subperm_of_subset h hsub).length_le
      simp only [List.length_map, Config.knownRoom, Config.rosterRoom] at hle hfull hroom
      omega

/-- A new PRESENT entry in a number's place, its tag's known-tag entry brought up to date (R136). -/
theorem State.numberStation_keeps {s : State} {t : Tag} (ht : s.rst.byTag t = none) :
    s.rst.Keeps (s.numberStation t).1.rst := by
  unfold State.numberStation
  simp only
  split
  · exact .rfl
  · next hn =>
    obtain ⟨hroom, hfresh, hrange⟩ := Roster.numberFor_spec hn
    generalize s.rst.numberFor t = n at *
    set e := newStation n t s.rst.epoch s.csq.cycleNumber with he
    have hmem : ∀ x, x ∈ (s.rst.addStation e).stations ↔ x = e ∨ x ∈ s.rst.stations := fun x => by
      simp [Roster.addStation]
    have hstations : ((s.rst.addStation e).recordNumber t n s.cfg.defaultRights).stations = (s.rst.addStation e).stations :=
      (Roster.recordNumber_frame _ _ _ _).2.1
    have hperiod : ((s.rst.addStation e).recordNumber t n s.cfg.defaultRights).rollPeriod = s.rst.rollPeriod :=
      (Roster.recordNumber_frame _ _ _ _).2.2
    have hlen : (s.rst.addStation e).stations.length = s.rst.stations.length + 1 := by
      simpa [Roster.addStation] using (insertBy_perm (fun a b => a.number < b.number) e s.rst.stations).length_eq
    have hfewer := (s.rst.addStation e).recordNumber_length t n s.cfg.defaultRights
    refine ⟨fun hb => ?_, fun hs => ?_, fun x hx => ?_, fun x hx hst => ?_⟩
    · exact ⟨by simp only [hstations, hlen]; omega, hfewer hb.2.1, by simp only [hperiod]; exact hb.2.2⟩
    · obtain ⟨hnodup, hown, hothers, hlasts⟩ := Roster.recordNumber_known (r := s.rst.addStation e) (t := t) (n := n)
        (d := s.cfg.defaultRights) hs.known (by rw [hlen]; exact hroom)
      have hone := hrange hs.lasts
      refine ⟨?_, ?_, hnodup, ?_, ?_, ?_⟩
      · rw [hstations]
        refine ((insertBy_perm _ e s.rst.stations).map Station.tag).nodup_iff.2 (List.nodup_cons.2 ⟨?_, hs.tags⟩)
        simpa [he, newStation] using Roster.byTag_eq_none.1 ht
      · simp only [hstations]
        exact insertBy_rising Station.number e _ hs.rising hfresh
      · intro x hx
        rcases (hmem x).1 (hstations ▸ hx) with rfl | hx
        · exact hone
        · exact hs.numbers x hx
      · intro x hx
        rcases (hmem x).1 (hstations ▸ hx) with rfl | hx
        · exact hown
        · obtain ⟨k, hk, hkx⟩ := hs.recorded x hx
          have hheld : (s.rst.addStation e).holds k.tag = true :=
            List.any_eq_true.2 ⟨x, (hmem x).2 (.inr hx), by simp [hkx]⟩
          obtain ⟨k', hk', hkt⟩ := hothers k hk hheld
          exact ⟨k', hk', hkt.trans hkx⟩
      · intro k hk m hm
        rcases hlasts k hk m hm with rfl | ⟨x, hx, hxm⟩
        · exact hone
        · exact hs.lasts x hx m hxm
    · exact ⟨x, by simp only [hstations]; exact (hmem x).2 (.inr hx), rfl, rfl⟩
    · rcases (hmem x).1 (hstations ▸ hx) with rfl | hx
      · exact absurd rfl hst
      · exact ⟨x, hx, rfl, hst⟩

/-! ### The counters of streams, the reclaim window and the configuration -/

/-- A stream's counters are within their bounds (R64). -/
def StreamRecord.counted (r : StreamRecord) : Prop :=
  r.servicesDone ≤ 65535 ∧ r.vacantRun ≤ 255 ∧ r.vacantTotal ≤ 65535 ∧ r.overlongRun ≤ Config.overlongLimit

/-- The latched length and the cycles that remain are within their bounds (R150). -/
def Reclaim.bounded (r : Reclaim) : Prop := (64 ≤ r.latched ∧ r.latched ≤ 4096) ∧ r.remaining ≤ 4096

/-- The bounds of the state are those of its blocks. -/
theorem State.bounded_iff (s : State) :
    s.bounded ↔ s.stg.edits.length ≤ Config.editRoom ∧ s.rst.bounded ∧ s.tpt.bounded ∧ s.hlk.bounded ∧ s.rpu.bounded ∧
      s.csq.lateRun < Config.lateLimit ∧ (∀ r ∈ s.streams, r.counted) ∧ s.rcu.bounded := by
  simp only [State.bounded, Roster.bounded, TrunkPort.bounded, HostLink.bounded, Reports.bounded, StreamRecord.counted,
    Reclaim.bounded]
  tauto

/-- A counted observation steps each counter within its bound (R122). -/
theorem StreamRecord.tally_counted {r : StreamRecord} (h : r.counted) (o : Observation) : (r.tally o).counted := by
  obtain ⟨hdone, hrun, htotal, hover⟩ := h
  have hdone' : min 65535 (r.servicesDone + 1) ≤ 65535 := Nat.min_le_left _ _
  unfold StreamRecord.tally
  cases o with
  | served => exact ⟨hdone', Nat.zero_le _, htotal, Nat.zero_le _⟩
  | vacant => exact ⟨hdone', Nat.min_le_left _ _, Nat.min_le_left _ _, hover⟩
  | overlong => exact ⟨hdone', Nat.zero_le _, htotal, Nat.min_le_left _ _⟩
  | pending => exact ⟨hdone', hrun, htotal, hover⟩
  | uncounted => exact ⟨hdone', hrun, htotal, hover⟩

/-- What a turn of the boundary work, or an observation, may do to a record: its place, owner, channel, units and pending
resize stay, it is STAGED or HELD as before, it stays RETIRING if it was, and its counters stay within their bounds. -/
structure StreamRecord.Keeps (r q : StreamRecord) : Prop where
  id : q.id = r.id
  owner : q.owner = r.owner
  channel : q.channel = r.channel
  units : q.units = r.units
  pendingResize : q.pendingResize = r.pendingResize
  held : q.isHeld = r.isHeld
  staged : q.state = .staged ↔ r.state = .staged
  retiring : r.isRetiring = true → q.isRetiring = true
  counted : r.counted → q.counted

/-- A value of a CONFIGURE that its layout carries (R201). -/
def ConfigField.carried (f : ConfigField) : Prop := f.field = 3 → f.value ≤ 255

/-- A vacancy_limit is read from one byte (12, CONFIGURE). -/
theorem configPairs_carried (body : List Byte) : ∀ f ∈ (configPairs body).1, f.carried := by
  induction body using configPairs.induct with
  | case1 => simp [configPairs]
  | case2 id hid hi lo more ih =>
    intro f hf
    rw [configPairs.eq_def] at hf
    simp only [if_pos hid] at hf
    rcases List.mem_cons.1 hf with rfl | hf
    · rcases hid with rfl | rfl | rfl <;> exact fun h3 : (_ : Nat) = 3 => absurd h3 (by simp)
    · exact ih f hf
  | case3 id rest hid hne =>
    rw [configPairs.eq_def]
    simp only [if_pos hid]
    simp
  | case4 id hid hid2 v more hdec ih =>
    intro f hf
    rw [configPairs.eq_def] at hf
    simp only [if_neg hid, if_pos hid2, hdec, if_true] at hf
    rcases List.mem_cons.1 hf with rfl | hf
    · exact fun _ => Nat.le_of_lt_succ v.isLt
    · exact ih f hf
  | case5 id hid hid2 v more hdec =>
    rw [configPairs.eq_def]
    simp only [if_neg hid, if_pos hid2]
    simp [hdec]
  | case6 id hid hid2 =>
    rw [configPairs.eq_def]
    simp only [if_neg hid, if_pos hid2]
    simp
  | case7 id rest hid hid2 =>
    rw [configPairs.eq_def]
    simp only [if_neg hid, if_neg hid2]
    simp

/-- A value in its range leaves the configuration in its ranges (R8, R9). -/
theorem ConfigRecord.set_valid {c : ConfigRecord} (h : c.valid) {f : ConfigField} (hrange : f.inRange = true)
    (hcarried : f.carried) : (c.set f).valid := by
  obtain ⟨hbudget, hleast, hmost, hvacancy, hone, height, hmask⟩ := h
  unfold ConfigField.inRange at hrange
  unfold ConfigRecord.set
  split <;> simp only [*] at hrange
  · exact ⟨of_decide_eq_true hrange, hleast, hmost, hvacancy, hone, height, hmask⟩
  · simp only [Bool.and_eq_true, decide_eq_true_eq] at hrange
    exact ⟨hbudget, hrange.1, hrange.2, hvacancy, hone, height, hmask⟩
  · next h3 => exact ⟨hbudget, hleast, hmost, hcarried h3, hone, height, hmask⟩
  · simp only [Bool.and_eq_true, decide_eq_true_eq] at hrange
    exact ⟨hbudget, hleast, hmost, hvacancy, hrange.1, hrange.2, hmask⟩
  · exact ⟨hbudget, hleast, hmost, hvacancy, hone, height, hmask⟩
  · exact ⟨hbudget, hleast, hmost, hvacancy, hone, height, hmask⟩
  · refine ⟨hbudget, hleast, hmost, hvacancy, hone, height, ?_⟩
    have hbit : f.value / 2048 = 1 := eq_of_beq hrange
    have : f.value.testBit 11 = true := by
      rw [Nat.testBit_eq_decide_div_mod_eq]
      simp [hbit]
    show (BitVec.ofNat 12 f.value).getLsbD 11 = true
    rw [BitVec.getLsbD_ofNat, this]
    rfl
  · exact ⟨hbudget, hleast, hmost, hvacancy, hone, height, hmask⟩

/-- An accepted CONFIGURE leaves the configuration in its ranges (R9). -/
theorem ConfigRecord.setAll_valid {c : ConfigRecord} (h : c.valid) {fields : List ConfigField}
    (hrange : ∀ f ∈ fields, f.inRange = true) (hcarried : ∀ f ∈ fields, f.carried) :
    (fields.foldl ConfigRecord.set c).valid := by
  induction fields generalizing c with
  | nil => exact h
  | cons f l ih =>
    simp only [List.forall_mem_cons] at hrange hcarried
    exact ih (ConfigRecord.set_valid h hrange.1 hcarried.1) hrange.2 hcarried.2

/-- The budget that a list of distinct fields leaves: its own, or the one that stood (R9, R10). -/
theorem ConfigRecord.setAll_budget (c : ConfigRecord) {fields : List ConfigField}
    (h : (fields.map ConfigField.field).Nodup) :
    (fields.foldl ConfigRecord.set c).budget = (fieldValue fields 1).getD c.budget := by
  induction fields generalizing c with
  | nil => rfl
  | cons f l ih =>
    simp only [List.map_cons, List.nodup_cons, List.mem_map, not_exists, not_and] at h
    rw [List.foldl_cons, ih _ h.2]
    by_cases h1 : f.field = 1
    · have hnone : l.find? (fun g => g.field == 1) = none := by
        simpa using fun g hg => h1 ▸ h.1 g hg
      simp [fieldValue, hnone, h1, ConfigRecord.set]
    · have hset : (c.set f).budget = c.budget := by
        unfold ConfigRecord.set
        split <;> simp_all
      simp [fieldValue, h1, hset]

/-- What an accepted CONFIGURE has passed: its fields are distinct and in their ranges, and a budget that it carries covers
the units in use (R9, R10). -/
theorem State.configureFailure_none {s : State} {fields : List ConfigField} {how : ConfigEnd}
    (h : s.configureFailure fields how = none) :
    (fields.map ConfigField.field).Nodup ∧ (∀ f ∈ fields, f.inRange = true) ∧
    ∀ b, fieldValue fields 1 = some b → s.lgr.usedUnits ≤ b := by
  unfold State.configureFailure at h
  split at h
  · exact absurd h nofun
  · split at h
    · exact absurd h nofun
    · exact absurd h nofun
    · next hrep _ _ =>
      refine ⟨((firstRepeated_eq_none _ _).1 hrep).1, ?_⟩
      split at h
      · exact absurd h nofun
      · next hin =>
        refine ⟨by simpa using hin, fun b hb => ?_⟩
        rw [hb] at h
        simp only at h
        split at h
        · exact absurd h nofun
        · omega

/-- An accepted CONFIGURE moves FREE_UNITS with the budget (R10). -/
theorem State.configure_balanced {s : State} {fields : List ConfigField} {how : ConfigEnd}
    (h : s.configureFailure fields how = none) (hb : s.lgr.balanced s.cfg.budget) :
    (s.configure fields).lgr.balanced (s.configure fields).cfg.budget := by
  obtain ⟨hnodup, -, hused⟩ := State.configureFailure_none h
  have hbudget := ConfigRecord.setAll_budget s.cfg hnodup
  simp only [Ledger.balanced, State.configure, hbudget, Ledger.claimedTotal, Ledger.holdingTotal] at hb ⊢
  cases hv : fieldValue fields 1 with
  | none => simp only [Option.getD_none]; omega
  | some b =>
    have := hused b hv
    simp only [Ledger.usedUnits, Ledger.claimedTotal, Ledger.holdingTotal] at this
    simp only [Option.getD_some]
    omega

end Sys2Proof.Machine
end

section
/-! SUPPORT. What a step is made of: the elementary changes of the state, each with what its place in the code checks, and
the chains of them that the operations of the model are. Each invariant is then proved once per elementary change. -/

namespace Sys2Proof.Machine

/-! ### The elementary changes -/

/-- Keys are unique, streams stand in their positions with a channel each, holdings name HELD streams of their tags, edits
name records one each and ADMITs the STAGED ones, roster entries stand by number with a known tag, and at most 32 holdings
exist. -/
structure State.Records (s : State) : Prop where
  claims : (s.lgr.claims.map StationClaim.tag).Nodup
  holdings : (s.lgr.holdings.map Holding.tag).Nodup
  roster : s.rst.Sound
  link : s.hlk.keyed
  positioned : s.positioned
  channelsApart : s.channelsApart
  heldInPlace : s.heldInPlace
  editsInPlace : s.editsInPlace
  stagedInPlace : s.stagedInPlace
  room : s.lgr.holdings.length ≤ Config.holdingRoom

/-- A station request that reaches its owner comes from a PRESENT station in RUNNING (R165, R166); the host may send a
request at any time. -/
def State.admitsParty (s : State) (p : Party) : Prop :=
  ∀ t, p = .station t → s.csq.partState = .running ∧ ∃ e ∈ s.rst.stations, e.tag = t ∧ e.state = .present

/-- A trunk reset behind the removals, departures and discards: the records kept change, the claim records convert, the
window opens, the roster is emptied, and the part is STARTING (R3, R79, R132, R133). -/
def State.restart (s : State) : State :=
  let s1 := { s with streams := s.streams.map StreamRecord.atTrunkReset }
  let s2 := (s1.convertClaims s1.rst.presentTags).openWindow.clearRoster
  { s2 with csq := s2.csq.enterStarting, svw := [], tpt := s2.tpt.atTrunkReset }

/-- One elementary change of the state. What the code has checked stands as a hypothesis; with `sound` true, so does what
follows from the records being in order; where `commits` is not true, no edit is committed. -/
inductive State.Act (sound commits : Prop) : State → State → Prop where
  | reports (s : State) {r : Reports} : s.rpu.Keeps r → Act sound commits s { s with rpu := r }
  | link (s : State) {h : HostLink} : s.hlk.Keeps h → Act sound commits s { s with hlk := h }
  | port (s : State) {t : TrunkPort} : (s.tpt.bounded → t.bounded) → Act sound commits s { s with tpt := t }
  | roster (s : State) {r : Roster} : s.rst.Keeps r → Act sound commits s { s with rst := r }
  | window (s : State) {r : Reclaim} : (s.rcu.bounded → r.bounded) → Act sound commits s { s with rcu := r }
  | cycle (s : State) {q : Sequencer} {v : List ObsEntry} :
      (s.csq.lateRun < Config.lateLimit → q.lateRun < Config.lateLimit) →
      (q.partState = .starting → s.csq.partState = .starting) → Act sound commits s { s with csq := q, svw := v }
  | freeze (s : State) (b : Bool) : Act sound commits s { s with stg := { s.stg with frozen := b } }
  | put (s : State) {r q : StreamRecord} : r ∈ s.streams → r.Keeps q → Act sound commits s (s.putStream q)
  | remove (s : State) (id : Nat) : Act sound commits s (s.removeRecord id)
  | commit (s : State) {n : Cycle} {e : Edit} {rest : List Edit} : commits → s.stg.edits = e :: rest →
      Act sound commits s (State.commitEdit { s with stg := { s.stg with edits := rest } } n e).1
  | drop (s : State) {e : Edit} : (sound → e ∈ s.stg.edits) → Act sound commits s (s.dropEdit e)
  | stage (s : State) {kind : Kind} {p : Party} {id units : Nat} {r : StreamRecord} {l : Ledger} :
      s.editFailure kind p id units = none → s.stream? id = some r →
      s.lgr.chargeEdit r (editOpFor kind r units) = some l →
      Act sound commits s ((State.putStream { s with lgr := l } (r.staged (editOpFor kind r units))).acceptEdit p
        (editOpFor kind r units) id)
  | admitStream (s : State) {p : Party} {a : AdmitRequest} {l : Ledger} : s.admitsParty p → s.admitFailure p a = none →
      s.lgr.chargeAndBind (admitArgs p a) (s.lowestFree.getD 0) = .ok l →
      Act sound commits s ((State.addRecord { s with lgr := l } (newRecord (s.lowestFree.getD 0) (admitArgs p a))).acceptEdit p
        (.admitStream (admitArgs p a)) (s.lowestFree.getD 0))
  | units (s : State) (rights : Rights) {p : Party} (e n : Nat) : s.admitsParty p →
      Act sound commits s { s with lgr := (s.lgr.exchangeUnits s.cfg.budget rights p e n).1 }
  | channels (s : State) (rights : Rights) {p : Party} (e n : BitVec 256) : s.admitsParty p →
      Act sound commits s { s with lgr := (s.lgr.exchangeChannels rights p e n).1 }
  | endHolding (s : State) {h : Holding} : (sound → h ∈ s.lgr.holdings) → Act sound commits s (s.endHolding h)
  | reclaim (s : State) {t : Tag} {h : Holding} : s.admitsParty (.station t) → s.lgr.holding? t = some h →
      Act sound commits s { s with
        lgr := s.lgr.convertHolding h s.streams
        streams := s.streams.map (fun (r : StreamRecord) =>
          if (h.streams.map HeldStream.id).contains r.id then r.leaveHeld else r) }
  | depart (s : State) {e : Station} {cause : DepartCause} {count : Nat} :
      (sound → (∃ x ∈ s.rst.stations, x.tag = e.tag ∧ x.number = e.number) ∧
        ∀ r ∈ s.streams, r.owner = .station e.tag → r.state ≠ .staged) →
      Act sound commits s { s with
        rst := s.rst.update e.number (fun x => { x with state := .departing cause count })
        streams := s.streams.map (fun r => r.depart e.tag) }
  | complete (s : State) {e : Station} {cause : DepartCause} {count : Nat} : e.state = .departing cause count →
      (sound → e ∈ s.rst.stations ∧ (s.csq.partState = .starting ∨ ∀ r ∈ s.streams, r.isRetiring = false)) →
      Act sound commits s (s.completeDeparture e)
  | clear (s : State) : (sound → s.csq.partState = .starting) → Act sound commits s s.clearRoster
  | restart (s : State) :
      (sound → (∀ r ∈ s.streams, r.isRetiring = false) ∧ (∀ x ∈ s.stg.edits, s.editStationOwned x = false) ∧
        ∀ e ∈ s.rst.stations, e.state = .present) → Act sound commits s s.restart
  | configure (s : State) {fields : List ConfigField} {how : ConfigEnd} : s.configureFailure fields how = none →
      (∀ f ∈ fields, f.carried) → Act sound commits s (s.configure fields)
  | reset (s : State) {cfg : ConfigRecord} {rate : Nat} : (s.cfg.valid → cfg.valid) →
      Act sound commits s (.atReset cfg rate s.pending)

/-- The records stay in order through every elementary change. -/
def State.Act.Closed (sound commits : Prop) : Prop :=
  ∀ s t : State, State.Act sound commits s t → (sound → s.Records) → sound → t.Records

/-- A chain of elementary changes leads from one state to another, from records in order where `sound` is true. -/
def State.Leads (sound commits : Prop) (s t : State) : Prop :=
  State.Act.Closed sound commits → (sound → s.Records) → Relation.ReflTransGen (State.Act sound commits) s t

variable {sound commits : Prop}

namespace State.Leads

theorem rfl {s : State} : s.Leads sound commits s := fun _ _ => .refl

theorem of_eq {s t : State} (h : t = s) : s.Leads sound commits t := h ▸ rfl

theorem act {s t : State} (h : State.Act sound commits s t) : s.Leads sound commits t := fun _ _ => .single h

/-- At the end of a chain the records are in order again. -/
theorem records {s t : State} (hc : State.Act.Closed sound commits) (h : Relation.ReflTransGen (State.Act sound commits) s t)
    (hs : sound → s.Records) : sound → t.Records := by
  induction h with
  | refl => exact hs
  | tail _ hact ih => exact hc _ _ hact ih

theorem trans {s t u : State} (a : s.Leads sound commits t) (b : t.Leads sound commits u) : s.Leads sound commits u := fun hc hs =>
  (a hc hs).trans (b hc (records hc (a hc hs) hs))

/-- A chain may rest on the records being in order where it begins. -/
theorem of_records {s t : State} (h : (sound → s.Records) → s.Leads sound commits t) : s.Leads sound commits t := fun hc hs => h hs hc hs

/-- The state that a chain leads to has its records in order. -/
theorem and_records {s t u : State} (a : s.Leads sound commits t) (b : (sound → t.Records) → t.Leads sound commits u) :
    s.Leads sound commits u := a.trans (of_records b)

/-- A fold leads on where each of its steps does. -/
theorem foldl {α : Type} (f : State → α → State) (l : List α) (s : State) (h : ∀ s : State, ∀ a ∈ l, s.Leads sound commits (f s a)) :
    s.Leads sound commits (l.foldl f s) := by
  induction l generalizing s with
  | nil => exact rfl
  | cons a l ih =>
    exact (h s a List.mem_cons_self).trans (ih (f s a) (fun s b hb => h s b (List.mem_cons_of_mem _ hb)))

end State.Leads

/-! ### Reports, notices and records -/

theorem State.offer_leads (s : State) (k : ReportKind) (body : List Byte) : s.Leads sound commits (s.offer k body) :=
  .act (.reports s (s.rpu.offer_keeps _ _ _ _))

/-- A notice changes the queue and the parked notices, and the sender's dropped flag (R174, R175). -/
theorem State.handNotice_eq (s : State) (number : Nat) (kind : NoticeKind) (body : List Byte) :
    s.handNotice number kind body =
      { s with tpt := (s.handNotice number kind body).tpt, rst := (s.handNotice number kind body).rst } := by
  unfold State.handNotice
  split
  · rfl
  · split
    · unfold State.joinNotice
      split <;> rfl
    · unfold State.parkNotice
      simp only
      split <;> rfl

theorem State.joinNotice_roster (s : State) (number : Nat) (n : Notice) : s.rst.Keeps (s.joinNotice number n).rst := by
  unfold State.joinNotice
  split
  · exact .rfl
  · exact s.rst.update_keeps number _ (fun e => ⟨rfl, rfl, rfl⟩)

theorem State.handNotice_roster (s : State) (number : Nat) (kind : NoticeKind) (body : List Byte) :
    s.rst.Keeps (s.handNotice number kind body).rst := by
  unfold State.handNotice
  split
  · exact .rfl
  · split
    · exact s.joinNotice_roster _ _
    · unfold State.parkNotice
      simp only
      split
      · exact .rfl
      · exact s.rst.update_keeps number _ (fun e => ⟨rfl, rfl, rfl⟩)

theorem State.handNotice_leads (s : State) (number : Nat) (kind : NoticeKind) (body : List Byte) :
    s.Leads sound commits (s.handNotice number kind body) := by
  rw [s.handNotice_eq]
  exact (State.Leads.act (.port s (fun h => State.handNotice_bounded h number kind body))).trans
    (.act (.roster _ (s.handNotice_roster number kind body)))

theorem State.noticeIfPresent_leads (s : State) (t : Tag) (kind : NoticeKind) (body : List Byte) :
    s.Leads sound commits (s.noticeIfPresent t kind body) := by
  unfold State.noticeIfPresent
  split
  · exact .rfl
  · exact s.handNotice_leads _ _ _

theorem State.tellOutcome_leads (s : State) (recipient : Option Tag) (e : Edit) (o : EditOutcome) :
    s.Leads sound commits (s.tellOutcome recipient e o) := by
  unfold State.tellOutcome
  split
  · exact s.noticeIfPresent_leads _ _ _
  · exact .rfl

theorem State.announce_leads (s : State) (r : StreamRecord) (new : Option StreamState) (cause : ChangeCause)
    (late : Bool) : s.Leads sound commits (s.announce r new cause late) := by
  unfold State.announce
  simp only
  split
  · exact s.offer_leads _ _
  · exact (s.offer_leads _ _).trans (State.noticeIfPresent_leads _ _ _ _)

theorem State.changeState_leads {s : State} {r q : StreamRecord} (hr : r ∈ s.streams) (new : StreamState)
    (h : r.Keeps { q with state := new }) (cause : ChangeCause) (late : Bool) :
    s.Leads sound commits (s.changeState q new cause late) :=
  (State.Leads.act (.put s hr h)).trans (State.announce_leads _ _ _ _ _)

/-- The record found under an id stands in the table, in that position. -/
theorem State.stream?_some {s : State} {id : Nat} {r : StreamRecord} (h : s.stream? id = some r) :
    r ∈ s.streams ∧ r.id = id :=
  ⟨List.mem_of_find?_eq_some h, by simpa using List.find?_some h⟩

theorem State.eachStream_leads (s : State) (f : StreamRecord → State → State)
    (h : ∀ (r : StreamRecord) (s : State), r ∈ s.streams → s.Leads sound commits (f r s)) : s.Leads sound commits (s.eachStream f) := by
  unfold State.eachStream
  refine .foldl _ _ _ (fun s id _ => ?_)
  split
  · next r hr => exact h r s (State.stream?_some hr).1
  · exact .rfl

theorem State.removeRecords_leads (s : State) (ids : List Nat) : s.Leads sound commits (s.removeRecords ids) :=
  .foldl _ _ _ (fun s id _ => .act (.remove s id))

theorem State.reportDiscards_leads (s : State) (why : DiscardReason) (edits : List Edit) :
    s.Leads sound commits (s.reportDiscards why edits) := by
  unfold State.reportDiscards
  split
  · exact .rfl
  · exact s.offer_leads _ _

theorem State.tellDiscards_leads (s : State) (l : List (Edit × Option Tag)) : s.Leads sound commits (s.tellDiscards l) :=
  .foldl _ _ _ (fun s _ _ => s.tellOutcome_leads _ _ _)

/-! ### Changes of a record's state -/

/-- A new state that is neither STAGED nor HELD, for a record that is in service; its counters run on or begin afresh. -/
theorem StreamRecord.Keeps.of_inService {r : StreamRecord} (h : r.inService = true) {new : StreamState}
    (hnew : new ≠ .staged ∧ ∀ v, new ≠ .held v) (mark : Bool) :
    r.Keeps { r with state := new, restoreMark := mark } := by
  have hnew1 := hnew.1
  have hnew2 := hnew.2
  refine ⟨rfl, rfl, rfl, rfl, rfl, ?_, ?_, ?_, fun hc => hc⟩
  · unfold StreamRecord.inService at h
    unfold StreamRecord.isHeld
    cases hs : r.state <;> cases new <;> simp_all
  · unfold StreamRecord.inService at h
    cases hs : r.state <;> simp_all
  · unfold StreamRecord.inService at h
    unfold StreamRecord.isRetiring
    cases hs : r.state <;> simp_all

/-- The start rule gives LIVE or WAITING_START (R68). -/
theorem startRule_plain (start : Option Cycle) (n : Cycle) :
    (startRule start n).1 ≠ .staged ∧ ∀ v, (startRule start n).1 ≠ .held v := by
  unfold startRule
  split
  · simp
  · simp only
    split_ifs <;> simp

/-- The start rule behind the talker test gives LIVE, WAITING_START or SUSPENDED (R68). -/
theorem State.enterService_plain (s : State) (r : StreamRecord) (n : Cycle) :
    (s.enterService r n).1 ≠ .staged ∧ ∀ v, (s.enterService r n).1 ≠ .held v := by
  unfold State.enterService
  split
  · exact startRule_plain _ _
  · simp

theorem State.suspendDeparted_leads (departed : List Tag) (r : StreamRecord) (s : State) (hr : r ∈ s.streams) :
    s.Leads sound commits (State.suspendDeparted departed r s) := by
  unfold State.suspendDeparted
  split
  · split
    · next hs =>
      exact State.changeState_leads hr _ (.of_inService (by simp [StreamRecord.inService, hs]) (by simp) _) _ _
    · next hs =>
      exact State.changeState_leads hr _ (.of_inService (by simp [StreamRecord.inService, hs]) (by simp) _) _ _
    · exact .rfl
  · exact .rfl

theorem State.applyMark_leads (r : StreamRecord) (s : State) (hr : r ∈ s.streams) :
    s.Leads sound commits (State.applyMark r s) := by
  unfold State.applyMark
  split
  · next hs =>
    have hin : r.inService = true := by simp [StreamRecord.inService, hs]
    split
    · exact State.changeState_leads hr _ (.of_inService hin (by simp) _) _ _
    · exact .act (.put s hr (.of_inService hin (by simp) _))
  · exact .rfl

theorem State.restore_leads (n : Cycle) (r : StreamRecord) (s : State) (hr : r ∈ s.streams) :
    s.Leads sound commits (State.restore n r s) := by
  unfold State.restore
  split
  · simp only
    split
    · next hs =>
      exact State.changeState_leads hr _
        (.of_inService (by simp [StreamRecord.inService, hs]) (s.enterService_plain r n) false) _ _
    · next hs =>
      exact State.changeState_leads hr _
        (.of_inService (by simp [StreamRecord.inService, hs]) (s.enterService_plain r n) false) _ _
    · exact State.changeState_leads (q := { r with restoreMark := false }) hr r.state
        ⟨rfl, rfl, rfl, rfl, rfl, rfl, .rfl, id, id⟩ _ _
  · exact .rfl

theorem State.activate_leads (n : Cycle) (r : StreamRecord) (s : State) (hr : r ∈ s.streams) :
    s.Leads sound commits (State.activate n r s) := by
  unfold State.activate
  split
  · next hs =>
    refine State.changeState_leads hr _ (.of_inService (by simp [StreamRecord.inService, hs.1]) ?_ _) _ _
    split <;> simp
  · exact .rfl

theorem State.returnTalker_leads (n : Cycle) (r : StreamRecord) (s : State) (hr : r ∈ s.streams) :
    s.Leads sound commits (State.returnTalker n r s) := by
  unfold State.returnTalker
  split
  · next hs =>
    exact State.changeState_leads hr _
      (.of_inService (by simp [StreamRecord.inService, hs.2.1]) (startRule_plain r.start n) _) _ _
  · exact .rfl

theorem State.removeRetiring_leads (r : StreamRecord) (s : State) : s.Leads sound commits (State.removeRetiring r s) := by
  unfold State.removeRetiring
  split
  · exact (State.Leads.act (.remove s r.id)).trans (State.announce_leads _ _ _ _ _)
  · exact .rfl

/-- A counted observation keeps the record's place and units (R122 to R124). -/
theorem StreamRecord.count_keeps {r : StreamRecord} (h : r.isLive = true) (limit : Nat) (o : Observation) :
    r.Keeps (r.count limit o) := by
  have hstate : ∃ m, r.state = .live m := by
    unfold StreamRecord.isLive at h
    cases hs : r.state <;> simp_all
  obtain ⟨m, hm⟩ := hstate
  have htally : (r.tally o).id = r.id ∧ (r.tally o).owner = r.owner ∧ (r.tally o).channel = r.channel ∧
      (r.tally o).units = r.units ∧ (r.tally o).pendingResize = r.pendingResize ∧ (r.tally o).state = r.state := by
    unfold StreamRecord.tally
    cases o <;> simp
  obtain ⟨hid, howner, hchannel, hunits, hpending, hstate⟩ := htally
  have hplain (q : StreamRecord) (hq : q = { r.tally o with state := q.state })
      (hnew : (∃ m, q.state = .live m) ∨ q.state = .retiring .stopCount) : r.Keeps q := by
    rw [hq]
    refine ⟨hid, howner, hchannel, hunits, hpending, ?_, ?_, ?_, fun hc => StreamRecord.tally_counted hc o⟩
    · rcases hnew with ⟨m', hnew⟩ | hnew <;> simp [StreamRecord.isHeld, hnew, hm]
    · rcases hnew with ⟨m', hnew⟩ | hnew <;> simp [hnew, hm]
    · simp [StreamRecord.isRetiring, hm]
  unfold StreamRecord.count
  simp only
  split
  · exact hplain _ rfl (.inr rfl)
  · unfold StreamRecord.markAfter
    split
    · exact hplain _ rfl (.inl ⟨_, rfl⟩)
    · split
      · exact hplain _ rfl (.inl ⟨_, rfl⟩)
      · exact hplain _ rfl (.inl ⟨m, hstate.trans hm⟩)

/-- The stop count takes a LIVE stream out of service (R72). -/
theorem StreamRecord.stopCount_keeps {r : StreamRecord} (h : r.isLive = true) : r.Keeps r.stopCount := by
  have hin : r.inService = true := by
    unfold StreamRecord.isLive at h
    unfold StreamRecord.inService
    cases hs : r.state <;> simp_all
  exact .of_inService hin (by simp) _

end Sys2Proof.Machine
end

section
/-! SUPPORT. The removal of records, and the chains of elementary changes that holdings and the staging list take. -/

namespace Sys2Proof.Machine

variable {sound commits : Prop}

/-! ### The table under its keys -/

/-- Strictly rising ids are distinct (R62). -/
theorem State.positioned.nodup {s : State} (h : s.positioned) : (s.streams.map StreamRecord.id).Nodup :=
  h.1.imp (fun hlt => Nat.ne_of_lt hlt)

/-- The record of a position is the one found there. -/
theorem State.stream?_of_mem {s : State} (h : (s.streams.map StreamRecord.id).Nodup) {r : StreamRecord}
    (hr : r ∈ s.streams) : s.stream? r.id = some r :=
  find?_of_mem StreamRecord.id r _ h hr

/-- A record is found where one stands. -/
theorem State.stream?_isSome {s : State} {id : Nat} : (s.stream? id).isSome = true ↔ ∃ r ∈ s.streams, r.id = id := by
  simp [State.stream?]

/-- The removal of a record takes it, with the edits for it, out of the table and the list (R77). -/
theorem State.removeRecord_streams {s : State} (h : (s.streams.map StreamRecord.id).Nodup) (id : Nat) :
    (s.removeRecord id).streams = s.streams.filter (fun r => r.id != id) := by
  unfold State.removeRecord
  split
  · next hnone =>
    have hall : ∀ r ∈ s.streams, r.id ≠ id := by simpa [State.stream?] using hnone
    exact (List.filter_eq_self.2 (fun r hr => by simpa using hall r hr)).symm
  · exact eraseP_eq_filter StreamRecord.id id _ h

theorem State.removeRecord_edits (s : State) (id : Nat) :
    (s.removeRecord id).stg.edits =
      s.stg.edits.filter (fun e => !(e.stream == id && (s.stream? e.stream).isSome)) := by
  unfold State.removeRecord
  split
  · next hnone =>
    refine (List.filter_eq_self.2 (fun e _ => ?_)).symm
    by_cases he : e.stream = id
    · simp [he, hnone]
    · simp [he]
  · next r hr =>
    refine List.filter_congr (fun e _ => ?_)
    by_cases he : e.stream = id
    · simp [he, hr]
    · simp [bne, beq_eq_false_iff_ne.2 he]

theorem State.removeRecords_streams {s : State} (h : (s.streams.map StreamRecord.id).Nodup) (ids : List Nat) :
    (s.removeRecords ids).streams = s.streams.filter (fun r => !ids.contains r.id) := by
  induction ids generalizing s with
  | nil => simp [State.removeRecords]
  | cons id ids ih =>
    have hone := State.removeRecord_streams h id
    have hnodup : ((s.removeRecord id).streams.map StreamRecord.id).Nodup := by
      rw [hone]; exact h.sublist (List.filter_sublist.map _)
    show ((s.removeRecord id).removeRecords ids).streams = _
    rw [ih hnodup, hone, List.filter_filter]
    refine List.filter_congr (fun r _ => ?_)
    by_cases hr : r.id = id <;> simp [hr]

theorem State.removeRecords_edits {s : State} (h : (s.streams.map StreamRecord.id).Nodup) (ids : List Nat) :
    (s.removeRecords ids).stg.edits =
      s.stg.edits.filter (fun e => !(ids.contains e.stream && (s.stream? e.stream).isSome)) := by
  induction ids generalizing s with
  | nil => simp [State.removeRecords]
  | cons id ids ih =>
    have hone := State.removeRecord_streams h id
    have hnodup : ((s.removeRecord id).streams.map StreamRecord.id).Nodup := by
      rw [hone]; exact h.sublist (List.filter_sublist.map _)
    show ((s.removeRecord id).removeRecords ids).stg.edits = _
    rw [ih hnodup, s.removeRecord_edits, List.filter_filter]
    refine List.filter_congr (fun e _ => ?_)
    by_cases he : e.stream = id
    · subst he
      cases hs : s.stream? e.stream with
      | some r => simp
      | none =>
        have hsame : s.removeRecord e.stream = s := by unfold State.removeRecord; rw [hs]
        simp [hsame, hs]
    · have : ((s.removeRecord id).stream? e.stream).isSome = (s.stream? e.stream).isSome := by
        rw [Bool.eq_iff_iff, State.stream?_isSome, State.stream?_isSome, hone]
        simp only [List.mem_filter, bne_iff_ne, ne_eq]
        constructor
        · rintro ⟨r, ⟨hr, -⟩, hid⟩; exact ⟨r, hr, hid⟩
        · rintro ⟨r, hr, hid⟩; exact ⟨r, ⟨hr, hid ▸ he⟩, hid⟩
      simp [this, he]

/-- An element that does not meet the condition stays as it is. -/
theorem mem_updateFirst_of_neg {α : Type} (p : α → Bool) (f : α → α) (l : List α) {a : α} (ha : a ∈ l)
    (hp : ¬ p a = true) : a ∈ updateFirst p f l := by
  induction l with
  | nil => simp at ha
  | cons b l ih =>
    rw [updateFirst_cons]
    rcases List.mem_cons.1 ha with rfl | ha
    · simp [hp]
    · split
      · exact List.mem_cons_of_mem _ ha
      · exact List.mem_cons_of_mem _ (ih ha)

/-- A record that is removed leaves the holdings of the tags that do not own it (R56). -/
theorem Ledger.freeStream_holdings (l : Ledger) {r : StreamRecord} {x : Holding} (hx : x ∈ l.holdings)
    (h : r.isHeld = true → r.owner ≠ .station x.tag) : x ∈ (l.freeStream r).holdings := by
  unfold Ledger.freeStream
  split
  · next hstate howner =>
    have hne : x.tag ≠ _ := fun heq => h (by simp [StreamRecord.isHeld, hstate]) (by rw [howner, heq])
    exact mem_updateFirst_of_neg _ _ _ hx (by simpa using hne)
  · simpa [Ledger.uncharge, Ledger.unbind] using hx

theorem State.removeRecord_holdings {s : State} {id : Nat} {x : Holding} (hx : x ∈ s.lgr.holdings)
    (h : ∀ r ∈ s.streams, r.id = id → r.isHeld = true → r.owner ≠ .station x.tag) :
    x ∈ (s.removeRecord id).lgr.holdings := by
  unfold State.removeRecord
  split
  · exact hx
  · next r hr => exact Ledger.freeStream_holdings _ hx (h r (State.stream?_some hr).1 (State.stream?_some hr).2)

/-- What a removal leaves of the table stood there. -/
theorem State.removeRecord_subset (s : State) (id : Nat) : (s.removeRecord id).streams ⊆ s.streams := by
  unfold State.removeRecord
  split
  · exact List.Subset.refl _
  · exact List.eraseP_subset

theorem State.removeRecords_subset (s : State) (ids : List Nat) : (s.removeRecords ids).streams ⊆ s.streams := by
  induction ids generalizing s with
  | nil => exact List.Subset.refl _
  | cons id ids ih => exact List.Subset.trans (ih (s.removeRecord id)) (s.removeRecord_subset id)

theorem State.removeRecords_holdings {s : State} {ids : List Nat} {x : Holding} (hx : x ∈ s.lgr.holdings)
    (h : ∀ r ∈ s.streams, r.id ∈ ids → r.isHeld = true → r.owner ≠ .station x.tag) :
    x ∈ (s.removeRecords ids).lgr.holdings := by
  induction ids generalizing s with
  | nil => exact hx
  | cons id ids ih =>
    refine ih (State.removeRecord_holdings hx (fun r hr hid => h r hr (by simp [hid]))) (fun r hr hid => ?_)
    exact h r (s.removeRecord_subset id hr) (List.mem_cons_of_mem _ hid)

/-- With the records in order, the streams of a holding are its tag's (R38). -/
theorem State.Records.held_owner {s : State} (hs : s.Records) {h : Holding} (hh : h ∈ s.lgr.holdings)
    {r : StreamRecord} (hr : r ∈ s.streams) (hid : r.id ∈ h.streams.map HeldStream.id) :
    r.owner = .station h.tag ∧ r.isHeld = true := by
  obtain ⟨x, hx, hxid⟩ := List.mem_map.1 hid
  obtain ⟨q, hq, hqid, howner, hheld⟩ := hs.heldInPlace h hh x hx
  have hsame : some q = some r := by
    rw [← State.stream?_of_mem hs.positioned.nodup hq, ← State.stream?_of_mem hs.positioned.nodup hr, hqid, hxid]
  cases hsame
  exact ⟨howner, hheld⟩

/-- The end of a holding leaves the others (R51). -/
theorem State.endHolding_others {s : State} (hs : s.Records) {h x : Holding} (hh : h ∈ s.lgr.holdings)
    (hx : x ∈ s.lgr.holdings) (hne : x.tag ≠ h.tag) : x ∈ (s.endHolding h).lgr.holdings := by
  have hmem : x ∈ (s.removeRecords (h.streams.map HeldStream.id)).lgr.holdings := by
    refine State.removeRecords_holdings hx (fun r hr hid _ howner => hne ?_)
    have := (hs.held_owner hh hr hid).1
    rw [howner] at this
    simpa using this
  unfold State.endHolding Ledger.releaseHolding
  simp only
  split
  · exact hmem
  · exact (List.mem_eraseP_of_neg (by simpa using hne)).2 hmem

/-! ### Holdings and the reclaim window -/

theorem State.closeWindow_leads (s : State) (k : ReportKind) (body : List Byte) :
    s.Leads sound commits (State.offer { s with rcu := { s.rcu with isOpen := false, remaining := 0 } } k body) :=
  (State.Leads.act (.window s (r := { s.rcu with isOpen := false, remaining := 0 })
    (fun h => ⟨h.1, Nat.zero_le _⟩))).trans (State.offer_leads _ k body)

theorem State.closeIfEmptied_leads (s : State) : s.Leads sound commits s.closeIfEmptied := by
  unfold State.closeIfEmptied
  split
  · exact s.closeWindow_leads _ _
  · exact .rfl

theorem State.discardHolding_leads {s : State} {h : Holding} (hh : sound → h ∈ s.lgr.holdings) (cause : ReleaseCause) :
    s.Leads sound commits (s.discardHolding h cause) := by
  unfold State.discardHolding
  simp only
  refine ((State.Leads.act (.endHolding s hh)).trans (State.offer_leads (s.endHolding h) .holdingReleased
    (holdingReleasedBody cause h))).trans (.trans ?_ (State.closeIfEmptied_leads _))
  split
  · exact State.handNotice_leads _ _ _ _
  · exact .rfl

/-- The holdings of a list end one after another, each with its notice (R156). -/
theorem State.expireHoldings_leads (l : List Holding) (s : State) (hl : sound → ∀ h ∈ l, h ∈ s.lgr.holdings)
    (hn : sound → (l.map Holding.tag).Nodup) : s.Leads sound commits (l.foldl State.expireHolding s) := by
  induction l generalizing s with
  | nil => exact .rfl
  | cons h l ih =>
    have hone : s.Leads sound commits (s.expireHolding h) :=
      (State.Leads.act (.endHolding s (fun hp => hl hp h List.mem_cons_self))).trans (State.noticeIfPresent_leads _ _ _ _)
    refine .of_records (fun hs => hone.trans (ih _ (fun hp x hx => ?_) (fun hp => (List.nodup_cons.1 (hn hp)).2)))
    have hne : x.tag ≠ h.tag := fun heq => (List.nodup_cons.1 (hn hp)).1 (heq ▸ List.mem_map_of_mem hx)
    simpa [State.expireHolding] using
      State.endHolding_others (hs hp) (hl hp h List.mem_cons_self) (hl hp x (List.mem_cons_of_mem _ hx)) hne

theorem State.expireWindow_leads (s : State) : s.Leads sound commits s.expireWindow := by
  unfold State.expireWindow
  simp only
  refine .of_records (fun hs => ?_)
  exact (s.expireHoldings_leads s.lgr.holdings (fun _ _ h => h) (fun hp => (hs hp).holdings)).trans
    (State.closeWindow_leads _ _ _)

theorem State.countDown_leads (s : State) : s.Leads sound commits s.countDown := by
  unfold State.countDown
  split
  · have hstep : s.Leads sound commits { s with rcu := { s.rcu with remaining := s.rcu.remaining - 1 } } :=
      .act (.window s (fun h => ⟨h.1, (Nat.sub_le _ _).trans h.2⟩))
    simp only
    split
    · exact hstep.trans (State.expireWindow_leads _)
    · exact hstep
  · exact .rfl

theorem State.windowExpiry_leads (s : State) : s.Leads sound commits s.windowExpiry := by
  unfold State.windowExpiry
  split
  · exact s.expireWindow_leads
  · exact .rfl

/-! ### The staging list -/

theorem State.commitUpTo_leads (hc : commits) (n : Cycle) (k : Nat) (s : State) : s.Leads sound commits (s.commitUpTo n k).1 := by
  induction k generalizing s with
  | zero => exact .rfl
  | succ k ih =>
    unfold State.commitUpTo
    split
    · exact .rfl
    · next e rest hedits =>
      have hhead : s.Leads sound commits (s.commitHead n e rest).1 :=
        (State.Leads.act (.commit s (n := n) hc hedits)).trans (State.tellOutcome_leads _ _ _ _)
      exact hhead.trans (ih _)

theorem State.commit_leads (hc : commits) (s : State) (n : Cycle) : s.Leads sound commits (s.commit n) := by
  unfold State.commit
  split
  · exact .rfl
  · simp only
    split
    · exact State.commitUpTo_leads hc n _ s
    · exact (State.commitUpTo_leads hc n _ s).trans (State.offer_leads _ _ _)

/-- What the discard of an edit leaves of the list (R106). -/
theorem State.dropEdit_edits (s : State) (e : Edit) :
    (s.dropEdit e).stg.edits ⊆ s.stg.edits.filter (fun x => x.number != e.number) ∧
    ∀ x ∈ s.stg.edits, x.number ≠ e.number → x.stream ≠ e.stream → x ∈ (s.dropEdit e).stg.edits := by
  have hkeep (x : Edit) (hx : x ∈ s.stg.edits) (hn : x.number ≠ e.number) :
      x ∈ s.stg.edits.filter (fun x => x.number != e.number) := List.mem_filter.2 ⟨hx, by simpa using hn⟩
  unfold State.dropEdit State.undoEdit
  split
  · next r _ hr =>
    have hid : r.id = e.stream := (State.stream?_some hr).2
    rw [State.removeRecord_edits]
    refine ⟨List.filter_sublist.subset, fun x hx hn hne => List.mem_filter.2 ⟨hkeep x hx hn, ?_⟩⟩
    simp [hid, hne]
  · refine ⟨?_, fun x hx hn _ => ?_⟩ <;> split_ifs
    · exact List.Subset.refl _
    · exact List.Subset.refl _
    · exact hkeep x hx hn
    · exact hkeep x hx hn
  · exact ⟨List.Subset.refl _, fun x hx hn _ => hkeep x hx hn⟩

/-- The discard of an edit leaves each record's place, owner, channel, units and state, or takes the record away
(R106). -/
theorem State.dropEdit_streams (s : State) (e : Edit) {r : StreamRecord} (hr : r ∈ (s.dropEdit e).streams) :
    ∃ q ∈ s.streams, q.id = r.id ∧ q.owner = r.owner ∧ q.channel = r.channel ∧ q.units = r.units ∧ q.state = r.state := by
  unfold State.dropEdit State.undoEdit at hr
  split at hr
  · have hold := State.removeRecord_subset _ _ hr
    exact ⟨r, hold, rfl, rfl, rfl, rfl, rfl⟩
  · next q _ hq =>
    have hput : r ∈ updateFirst (fun x => x.id == q.id) (fun _ => { q with pendingResize := none }) s.streams := by
      split_ifs at hr <;> exact hr
    rcases mem_updateFirst _ _ _ hput with hr | ⟨_, _, _, rfl⟩
    · exact ⟨r, hr, rfl, rfl, rfl, rfl, rfl⟩
    · exact ⟨q, (State.stream?_some hq).1, rfl, rfl, rfl, rfl, rfl⟩
  · exact ⟨r, hr, rfl, rfl, rfl, rfl, rfl⟩

theorem State.dropEdits_streams (s : State) (l : List Edit) {r : StreamRecord} (hr : r ∈ (s.dropEdits l).streams) :
    ∃ q ∈ s.streams, q.id = r.id ∧ q.owner = r.owner ∧ q.channel = r.channel ∧ q.units = r.units ∧ q.state = r.state := by
  induction l generalizing s with
  | nil => exact ⟨r, hr, rfl, rfl, rfl, rfl, rfl⟩
  | cons e l ih =>
    obtain ⟨q, hq, h1, h2, h3, h4, h5⟩ := ih (s.dropEdit e) hr
    obtain ⟨p, hp, g1, g2, g3, g4, g5⟩ := s.dropEdit_streams e hq
    exact ⟨p, hp, g1.trans h1, g2.trans h2, g3.trans h3, g4.trans h4, g5.trans h5⟩

/-- The edits discarded have left the list, and none has joined it. -/
theorem State.dropEdits_edits (s : State) (l : List Edit) {x : Edit} (hx : x ∈ (s.dropEdits l).stg.edits) :
    x ∈ s.stg.edits ∧ x ∉ l := by
  induction l generalizing s with
  | nil => exact ⟨hx, List.not_mem_nil⟩
  | cons e l ih =>
    obtain ⟨hmem, hnot⟩ := ih (s.dropEdit e) hx
    obtain ⟨hold, hne⟩ := List.mem_filter.1 ((s.dropEdit_edits e).1 hmem)
    refine ⟨hold, fun h => ?_⟩
    rcases List.mem_cons.1 h with rfl | h
    · simp at hne
    · exact hnot h

theorem State.dropEdits_leads (l : List Edit) (s : State) (hl : sound → ∀ e ∈ l, e ∈ s.stg.edits)
    (hnumbers : sound → (l.map Edit.number).Nodup) (hstreams : sound → (l.map Edit.stream).Nodup) :
    s.Leads sound commits (s.dropEdits l) := by
  induction l generalizing s with
  | nil => exact .rfl
  | cons e l ih =>
    refine (State.Leads.act (.drop s (fun hp => hl hp e List.mem_cons_self))).trans (ih _ (fun hp x hx => ?_)
      (fun hp => (List.nodup_cons.1 (hnumbers hp)).2) (fun hp => (List.nodup_cons.1 (hstreams hp)).2))
    refine (s.dropEdit_edits e).2 x (hl hp x (List.mem_cons_of_mem _ hx)) (fun h => ?_) (fun h => ?_)
    · exact (List.nodup_cons.1 (hnumbers hp)).1 (h ▸ List.mem_map_of_mem hx)
    · exact (List.nodup_cons.1 (hstreams hp)).1 (h ▸ List.mem_map_of_mem hx)

/-- The edits of the list that meet a condition are discarded (R109, R110). -/
theorem State.dropFiltered_leads (s : State) (p : Edit → Bool) :
    s.Leads sound commits (s.dropEdits (s.stg.edits.filter p)) := by
  refine .of_records (fun hs => s.dropEdits_leads _ (fun _ e he => (List.mem_filter.1 he).1) (fun hp => ?_) (fun hp => ?_))
  · exact ((List.nodup_cons.1 (hs hp).editsInPlace.2.2.2.1).2).sublist (List.filter_sublist.map _)
  · exact ((hs hp).editsInPlace.2.1).sublist (List.filter_sublist.map _)

/-- The discard of edits does not read the roster. -/
theorem State.dropEdits_withRoster (s : State) (r : Roster) (l : List Edit) :
    State.dropEdits { s with rst := r } l = { s.dropEdits l with rst := r } := by
  induction l generalizing s with
  | nil => rfl
  | cons e l ih =>
    have hone : State.dropEdit { s with rst := r } e = { s.dropEdit e with rst := r } := by
      have hfound (id : Nat) (u : State) : State.stream? { u with rst := r } id = u.stream? id := rfl
      unfold State.dropEdit State.undoEdit
      cases hop : e.op <;> cases hr : s.stream? e.stream <;> simp only [State.stream?] at hr <;>
        simp only [State.stream?, hr]
      · unfold State.removeRecord
        simp only [State.stream?]
        split <;> rfl
      · split_ifs <;> rfl
    show State.dropEdits (State.dropEdit { s with rst := r } e) l = _
    rw [hone, ih]
    rfl

end Sys2Proof.Machine
end

section
/-! SUPPORT. The chains of elementary changes that departures, the boundary and a trunk reset take. -/

namespace Sys2Proof.Machine

variable {sound commits : Prop}

/-! ### Departures -/

/-- A completed departure takes its own entry away and leaves the others, the part state and the streams (R145). -/
theorem State.completeDeparture_others (s : State) {e x : Station} (hx : x ∈ s.rst.stations) (hne : x.number ≠ e.number) :
    x ∈ (s.completeDeparture e).rst.stations := by
  unfold State.completeDeparture
  split
  · exact hx
  · simpa [State.removeEntry] using (List.mem_eraseP_of_neg (by simpa using hne)).2 hx

theorem State.completeDeparture_leads {s : State} {e : Station}
    (h : sound → e ∈ s.rst.stations ∧ (s.csq.partState = .starting ∨ ∀ r ∈ s.streams, r.isRetiring = false)) :
    s.Leads sound commits (s.completeDeparture e) := by
  cases hstate : e.state with
  | present =>
    refine .of_eq ?_
    unfold State.completeDeparture
    rw [hstate]
  | departing cause count => exact .act (.complete s hstate h)

/-- The departures of a list of entries complete one after another. -/
theorem State.completeFold_leads (l : List Station) (s : State)
    (hl : sound → ∀ e ∈ l, e ∈ s.rst.stations) (hn : sound → (l.map Station.number).Nodup)
    (h : sound → s.csq.partState = .starting ∨ ∀ r ∈ s.streams, r.isRetiring = false) :
    s.Leads sound commits (l.foldl State.completeDeparture s) := by
  induction l generalizing s with
  | nil => exact .rfl
  | cons e l ih =>
    refine (State.completeDeparture_leads (fun hp => ⟨hl hp e List.mem_cons_self, h hp⟩)).trans
      (ih _ (fun hp x hx => ?_) (fun hp => (List.nodup_cons.1 (hn hp)).2) (fun hp => by simpa using h hp))
    refine s.completeDeparture_others (hl hp x (List.mem_cons_of_mem _ hx)) (fun heq => ?_)
    exact (List.nodup_cons.1 (hn hp)).1 (heq ▸ List.mem_map_of_mem hx)

theorem State.completeDepartures_leads (s : State)
    (h : sound → s.csq.partState = .starting ∨ ∀ r ∈ s.streams, r.isRetiring = false) :
    s.Leads sound commits s.completeDepartures :=
  .of_records (fun hs => s.completeFold_leads _ (fun _ _ he => he)
    (fun hp => (hs hp).roster.numbers_nodup) h)

/-- Every departure complete, the entries left are PRESENT and stood there before (R145). -/
theorem State.completeFold_stations (l : List Station) (s : State) {e : Station}
    (he : e ∈ (l.foldl State.completeDeparture s).rst.stations) :
    e ∈ s.rst.stations ∧ (e ∈ l → (s.rst.stations.map Station.number).Nodup → e.state = .present) := by
  induction l generalizing s with
  | nil => exact ⟨he, fun h => absurd h List.not_mem_nil⟩
  | cons x l ih =>
    obtain ⟨hmem, hrest⟩ := ih (s.completeDeparture x) he
    have hone : e ∈ s.rst.stations ∧
        ((s.rst.stations.map Station.number).Nodup → e = x → e.state = .present) ∧
        ((s.rst.stations.map Station.number).Nodup → ((s.completeDeparture x).rst.stations.map Station.number).Nodup) := by
      unfold State.completeDeparture at hmem ⊢
      split at hmem
      · next hx => exact ⟨hmem, fun _ heq => heq ▸ hx, by simp only [imp_self]⟩
      · simp only [State.offer_rst, Roster.touch_frame, State.removeEntry] at hmem ⊢
        refine ⟨List.eraseP_subset hmem, fun hn heq => ?_, fun hn => hn.sublist (eraseP_map_sublist _ _ _)⟩
        rw [eraseP_eq_filter Station.number x.number _ hn] at hmem
        simp [heq] at hmem
    obtain ⟨hold, hself, hn⟩ := hone
    refine ⟨hold, fun h hnodup => ?_⟩
    rcases List.mem_cons.1 h with heq | h
    · exact hself hnodup heq
    · exact hrest h (hn hnodup)

/-- The PRESENT station of an entry begins its departure (R144). -/
theorem State.beginDeparture_leads {s : State} {e : Station}
    (he : sound → ∃ x ∈ s.rst.stations, x.tag = e.tag ∧ x.number = e.number) (cause : DepartCause) :
    s.Leads sound commits (s.beginDeparture e cause) := by
  set edits := s.stg.edits.filter (fun x => s.editOwnedBy x (.station e.tag)) with hedits
  have hchain : s.Leads sound commits (s.dropEdits edits) := s.dropFiltered_leads _
  have heq : s.beginDeparture e cause = State.reportDiscards
      { s.dropEdits edits with
        rst := (s.dropEdits edits).rst.update e.number
          (fun x => { x with state := .departing cause (s.departingStreams e.tag) })
        streams := (s.dropEdits edits).streams.map (fun r => r.depart e.tag) } (.departure e.tag) edits := by
    unfold State.beginDeparture
    simp only [State.dropEdits_withRoster, State.dropEdits_frame, ← hedits]
  rw [heq]
  refine .of_records (fun hs0 => hchain.and_records (fun hs => ?_))
  refine (State.Leads.act (.depart _ (fun hp => ⟨by simpa using he hp, fun r hr howner hstaged => ?_⟩))).trans
    (State.reportDiscards_leads _ _ _)
  obtain ⟨x, hx, hxid, -⟩ := ((hs hp).stagedInPlace r hr).1 hstaged
  obtain ⟨q, hq, hqid, hqowner, -⟩ := s.dropEdits_streams edits hr
  obtain ⟨hold, hnot⟩ := s.dropEdits_edits edits hx
  refine hnot (List.mem_filter.2 ⟨hold, ?_⟩)
  have hfound := State.stream?_of_mem (hs0 hp).positioned.nodup hq
  simp only [State.editOwnedBy, State.editOwner, hxid, ← hqid, hfound, Option.map_some, hqowner, howner, beq_self_eq_true]

theorem State.evictPresent_leads {s : State} {e : Station} (he : sound → e ∈ s.rst.stations) :
    s.Leads sound commits (s.evictPresent e) :=
  (s.handNotice_leads _ _ _).trans
    (State.beginDeparture_leads (fun hp => (s.handNotice_roster _ _ _).stays e (he hp)) _)

end Sys2Proof.Machine
end

section
/-! SUPPORT. The chains of elementary changes that the boundary, a trunk reset and the control requests take. -/

namespace Sys2Proof.Machine

variable {sound commits : Prop}

/-! ### Passes over the records -/

/-- The turn of one position in a pass over the records. -/
def State.turn (f : StreamRecord → State → State) (s : State) (id : Nat) : State :=
  match s.stream? id with
  | some r => f r s
  | none => s

/-- A pass takes the positions in turn. -/
theorem State.eachStream_eq (s : State) (f : StreamRecord → State → State) :
    s.eachStream f = (s.streams.map StreamRecord.id).foldl (State.turn f) s := rfl

theorem State.turn_some {f : StreamRecord → State → State} {s : State} {id : Nat} {r : StreamRecord}
    (h : s.stream? id = some r) : s.turn f id = f r s := by
  unfold State.turn; rw [h]

theorem State.turn_none {f : StreamRecord → State → State} {s : State} {id : Nat} (h : s.stream? id = none) :
    s.turn f id = s := by
  unfold State.turn; rw [h]

/-- What the removal of a RETIRING record, or the turn of any other, makes of the table (R75). -/
theorem State.removeRetiring_streams {s : State} (h : (s.streams.map StreamRecord.id).Nodup) (id : Nat) :
    (s.turn State.removeRetiring id).streams = s.streams.filter (fun r => !(r.id == id && r.isRetiring)) := by
  cases hr : s.stream? id with
  | none =>
    rw [State.turn_none hr]
    have hall : ∀ r ∈ s.streams, r.id ≠ id := by simpa [State.stream?] using hr
    exact (List.filter_eq_self.2 (fun r hm => by simp [hall r hm])).symm
  | some r =>
    obtain ⟨hmem, rfl⟩ := State.stream?_some hr
    have hsame : ∀ q ∈ s.streams, q.id = r.id → q = r := fun q hq hid =>
      Option.some.inj ((State.stream?_of_mem h hq).symm.trans (hid ▸ hr))
    rw [State.turn_some hr]
    unfold State.removeRetiring
    split
    · next cause hstate =>
      rw [(State.announce_frame _ _ _ _ _).2.2.2.1, State.removeRecord_streams h]
      refine List.filter_congr (fun q hq => ?_)
      by_cases hid : q.id = r.id
      · simp [hsame q hq hid, StreamRecord.isRetiring, hstate]
      · simp [bne, beq_eq_false_iff_ne.2 hid]
    · next hstate =>
      have hnot : r.isRetiring = false := by
        unfold StreamRecord.isRetiring
        split
        · next c hc => exact absurd hc (hstate c)
        · rfl
      refine (List.filter_eq_self.2 (fun q hq => ?_)).symm
      by_cases hid : q.id = r.id
      · simp [hsame q hq hid, hnot]
      · simp [beq_eq_false_iff_ne.2 hid]

/-- The first part of a boundary leaves the records that are not RETIRING (R75). -/
theorem State.each_removeRetiring_streams {s : State} (h : (s.streams.map StreamRecord.id).Nodup) :
    (s.eachStream State.removeRetiring).streams = s.streams.filter (fun r => !r.isRetiring) := by
  have hfold (ids : List Nat) (s : State) (h : (s.streams.map StreamRecord.id).Nodup) :
      (ids.foldl (State.turn State.removeRetiring) s).streams
        = s.streams.filter (fun r => !(ids.contains r.id && r.isRetiring)) := by
    induction ids generalizing s with
    | nil => simp
    | cons id ids ih =>
      have hone := State.removeRetiring_streams h id
      rw [List.foldl_cons, ih _ (by rw [hone]; exact h.sublist (List.filter_sublist.map _)), hone, List.filter_filter]
      refine List.filter_congr (fun r _ => ?_)
      by_cases hr : r.id = id <;> cases hret : r.isRetiring <;> simp [hr]
  rw [State.eachStream_eq, hfold _ _ h]
  refine List.filter_congr (fun r hr => ?_)
  simp [List.mem_map_of_mem hr]

/-! ### The boundary -/

/-- Behind the removals' first pass: reports, notices and the completed departures (R75, R83, R145). -/
theorem State.removals_after {s : State} (hs : sound → s.Records) :
    (s.eachStream State.removeRetiring).Leads sound commits s.removals := by
  unfold State.removals
  simp only
  refine ((State.reportDiscards_leads _ _ _).trans (State.tellDiscards_leads _ _)).trans
    (State.completeDepartures_leads _ (fun hp => .inr (fun r hr => ?_)))
  simp only [State.tellDiscards_frame, State.reportDiscards_frame,
    State.each_removeRetiring_streams (hs hp).positioned.nodup, List.mem_filter] at hr
  simpa using hr.2

theorem State.eachRemoved_leads (s : State) : s.Leads sound commits (s.eachStream State.removeRetiring) :=
  s.eachStream_leads _ (fun r s _ => s.removeRetiring_leads r)

theorem State.removals_leads (s : State) : s.Leads sound commits s.removals :=
  .of_records (fun hs => s.eachRemoved_leads.trans (State.removals_after hs))

/-- The steps of the boundary's work behind the removals (R83). -/
theorem State.boundaryWork_after (s : State) (n : Cycle) (marks : Bool) :
    s.removals.Leads sound commits (s.boundaryWork n marks) := by
  unfold State.boundaryWork
  simp only
  have h2 := State.eachStream_leads (sound := sound) (commits := commits) s.removals
    (State.suspendDeparted s.rst.departing) (State.suspendDeparted_leads s.rst.departing)
  refine (((State.Leads.trans ?_ (State.eachStream_leads _ _ (State.restore_leads n))).trans
    (State.eachStream_leads _ _ (State.activate_leads n))).trans (State.eachStream_leads _ _ (State.returnTalker_leads n)))
  split
  · exact h2.trans (State.eachStream_leads _ _ State.applyMark_leads)
  · exact h2

theorem State.boundaryWork_leads (s : State) (n : Cycle) (marks : Bool) : s.Leads sound commits (s.boundaryWork n marks) :=
  s.removals_leads.trans (s.boundaryWork_after n marks)

/-- A change of the cycle that leaves the part state and the late run. -/
theorem State.cycle_leads (s : State) (q : Sequencer) (v : List ObsEntry) (hl : q.lateRun = s.csq.lateRun)
    (hp : q.partState = .starting → s.csq.partState = .starting) : s.Leads sound commits { s with csq := q, svw := v } :=
  .act (.cycle s (fun h => hl ▸ h) hp)

theorem State.csq_leads (s : State) (q : Sequencer) (hl : q.lateRun = s.csq.lateRun)
    (hp : q.partState = .starting → s.csq.partState = .starting) : s.Leads sound commits { s with csq := q } :=
  s.cycle_leads q s.svw hl hp

/-- What the Trunk Port sends changes, and its queue, its parked notices and the detector stay. -/
theorem State.port_leads (s : State) (t : TrunkPort) (ho : t.outbound = s.tpt.outbound) (hp : t.parked = s.tpt.parked)
    (hb : t.burst = s.tpt.burst) : s.Leads sound commits { s with tpt := t } :=
  .act (.port s (fun h => by unfold TrunkPort.bounded at h ⊢; rwa [ho, hp, hb]))

theorem State.formPlan_leads (s : State) (n : Cycle) (timing : Timing) (stretch : Nat) :
    s.Leads sound commits (s.formPlan n timing stretch) :=
  (s.cycle_leads (s.formPlan n timing stretch).csq (s.formPlan n timing stretch).svw rfl id).trans
    (State.port_leads _ (s.formPlan n timing stretch).tpt rfl rfl rfl)

theorem State.boundary_leads (hc : commits) (s : State) (timing : Timing) (stretch : Nat) :
    s.Leads sound commits (s.boundary timing stretch) := by
  unfold State.boundary
  simp only
  refine (s.csq_leads { s.csq with lastCycle := some s.csq.nextCycle } rfl id).trans ?_
  generalize { s with csq := { s.csq with lastCycle := some s.csq.nextCycle } } = s1
  exact (((State.commit_leads hc s1 _).trans (State.boundaryWork_leads _ _ _)).trans (State.countDown_leads _)).trans
    (State.formPlan_leads _ _ _ _)

/-! ### The trunk reset -/

/-- The removals of a trunk reset leave the records that are not RETIRING (R79). -/
theorem State.removeRetiringIds_streams {s : State} (h : (s.streams.map StreamRecord.id).Nodup) :
    (s.removeRecords s.retiringIds).streams = s.streams.filter (fun r => !r.isRetiring) := by
  rw [State.removeRecords_streams h]
  refine List.filter_congr (fun r hr => ?_)
  have : r.id ∈ s.retiringIds ↔ r.isRetiring = true := by
    unfold State.retiringIds
    simp only [List.mem_map, List.mem_filter]
    refine ⟨fun ⟨q, ⟨hq, hret⟩, hid⟩ => ?_, fun hret => ⟨r, ⟨hr, hret⟩, rfl⟩⟩
    have : some q = some r := by rw [← State.stream?_of_mem h hq, ← State.stream?_of_mem h hr, hid]
    cases this
    exact hret
  rw [Bool.not_inj_iff, Bool.eq_iff_iff, List.contains_iff_mem, this]

/-- The removals, the departures and the discards of a trunk reset, ahead of its change of the records kept (R79,
R109). -/
def State.resetRemovals (s : State) : State :=
  let s1 := (s.removeRecords s.retiringIds).completeDepartures
  (s1.dropEdits (s1.stg.edits.filter s1.editStationOwned)).reportDiscards .trunkReset s.resetDiscards

/-- A trunk reset is the removals, the change of what is kept, and its report (R3). -/
theorem State.trunkReset_eq (s : State) (cause : ResetCause) :
    s.trunkReset cause = s.nextEpoch.resetRemovals.restart.offer .trunkReset
      (trunkResetBody cause s.csq.partState s.rst.epoch s.nextEpoch.resetRemovals.restart.rst.epoch
        s.nextEpoch.resetStreams.rst.stations.length s.rst.departingCount) := rfl

theorem State.resetRemovals_leads (s : State) : s.Leads sound commits s.resetRemovals := by
  unfold State.resetRemovals
  simp only
  refine .of_records (fun hs => (((s.removeRecords_leads s.retiringIds).trans
    (State.completeDepartures_leads _ (fun hp => .inr (fun r hr => ?_)))).trans
    (State.dropFiltered_leads _ _)).trans (State.reportDiscards_leads _ _ _))
  rw [State.removeRetiringIds_streams (hs hp).positioned.nodup] at hr
  simpa using (List.mem_filter.1 hr).2

/-- An edit is for a station's stream exactly where its record has a station for owner (R109). -/
theorem State.editStationOwned_iff (s : State) (e : Edit) :
    s.editStationOwned e = true ↔ ∃ r, s.stream? e.stream = some r ∧ ∃ t, r.owner = .station t := by
  unfold State.editStationOwned State.editOwner
  cases hr : s.stream? e.stream with
  | none => simp
  | some r => cases ho : r.owner <;> simp [ho]

/-- What the removals of a trunk reset leave: no RETIRING record, no edit of a station's stream, and PRESENT entries
only (R79, R109, R132). -/
theorem State.resetRemovals_clean {s : State} (hs : s.Records) :
    (∀ r ∈ s.resetRemovals.streams, r.isRetiring = false) ∧
    (∀ x ∈ s.resetRemovals.stg.edits, s.resetRemovals.editStationOwned x = false) ∧
    ∀ e ∈ s.resetRemovals.rst.stations, e.state = .present := by
  have hnodup := hs.positioned.nodup
  obtain ⟨s1, hs1⟩ : ∃ s1, s1 = (s.removeRecords s.retiringIds).completeDepartures := ⟨_, rfl⟩
  have hstreams : s1.streams = s.streams.filter (fun r => !r.isRetiring) := by
    rw [hs1, (State.completeDepartures_frame _).2.2.1, State.removeRetiringIds_streams hnodup]
  have hn1 : (s1.streams.map StreamRecord.id).Nodup := by
    rw [hstreams]; exact hnodup.sublist (List.filter_sublist.map _)
  obtain ⟨s2, hs2⟩ : ∃ s2, s2 = s1.dropEdits (s1.stg.edits.filter s1.editStationOwned) := ⟨_, rfl⟩
  have heq : s.resetRemovals = s2.reportDiscards .trunkReset s.resetDiscards := by
    rw [hs2, hs1]; rfl
  have hfrom : ∀ r ∈ s2.streams, ∃ q ∈ s1.streams, q.id = r.id ∧ q.owner = r.owner ∧ q.state = r.state := by
    intro r hr
    rw [hs2] at hr
    obtain ⟨q, hq, hid, howner, -, -, hstate⟩ := s1.dropEdits_streams _ hr
    exact ⟨q, hq, hid, howner, hstate⟩
  rw [heq]
  simp only [State.reportDiscards_frame]
  refine ⟨fun r hr => ?_, fun x hx => ?_, fun e he => ?_⟩
  · obtain ⟨q, hq, -, -, hstate⟩ := hfrom r hr
    rw [hstreams] at hq
    unfold StreamRecord.isRetiring
    rw [← hstate]
    simpa [StreamRecord.isRetiring] using (List.mem_filter.1 hq).2
  · rw [hs2] at hx
    obtain ⟨hold, hnot⟩ := s1.dropEdits_edits _ hx
    have hfree : ¬ s1.editStationOwned x = true := fun h => hnot (List.mem_filter.2 ⟨hold, h⟩)
    refine Bool.eq_false_iff.2 (fun h => hfree ?_)
    obtain ⟨r, hr, t, ht⟩ := (State.editStationOwned_iff _ x).1 h
    have hr2 : s2.stream? x.stream = some r := by
      simpa only [State.stream?, State.reportDiscards_frame] using hr
    obtain ⟨hmem, hid⟩ := State.stream?_some hr2
    obtain ⟨q, hq, hqid, howner, -⟩ := hfrom r hmem
    refine (s1.editStationOwned_iff x).2 ⟨q, ?_, t, howner.trans ht⟩
    rw [← hid, ← hqid]
    exact State.stream?_of_mem hn1 hq
  · rw [hs2, (State.dropEdits_frame _ _).2.2.2.1, hs1] at he
    obtain ⟨hold, hdone⟩ := State.completeFold_stations _ _ he
    have hn : ((s.removeRecords s.retiringIds).rst.stations.map Station.number).Nodup := by
      simpa using hs.roster.numbers_nodup
    exact hdone hold hn

theorem State.nextEpoch_leads (s : State) : s.Leads sound commits s.nextEpoch :=
  .act (.roster s ⟨id, fun h => ⟨h.tags, h.rising, h.known, h.numbers, h.recorded, h.lasts⟩,
    fun e he => ⟨e, he, rfl, rfl⟩, fun x hx hs => ⟨x, hx, rfl, hs⟩⟩)

theorem State.trunkReset_leads (s : State) (cause : ResetCause) : s.Leads sound commits (s.trunkReset cause) := by
  rw [State.trunkReset_eq]
  refine (s.nextEpoch_leads.and_records (fun hs => ?_)).trans (State.offer_leads _ _ _)
  exact (State.resetRemovals_leads _).trans (.act (.restart _ (fun hp => State.resetRemovals_clean (hs hp))))

/-! ### Waiters and the control requests -/

theorem State.link_leads {s : State} {h : HostLink} (hk : s.hlk.Keeps h) : s.Leads sound commits { s with hlk := h } :=
  .act (.link s hk)

theorem State.answerStarts_leads (s : State) (r : Reply) : s.Leads sound commits (s.answerStarts r) :=
  (State.link_leads (s.hlk.answerEach_keeps _ r)).trans (State.csq_leads _ _ rfl id)

theorem State.answerHalts_leads (s : State) : s.Leads sound commits s.answerHalts :=
  (State.link_leads (s.hlk.answerEach_keeps _ _)).trans (State.csq_leads _ _ rfl id)

theorem State.enterHalted_leads (s : State) : s.Leads sound commits s.enterHalted :=
  (s.csq_leads { s.csq with partState := .halted, phase := .none } rfl nofun).trans
    (.act (.port _ (fun h => ⟨h.1, Nat.zero_le _, h.2.2⟩)))

theorem State.abandonRollCall_leads {s : State} (h : s.csq.partState = .starting) : s.Leads sound commits s.abandonRollCall := by
  unfold State.abandonRollCall
  refine (((s.completeDepartures_leads (fun _ => .inl h)).trans (.act (.clear _ (fun _ => by simpa using h)))).trans
    (State.answerStarts_leads _ _)).trans (State.enterHalted_leads _)

theorem State.trunkReset_starting (s : State) (cause : ResetCause) : (s.trunkReset cause).csq.partState = .starting := by
  simp [State.trunkReset, Sequencer.enterStarting]

theorem State.takeCause_leads (s : State) (cause : ResetCause) : s.Leads sound commits (s.takeCause cause) := by
  unfold State.takeCause
  simp only
  split
  · exact ((s.trunkReset_leads cause).trans (State.abandonRollCall_leads (s.trunkReset_starting cause))).trans
      (State.answerHalts_leads _)
  · exact s.trunkReset_leads cause

theorem State.waitStart_leads (s : State) (tag : Byte) : s.Leads sound commits (s.waitStart tag) :=
  s.csq_leads { s.csq with startWaiters := s.csq.startWaiters ++ [tag] } rfl id

theorem takeStart_leads (tag : Byte) (body : List Byte) (s : State) : s.Leads sound commits (takeStart tag body s).1 := by
  unfold takeStart
  split
  · exact .rfl
  · split
    · exact (s.waitStart_leads tag).trans (State.trunkReset_leads _ _)
    · exact (s.waitStart_leads tag).trans (State.trunkReset_leads _ _)
    · exact .rfl
    · exact .rfl

theorem takeTrunkReset_leads (tag : Byte) (body : List Byte) (s : State) :
    s.Leads sound commits (takeTrunkReset tag body s).1 := by
  unfold takeTrunkReset
  split
  · exact .rfl
  · split
    · exact .rfl
    · exact .rfl
    · exact (s.waitStart_leads tag).trans (State.takeCause_leads _ _)
    · exact (s.waitStart_leads tag).trans (State.takeCause_leads _ _)

theorem takeHalt_leads (tag : Byte) (body : List Byte) (s : State) : s.Leads sound commits (takeHalt tag body s).1 := by
  unfold takeHalt
  split
  · exact .rfl
  · split
    · exact .rfl
    · exact .rfl
    · next h => exact State.abandonRollCall_leads h
    · split
      · exact s.enterHalted_leads
      · exact s.csq_leads _ rfl id

theorem takeReset_leads (tag : Byte) (body : List Byte) (s : State) : s.Leads sound commits (takeReset tag body s).1 := by
  unfold takeReset
  split
  · exact .rfl
  · have hk : s.hlk.Keeps { s.hlk.answerEach (s.hlk.otherWaiting tag) ⟨.aborted, []⟩ with resetting := some tag } :=
      (s.hlk.answerEach_keeps _ _).trans (.of_eq rfl rfl rfl rfl)
    exact (State.link_leads hk).trans (State.csq_leads _ { s.csq with
      startWaiters := [], haltWaiters := [], phase := s.csq.phase.afterReset } rfl id)

theorem takeConfigure_leads (body : List Byte) (s : State) : s.Leads sound commits (takeConfigure body s).1 := by
  unfold takeConfigure
  simp only
  split
  · exact .rfl
  · next h => exact .act (.configure s h (configPairs_carried body))

theorem State.acknowledge_leads {s : State} {count : Nat} (hc : 0 < count) (hr : 0 < s.rpu.queue.length) :
    s.Leads sound commits (s.acknowledge count) :=
  .act (.reports s (s.rpu.acknowledge_keeps count hc hr _ _))

theorem takeReportAck_leads (body : List Byte) (s : State) : s.Leads sound commits (takeReportAck body s).1 := by
  unfold takeReportAck
  split
  · split
    · exact .rfl
    · next i hi =>
      exact State.acknowledge_leads (Nat.succ_pos i) (Nat.zero_lt_of_lt (List.findIdx?_eq_some_iff_getElem.1 hi).1)
  · exact .rfl

end Sys2Proof.Machine
end

section
/-! SUPPORT. The chains of elementary changes that requests, frames and instants take, and a step. -/

namespace Sys2Proof.Machine

variable {sound commits : Prop}

/-! ### The requests that both may send -/

/-- The host may send a request at any time. -/
theorem State.admitsParty_host (s : State) : s.admitsParty .host := nofun

theorem takeExchangeUnits_leads {p : Party} (body : List Byte) {s : State} (hp : s.admitsParty p) :
    s.Leads sound commits (takeExchangeUnits p body s).1 := by
  unfold takeExchangeUnits
  split
  · exact .rfl
  · exact .act (.units s _ _ _ hp)

theorem takeExchangeChannels_leads {p : Party} (body : List Byte) {s : State} (hp : s.admitsParty p) :
    s.Leads sound commits (takeExchangeChannels p body s).1 := by
  unfold takeExchangeChannels
  split
  · exact .rfl
  · exact .act (.channels s _ _ _ hp)

theorem takeAdmit_leads {p : Party} (body : List Byte) {s : State} (hp : s.admitsParty p) :
    s.Leads sound commits (takeAdmit p body s).1 := by
  unfold takeAdmit
  split
  · exact .rfl
  · next a _ =>
    split
    · exact .rfl
    · next hfail =>
      simp only
      split
      · exact .rfl
      · next l hl => exact .act (.admitStream s hp hfail hl)

theorem State.submitEdit_leads (s : State) (kind : Kind) (p : Party) (id units : Nat) :
    s.Leads sound commits (s.submitEdit kind p id units).1 := by
  unfold State.submitEdit
  split
  · exact .rfl
  · exact .rfl
  · next r hfail hr =>
    simp only
    split
    · exact .rfl
    · next l hl => exact .act (.stage s hfail hr hl)

theorem takeStreamEdit_leads (kind : Kind) (p : Party) (body : List Byte) (s : State) :
    s.Leads sound commits (takeStreamEdit kind p body s).1 := by
  unfold takeStreamEdit
  split
  · exact .rfl
  · exact s.submitEdit_leads _ _ _ _

theorem takeResize_leads (p : Party) (body : List Byte) (s : State) : s.Leads sound commits (takeResize p body s).1 := by
  unfold takeResize
  split
  · exact .rfl
  · exact s.submitEdit_leads _ _ _ _

theorem takeWithdraw_leads (p : Party) (body : List Byte) (s : State) : s.Leads sound commits (takeWithdraw p body s).1 := by
  unfold takeWithdraw
  split
  · exact .rfl
  · split_ifs
    · exact .rfl
    · exact .rfl
    · split
      · exact .rfl
      · next e he =>
        split_ifs
        · exact .rfl
        · have hdrop : s.Leads sound commits (s.dropEdit e) := .act (.drop s (fun _ => List.mem_of_find?_eq_some he))
          simp only
          split
          · exact hdrop.trans (State.noticeIfPresent_leads _ _ _ _)
          · exact hdrop

theorem partyRequest_leads {kind : Kind} {p : Party} {body : List Byte} {s : State} {x : State × Reply}
    (hp : s.admitsParty p) (h : partyRequest kind p body s = some x) : s.Leads sound commits x.1 := by
  unfold partyRequest at h
  split at h
  case h_11 => exact absurd h nofun
  all_goals obtain rfl := Option.some.inj h
  · exact takeExchangeUnits_leads body hp
  · exact takeExchangeChannels_leads body hp
  · exact .rfl
  · exact takeAdmit_leads body hp
  · exact takeStreamEdit_leads _ _ _ _
  · exact takeResize_leads _ _ _
  · exact takeStreamEdit_leads _ _ _ _
  · exact takeStreamEdit_leads _ _ _ _
  · exact takeWithdraw_leads _ _ _
  · exact .rfl

/-! ### The requests of one side -/

theorem takeDiscardHolding_leads (body : List Byte) (s : State) : s.Leads sound commits (takeDiscardHolding body s).1 := by
  unfold takeDiscardHolding
  split
  · exact .rfl
  · split
    · exact .rfl
    · next h hh => exact State.discardHolding_leads (fun _ => List.mem_of_find?_eq_some hh) _

theorem takeFreeze_leads (kind : Kind) (frozen : Bool) (body : List Byte) (s : State) :
    s.Leads sound commits (takeFreeze kind frozen body s).1 := by
  unfold takeFreeze
  split
  · exact .rfl
  · exact .act (.freeze s frozen)

theorem State.giveRights_leads (s : State) (t : Tag) (rights : Rights) :
    s.Leads sound commits { s with rst := (s.rst.giveRights t rights).1 } :=
  .act (.roster s (s.rst.giveRights_keeps t rights))

theorem takeSetRights_leads (body : List Byte) (s : State) : s.Leads sound commits (takeSetRights body s).1 := by
  unfold takeSetRights
  split
  · exact .rfl
  · exact s.giveRights_leads _ _

theorem State.evict_leads (s : State) (t : Tag) : s.Leads sound commits (s.evict t).1 := by
  unfold State.evict
  split
  · next e he =>
    split
    · exact State.evictPresent_leads (fun _ => List.mem_of_find?_eq_some he)
    · exact .rfl
  · split
    · next h hh => exact State.discardHolding_leads (fun _ => List.mem_of_find?_eq_some hh) _
    · exact .rfl

theorem takeEvict_leads (body : List Byte) (s : State) : s.Leads sound commits (takeEvict body s).1 := by
  unfold takeEvict
  split
  · exact .rfl
  · simp only
    split
    · exact (s.evict_leads _).trans (State.giveRights_leads _ _ _)
    · exact s.evict_leads _

theorem takeLeave_leads {e : Station} (body : List Byte) {s : State} (he : e ∈ s.rst.stations) :
    s.Leads sound commits (takeLeave e body s).1 := by
  unfold takeLeave
  split
  · exact .rfl
  · exact State.beginDeparture_leads (fun _ => ⟨e, he, rfl, rfl⟩) _

theorem takeReclaim_leads {e : Station} (body : List Byte) {s : State} (he : s.admitsParty (.station e.tag)) :
    s.Leads sound commits (takeReclaim e body s).1 := by
  unfold takeReclaim
  split
  · exact .rfl
  · split
    · exact .rfl
    · split
      · exact .rfl
      · next h hh =>
        exact ((State.Leads.act (.reclaim s he hh)).trans (State.offer_leads _ _ _)).trans (State.closeIfEmptied_leads _)

theorem hostOwner_leads {kind : Kind} {tag : Byte} {body : List Byte} {s : State} {x : State × Option Reply}
    (h : hostOwner kind tag body s = some x) : s.Leads sound commits x.1 := by
  unfold hostOwner at h
  split at h
  case h_20 =>
    obtain ⟨y, hy, hx⟩ := Option.bind_eq_some_iff.1 h
    obtain rfl := Option.some.inj hx
    exact partyRequest_leads s.admitsParty_host hy
  case h_18 => exact absurd h nofun
  case h_19 => exact absurd h nofun
  all_goals obtain rfl := Option.some.inj h
  · exact takeConfigure_leads _ _
  · exact .rfl
  · exact takeStart_leads _ _ _
  · exact takeHalt_leads _ _ _
  · exact takeReset_leads _ _ _
  · exact takeTrunkReset_leads _ _ _
  · exact .rfl
  · exact .rfl
  · exact takeDiscardHolding_leads _ _
  · exact takeFreeze_leads _ _ _ _
  · exact takeFreeze_leads _ _ _ _
  · exact .rfl
  · exact .rfl
  · exact .rfl
  · exact takeSetRights_leads _ _
  · exact takeEvict_leads _ _
  · exact takeReportAck_leads _ _

theorem stationOwner_leads {kind : Kind} {e : Station} {body : List Byte} {s : State} {x : State × Reply}
    (he : e ∈ s.rst.stations) (hp : s.admitsParty (.station e.tag)) (h : stationOwner kind e body s = some x) :
    s.Leads sound commits x.1 := by
  unfold stationOwner at h
  split at h
  · obtain rfl := Option.some.inj h
    exact takeLeave_leads _ he
  · obtain rfl := Option.some.inj h
    exact takeReclaim_leads _ hp
  · exact partyRequest_leads hp h

end Sys2Proof.Machine
end

section
/-! SUPPORT. The chains of elementary changes that frames, transmissions and instants take; a step. -/

namespace Sys2Proof.Machine

variable {sound commits : Prop}

/-! ### The Host Link -/

theorem State.placeAnswer_leads (s : State) (f : HostFrame) : s.Leads sound commits (s.placeAnswer f) :=
  State.link_leads (s.hlk.placeAnswer_keeps f)

theorem State.answer_leads (s : State) (tag : Byte) (r : Reply) : s.Leads sound commits (s.answer tag r) :=
  State.link_leads (s.hlk.answer_keeps tag r)

theorem State.takeHostRequest_leads {s t : State} {q : HostRequest} (h : s.takeHostRequest q = some t) :
    (s.openEntry q).Leads sound commits t := by
  unfold State.takeHostRequest at h
  split at h
  · next s2 r hx =>
    obtain rfl := Option.some.inj h
    obtain ⟨k, -, hk⟩ := Option.bind_eq_some_iff.1 hx
    exact (hostOwner_leads hk).trans (State.answer_leads _ _ _)
  · next s2 hx =>
    obtain rfl := Option.some.inj h
    obtain ⟨k, -, hk⟩ := Option.bind_eq_some_iff.1 hx
    exact hostOwner_leads hk
  · exact absurd h nofun

/-- A frame judged on, once a stale cache entry of its tag has gone (R182 steps 4 to 7). -/
theorem State.judgeFresh_leads {s : State} {h : HostLink} {q : HostRequest} (hk : s.hlk.Keeps h)
    (hc : s.hlk.keyed → ∀ c ∈ h.cache, c.tag ≠ q.tag) : s.Leads sound commits (State.judgeFresh { s with hlk := h } q) := by
  have hplace (f : HostFrame) : s.Leads sound commits (State.placeAnswer { s with hlk := h } f) :=
    (State.link_leads hk).trans (State.placeAnswer_leads _ f)
  unfold State.judgeFresh
  split
  · exact hplace _
  · next hnone =>
    split_ifs
    · exact hplace _
    · next hroom =>
      cases ht : State.takeHostRequest { s with hlk := h } q with
      | none => exact hplace _
      | some t =>
        have htable : ∀ e ∈ h.table, e.tag ≠ q.tag := by simpa using hnone
        exact (State.link_leads (hk.openEntry (Nat.not_le.1 hroom) hc htable)).trans (State.takeHostRequest_leads ht)

theorem State.judge_leads (s : State) (q : HostRequest) : s.Leads sound commits (s.judge q) := by
  unfold State.judge
  split_ifs
  · exact .rfl
  · exact s.placeAnswer_leads _
  · split
    · split_ifs
      · exact s.placeAnswer_leads _
      · exact State.judgeFresh_leads (s.hlk.forget_keeps _) (fun hk => HostLink.keyed.forgotten hk q.tag)
    · next hnone =>
      have hc : ∀ c ∈ s.hlk.cache, c.tag ≠ q.tag := by simpa using hnone
      exact State.judgeFresh_leads (s := s) (h := s.hlk) .rfl (fun _ => hc)

theorem State.hostRequest_leads (s : State) (kind : Kind) (tag : Byte) (body : List Byte) :
    s.Leads sound commits (s.hostRequest kind tag body) := s.judge_leads _

/-- The framer's state is its own. -/
theorem State.framer_leads (s : State) (f : Framer) : s.Leads sound commits { s with hlk := { s.hlk with framer := f } } :=
  State.link_leads (.of_eq rfl rfl rfl rfl)

theorem State.abandonFrame_leads (s : State) (cause : Byte) (kind tag : Option Byte) :
    s.Leads sound commits (s.abandonFrame cause kind tag) :=
  (s.framer_leads .hunting).trans (State.placeAnswer_leads _ _)

theorem State.finishFrame_leads (s : State) (bytes : List Byte) (damaged : Bool) :
    s.Leads sound commits (s.finishFrame bytes damaged) := by
  unfold State.finishFrame
  simp only
  split
  · split
    · exact (s.framer_leads .hunting).trans (State.judge_leads _ _)
    · exact s.abandonFrame_leads _ _ _
  · exact s.abandonFrame_leads _ _ _

theorem State.receiveByte_leads (s : State) (b : HostByte) : s.Leads sound commits (s.receiveByte b) := by
  unfold State.receiveByte
  split
  · split
    · exact s.framer_leads _
    · exact .rfl
  · unfold State.assemble
    simp only
    split_ifs
    · exact s.abandonFrame_leads _ _ _
    · exact s.abandonFrame_leads _ _ _
    · exact s.finishFrame_leads _ _
    · exact s.framer_leads _

theorem State.byteTimeout_leads (s : State) : s.Leads sound commits s.byteTimeout := by
  unfold State.byteTimeout
  split
  · exact .rfl
  · exact s.abandonFrame_leads _ _ _

theorem State.replySent_leads (s : State) (rateA rateB : Bool) : s.Leads sound commits (s.replySent rateA rateB) := by
  unfold State.replySent
  split
  · next tag f _ =>
    split
    · exact .act (.reset s id)
    · exact State.link_leads (s.hlk.replySent_keeps tag f)
  · exact .rfl

theorem State.answerSent_leads (s : State) : s.Leads sound commits s.answerSent := by
  unfold State.answerSent
  split
  · exact State.link_leads s.hlk.answerSent_keeps
  · exact .rfl

theorem State.reports_leads (s : State) {r : Reports} (h : s.rpu.Keeps r) : s.Leads sound commits { s with rpu := r } :=
  .act (.reports s h)

theorem State.reportSent_leads (s : State) : s.Leads sound commits s.reportSent := by
  unfold State.reportSent
  split
  · next seq _ _ =>
    have hlink : s.hlk.Keeps { s.hlk with sending := none } := .of_eq rfl rfl rfl rfl
    refine (State.link_leads hlink).trans (State.reports_leads _ ?_)
    exact Reports.restate_keeps _ _ _ nofun (fun x hx h => by simp [h] at hx)
  · exact .rfl

theorem State.resendDue_leads (s : State) (seq : Byte) : s.Leads sound commits { s with rpu := s.rpu.resendDue seq } :=
  s.reports_leads (Reports.restate_keeps _ _ _ nofun (fun x hx h => by simp [h] at hx))

/-- The transmitter changes what is sent on HTX and the report queue (R185). -/
theorem State.transmit_eq (s : State) : s.transmit = { s with hlk := s.transmit.hlk, rpu := s.transmit.rpu } := by
  unfold State.transmit
  split
  · rfl
  · split
    · split <;> rfl
    · split <;> rfl
    · split
      · rfl
      · split <;> rfl

theorem State.transmit_leads (s : State) : s.Leads sound commits s.transmit := by
  rw [s.transmit_eq]
  exact (State.link_leads s.transmit_keeps.1).trans (State.reports_leads _ s.transmit_keeps.2)

/-! ### Stations -/

theorem State.enterPortion_leads (s : State) : s.Leads sound commits s.enterPortion :=
  (s.csq_leads { s.csq with phase := if s.tpt.edge then s.csq.phase else .window } rfl id).trans
    (State.port_leads _ _ rfl rfl rfl)

theorem State.endShare_leads (s : State) : s.Leads sound commits s.endShare := s.port_leads _ rfl rfl rfl

theorem State.pushFrame_leads {s : State} (h : s.tpt.hasRoom = true) (f : OutFrame) :
    s.Leads sound commits (s.pushFrame f) := .act (.port s (fun hb => hb.push h f))

theorem takeWithdraw_tpt (t : Tag) (body : List Byte) (s : State) :
    (takeWithdraw (.station t) body s).1.tpt = s.tpt := by
  unfold takeWithdraw
  split
  · rfl
  · split_ifs
    · rfl
    · rfl
    · split
      · rfl
      · split_ifs
        · rfl
        · simp

theorem partyRequest_tpt {kind : Kind} {t : Tag} {body : List Byte} {s : State} {x : State × Reply}
    (h : partyRequest kind (.station t) body s = some x) : x.1.tpt = s.tpt := by
  have hedit (kind : Kind) (p : Party) (id units : Nat) : (s.submitEdit kind p id units).1.tpt = s.tpt := by
    unfold State.submitEdit
    split
    · rfl
    · rfl
    · simp only
      split <;> simp
  unfold partyRequest at h
  split at h
  case h_11 => exact absurd h nofun
  all_goals obtain rfl := Option.some.inj h
  · unfold takeExchangeUnits; split <;> rfl
  · unfold takeExchangeChannels; split <;> rfl
  · rfl
  · unfold takeAdmit
    split
    · rfl
    · split
      · rfl
      · simp only
        split <;> simp
  · unfold takeStreamEdit
    split
    · rfl
    · exact hedit _ _ _ _
  · unfold takeResize
    split
    · rfl
    · exact hedit _ _ _ _
  · unfold takeStreamEdit
    split
    · rfl
    · exact hedit _ _ _ _
  · unfold takeStreamEdit
    split
    · rfl
    · exact hedit _ _ _ _
  · exact takeWithdraw_tpt t body s
  · rfl

/-- The owners of a station's requests leave the Trunk Port alone (R169). -/
theorem stationOwner_tpt {kind : Kind} {e : Station} {body : List Byte} {s : State} {x : State × Reply}
    (h : stationOwner kind e body s = some x) : x.1.tpt = s.tpt := by
  unfold stationOwner at h
  split at h
  · obtain rfl := Option.some.inj h
    unfold takeLeave
    split
    · rfl
    · simp
  · obtain rfl := Option.some.inj h
    unfold takeReclaim
    split
    · rfl
    · split_ifs
      · rfl
      · split
        · rfl
        · simp
  · exact partyRequest_tpt h

theorem State.executeStation_leads {s : State} {e : Station} (kind : Byte) (body : List Byte)
    (he : e ∈ s.rst.stations) (hp : s.admitsParty (.station e.tag)) :
    s.Leads sound commits (s.executeStation e kind body).1 ∧ (s.executeStation e kind body).1.tpt = s.tpt := by
  unfold State.executeStation
  split
  · exact ⟨.rfl, rfl⟩
  · cases h : (Kind.ofCode kind).bind (fun k => stationOwner k e body s) with
    | none => exact ⟨.rfl, rfl⟩
    | some x =>
      obtain ⟨k, -, hk⟩ := Option.bind_eq_some_iff.1 h
      exact ⟨stationOwner_leads he hp hk, stationOwner_tpt hk⟩

theorem State.answerStation_leads {s : State} {e : Station} (seq : BitVec 4) (kind : Byte) (body : List Byte)
    (he : e ∈ s.rst.stations) (hp : s.admitsParty (.station e.tag)) (hroom : s.tpt.hasRoom = true) :
    s.Leads sound commits (s.answerStation e seq kind body) := by
  obtain ⟨hleads, htpt⟩ := State.executeStation_leads (sound := sound) (commits := commits) kind body he hp
  unfold State.answerStation
  simp only
  refine (hleads.trans (State.pushFrame_leads (by rw [htpt]; exact hroom) _)).trans (.act (.roster _ ?_))
  exact Roster.update_keeps _ _ _ (fun x => ⟨rfl, rfl, rfl⟩)

/-- The station portion is a part of RUNNING (R165). -/
theorem State.stationPortion_running {s : State} (h : s.stationPortion = true) : s.csq.partState = .running := by
  unfold State.stationPortion State.portionOpen at h
  simp only [Bool.or_eq_true, Bool.and_eq_true, beq_iff_eq] at h
  rcases h with ⟨⟨h, -⟩, -⟩ | ⟨h, -⟩ <;> exact h

theorem State.takeRequest_leads {s : State} (number epoch : Byte) (seq : BitVec 4) (kind : Byte) (body : List Byte)
    (hrun : s.csq.partState = .running) : s.Leads sound commits (s.takeRequest number epoch seq kind body) := by
  unfold State.takeRequest
  split
  · exact .rfl
  · next e he =>
    have hmem : e ∈ s.rst.stations := List.mem_of_find?_eq_some he
    split
    · exact .rfl
    · next hgo =>
      simp only [Bool.not_eq_true', Bool.not_eq_false, Bool.and_eq_true, beq_iff_eq] at hgo
      obtain ⟨⟨hpresent, -⟩, hroom⟩ := hgo
      have hstate : e.state = .present := by
        unfold Station.isPresent at hpresent
        simpa using hpresent
      split_ifs
      · unfold State.repeatReply
        split
        · exact State.pushFrame_leads hroom _
        · exact .rfl
      · exact .rfl
      · exact State.answerStation_leads seq kind body hmem
          (fun t ht => ⟨hrun, e, hmem, by simpa using ht, hstate⟩) hroom

theorem State.stationFrame_leads (s : State) (number epoch : Byte) (seq : BitVec 4) (kind : Byte) (body : List Byte) :
    s.Leads sound commits (s.stationFrame number epoch seq kind body) := by
  unfold State.stationFrame
  split
  · next h => exact s.enterPortion_leads.trans (State.takeRequest_leads (s := s.enterPortion) _ _ _ _ _
      (State.stationPortion_running (s := s) h))
  · exact .rfl

theorem State.request_leads (s : State) (sender : Sender) (kind : Kind) (body : List Byte) :
    s.Leads sound commits (s.request sender kind body) := by
  unfold State.request
  split
  · exact s.hostRequest_leads _ _ _
  · exact s.stationFrame_leads _ _ _ _ _

theorem State.renumber_leads {s : State} (hroom : s.tpt.hasRoom = true) (e : Station) : s.Leads sound commits (s.renumber e) :=
  (State.Leads.act (.roster s (s.rst.touch_keeps e.tag))).trans
    (State.pushFrame_leads (s := { s with rst := s.rst.touch e.tag }) hroom _)

/-- A tag that holds no number is numbered and told (R136). -/
theorem State.numberStation_leads {s : State} {t : Tag} (ht : s.rst.byTag t = none) :
    s.Leads sound commits (s.numberStation t).1 ∧ (s.numberStation t).1.tpt = s.tpt := by
  have heq : (s.numberStation t).1 = { s with rst := (s.numberStation t).1.rst } := by
    unfold State.numberStation
    simp only
    split <;> rfl
  refine ⟨?_, by rw [heq]⟩
  rw [heq]
  exact .act (.roster s (State.numberStation_keeps ht))

theorem State.answerRollCall_leads {s : State} (hroom : s.tpt.hasRoom = true) (t : Tag) :
    s.Leads sound commits (s.answerRollCall t) := by
  unfold State.answerRollCall
  split
  · exact State.renumber_leads hroom _
  · next ht =>
    obtain ⟨hleads, htpt⟩ := State.numberStation_leads (sound := sound) (commits := commits) ht
    exact hleads.trans (State.pushFrame_leads (by rw [htpt]; exact hroom) _)

theorem State.joinStation_leads {s : State} (hroom : s.tpt.hasRoom = true) (t : Tag) :
    s.Leads sound commits (s.joinStation t) := by
  unfold State.joinStation
  split
  · split
    · exact State.renumber_leads hroom _
    · exact State.pushFrame_leads hroom _
  · next ht =>
    obtain ⟨hleads, htpt⟩ := State.numberStation_leads (sound := sound) (commits := commits) ht
    have hassign (n : Nat) : s.Leads sound commits ((s.numberStation t).1.assign t n) :=
      hleads.trans (State.pushFrame_leads (by rw [htpt]; exact hroom) _)
    simp only
    split
    · exact hassign 0
    · exact (hassign _).trans (State.offer_leads _ _ _)

theorem State.takeJoin_leads (s : State) (t : Tag) (epoch : Byte) : s.Leads sound commits (s.takeJoin t epoch) := by
  unfold State.takeJoin
  split
  · split
    · next h => exact s.enterPortion_leads.trans (State.joinStation_leads (s := s.enterPortion) h.2 t)
    · exact s.enterPortion_leads
  · exact .rfl

theorem State.takeRollAnswer_leads (s : State) (t : Tag) (epoch : Byte) : s.Leads sound commits (s.takeRollAnswer t epoch) := by
  unfold State.takeRollAnswer
  split
  · simp only
    split
    · next h => exact s.endShare_leads.trans (State.answerRollCall_leads (s := s.endShare) h.2 t)
    · exact s.endShare_leads
  · exact .rfl

/-! ### The reset burst and transmissions -/

theorem State.burst_leads (s : State) {n : Nat} (hn : n ≤ Config.burstUnits) :
    s.Leads sound commits { s with tpt := { s.tpt with burst := n } } :=
  .act (.port s (fun h => ⟨h.1, hn, h.2.2⟩))

theorem State.burstQuiet_leads (s : State) : s.Leads sound commits s.burstQuiet := s.burst_leads (Nat.zero_le _)

theorem State.countBurst_leads (s : State) (units : Nat) : s.Leads sound commits (s.countBurst units) := by
  unfold State.countBurst
  simp only
  have hcount := s.burst_leads (sound := sound) (commits := commits) (Nat.min_le_left Config.burstUnits (s.tpt.burst + units))
  split
  · exact hcount.trans (State.takeCause_leads _ _)
  · exact hcount

theorem State.takeBurst_leads (s : State) (units : Nat) (quiet : Bool) : s.Leads sound commits (s.takeBurst units quiet) := by
  unfold State.takeBurst
  split_ifs
  · exact (s.countBurst_leads units).trans (State.burstQuiet_leads _)
  · exact s.countBurst_leads units
  · exact .rfl

theorem State.discardTransmission_leads (s : State) (why : DiscardCause) :
    s.Leads sound commits (s.discardTransmission why) := by
  cases why with
  | brokenBurst => exact s.burstQuiet_leads
  | tooLong => exact .rfl
  | checkFailed => exact .rfl
  | unreadable => exact .rfl
  | heldNominalInstant => exact .rfl

theorem State.takeFrame_leads (s : State) (x : Received) : s.Leads sound commits (s.takeFrame x) := by
  cases x with
  | request number epoch seq kind body => exact s.stationFrame_leads _ _ _ _ _
  | join t epoch => exact s.takeJoin_leads _ _
  | rollAnswer t epoch => exact s.takeRollAnswer_leads _ _
  | other => exact .rfl

theorem State.takeTransmission_leads (s : State) (bytes : List Byte) : s.Leads sound commits (s.takeTransmission bytes) := by
  unfold State.takeTransmission
  split_ifs
  · unfold State.takePattern
    split
    · exact s.burstQuiet_leads.trans (State.takeBurst_leads _ _ _)
    · exact .rfl
  · exact .rfl
  · cases receive bytes with
    | none => exact .rfl
    | some x => exact s.takeFrame_leads x

/-! ### The instants -/

/-- The late run takes a value below 8 (R28). -/
theorem State.setLateRun_leads (s : State) {n : Nat} (hn : n < Config.lateLimit) : s.Leads sound commits (s.setLateRun n) :=
  .act (.cycle s (v := s.svw) (fun _ => hn) id)

theorem State.setEdge_leads (s : State) (b : Bool) : s.Leads sound commits (s.setEdge b) := s.port_leads _ rfl rfl rfl

/-- A chain of elementary changes, with one boundary in it or none: the boundary alone commits edits (R24). -/
def State.LeadsOver (sound commits : Prop) (s t : State) : Prop :=
  s.Leads sound commits t ∨
    ∃ (a : State) (timing : Timing) (stretch : Nat),
      s.Leads sound commits a ∧ (a.boundary timing stretch).Leads sound commits t

theorem State.LeadsOver.trans {s t u : State} (h : s.LeadsOver sound commits t) (h' : t.Leads sound commits u) :
    s.LeadsOver sound commits u :=
  h.imp (fun h => h.trans h') (fun ⟨a, timing, stretch, ha, ht⟩ => ⟨a, timing, stretch, ha, ht.trans h'⟩)

/-- Where edits may be committed, a chain over a boundary is a chain. -/
theorem State.LeadsOver.leads (hc : commits) {s t : State} (h : s.LeadsOver sound commits t) : s.Leads sound commits t := by
  rcases h with h | ⟨a, timing, stretch, ha, ht⟩
  · exact h
  · exact (ha.trans (State.boundary_leads hc a timing stretch)).trans ht

theorem State.beginStretch_leads (s : State) : s.Leads sound commits s.beginStretch :=
  (s.csq_leads { s.csq with phase := .stretch } rfl id).trans
    (.trans (State.port_leads _ { s.tpt with edge := false } rfl rfl rfl) (State.endShare_leads _))

theorem State.nominalInstant_leadsOver (s : State) (busy : Bool) : s.LeadsOver sound commits (s.nominalInstant busy) := by
  unfold State.nominalInstant
  split_ifs
  · exact .inl (s.enterHalted_leads.trans (State.answerHalts_leads _))
  · exact .inl s.beginStretch_leads
  · exact .inr ⟨_, _, _, s.setLateRun_leads (by decide), State.setEdge_leads _ _⟩
  · exact .inl .rfl

theorem State.stretchEnd_leadsOver (s : State) (quietAt : Option Nat) : s.LeadsOver sound commits (s.stretchEnd quietAt) := by
  unfold State.stretchEnd
  split_ifs
  · exact .inl (s.takeCause_leads _)
  · next hlate =>
    have hlateRun := s.setLateRun_leads (sound := sound) (commits := commits) (Nat.not_le.1 hlate)
    refine .inr ⟨_, _, _, ?_, .rfl⟩
    split
    · exact hlateRun.trans (State.offer_leads _ _ _)
    · exact hlateRun
  · exact .inl .rfl

theorem State.trunkFault_leads (s : State) : s.Leads sound commits s.trunkFault := by
  unfold State.trunkFault
  split
  · exact s.takeCause_leads _
  · exact .rfl

/-- The slot observations change. -/
theorem State.svw_leads (s : State) (v : List ObsEntry) : s.Leads sound commits { s with svw := v } :=
  s.cycle_leads s.csq v rfl id

theorem takeSlotObservation_leads (seen : SlotSeen) (s : State) : s.Leads sound commits (takeSlotObservation seen s) := by
  unfold takeSlotObservation
  split
  · have hend (s : State) (o : Observation) : s.Leads sound commits
        { s with svw := completeNext o s.svw, tpt := { s.tpt with sending := none, edge := false } } :=
      (s.svw_leads (completeNext o s.svw)).trans
        (State.port_leads { s with svw := completeNext o s.svw } { s.tpt with sending := none, edge := false } rfl rfl rfl)
    unfold State.observeSlot
    split
    · exact .rfl
    · next x _ =>
      refine .trans ?_ (hend _ _)
      cases hlive : (s.stream? x.slot.stream).filter StreamRecord.isLive with
      | none => exact .rfl
      | some r =>
        obtain ⟨hr, hl⟩ := Option.filter_eq_some_iff.1 hlive
        exact .act (.put s (State.stream?_some hr).1 (StreamRecord.count_keeps hl _ _))
  · exact .rfl

theorem takeStopCount_leads (id : Nat) (s : State) : s.Leads sound commits (takeStopCount id s) := by
  unfold takeStopCount
  split
  · exact .rfl
  · next r hr =>
    split
    · next h =>
      exact .act (.put s (State.stream?_some hr).1 (StreamRecord.stopCount_keeps (Bool.and_eq_true_iff.1 h).1))
    · exact .rfl

theorem State.continueShare_leads (s : State) (left : Nat) : s.Leads sound commits (s.continueShare left) := by
  unfold State.continueShare
  split
  · exact s.endShare_leads
  · split
    · exact s.port_leads _ rfl rfl rfl
    · exact s.endShare_leads

theorem State.openShare_leads (s : State) (unitsLeft : Nat) : s.Leads sound commits (s.openShare unitsLeft) := by
  unfold State.openShare
  split
  · simp only
    have hopen := (s.csq_leads (sound := sound) (commits := commits) { s.csq with phase := .window } rfl id).trans
      (State.port_leads _ { s.tpt with edge := false } rfl rfl rfl)
    split
    · exact hopen.trans (State.endShare_leads _)
    · exact hopen.trans (State.continueShare_leads _ _)
  · exact .rfl

/-- A notice unparked changes the queue and the parked notices, and the sender's dropped flag (R176). -/
theorem State.unpark_eq (s : State) : s.unpark = { s with tpt := s.unpark.tpt, rst := s.unpark.rst } := by
  unfold State.unpark State.joinNotice
  split
  · rfl
  · split <;> rfl

theorem State.unpark_roster (s : State) : s.rst.Keeps s.unpark.rst := by
  unfold State.unpark
  split
  · exact .rfl
  · next p rest _ => exact State.joinNotice_roster { s with tpt := { s.tpt with parked := rest } } _ _

theorem State.frameSent_leads (s : State) : s.Leads sound commits s.frameSent := by
  unfold State.frameSent
  split
  · exact s.endShare_leads
  · exact s.continueShare_leads _
  · unfold State.queuedFrameSent
    split
    · next left f rest _ hout =>
      refine .trans ?_ (State.continueShare_leads _ _)
      rw [State.unpark_eq]
      exact (State.Leads.act (.port s (fun h => State.unpark_bounded (h.pop hout).1 (h.pop hout).2))).trans
        (.act (.roster _ (State.unpark_roster { s with tpt := { s.tpt with outbound := rest } })))
    · exact .rfl

theorem State.callPeriod_leads (s : State) : s.Leads sound commits s.callPeriod := by
  unfold State.callPeriod
  split
  · next h =>
    simp only
    refine (State.Leads.act (.roster s (r := { s.rst with rollPeriod := s.rst.rollPeriod + 1 }) ?_)).trans
      (State.port_leads _ _ rfl rfl rfl)
    exact ⟨fun hb => ⟨hb.1, hb.2.1, h.2⟩, fun h => ⟨h.tags, h.rising, h.known, h.numbers, h.recorded, h.lasts⟩,
      fun e he => ⟨e, he, rfl, rfl⟩, fun x hx hs => ⟨x, hx, rfl, hs⟩⟩
  · exact .rfl

theorem State.rollCallEnd_leadsOver (s : State) : s.LeadsOver sound commits s.rollCallEnd := by
  unfold State.rollCallEnd
  split
  · refine .inr ⟨_, _, _, ?_, State.answerStarts_leads _ _⟩
    refine ((s.offer_leads _ _).trans (State.csq_leads _ { s.csq with partState := .running } rfl nofun)).trans
      (.act (.roster _ ?_))
    exact ⟨fun hb => ⟨hb.1, hb.2.1, Nat.zero_le _⟩, fun h => ⟨h.tags, h.rising, h.known, h.numbers, h.recorded, h.lasts⟩,
      fun e he => ⟨e, he, rfl, rfl⟩, fun x hx hs => ⟨x, hx, rfl, hs⟩⟩
  · exact .inl .rfl

/-! ### A step -/

/-- What a command leaves, the transmitter's turn included. -/
theorem outcome_next {fits : Bool} {u t : State} (h : outcome fits u = .next t) : fits = true ∧ t = u.transmit := by
  unfold outcome at h
  split at h
  · next hfits => exact ⟨hfits, (Host.Outcome.next.inj h).symm⟩
  · exact absurd h nofun

theorem outcome_leads {fits : Bool} {s u t : State} (hu : s.Leads sound commits u) (h : outcome fits u = .next t) :
    s.Leads sound commits t := by
  obtain ⟨-, rfl⟩ := outcome_next h
  exact hu.trans u.transmit_leads

/-- A command that is always well-formed. -/
theorem sent_leads {s u t : State} (hu : s.Leads sound commits u) (h : outcome true u = .next t) : s.Leads sound commits t :=
  outcome_leads hu h

theorem State.receiveBytes_leads (bytes : List HostByte) (s : State) :
    s.Leads sound commits (bytes.foldl State.receiveByte s) :=
  .foldl _ _ _ (fun s b _ => s.receiveByte_leads b)

theorem sent_leadsOver {s u t : State} {fits : Bool} (hu : s.LeadsOver sound commits u) (h : outcome fits u = .next t) :
    s.LeadsOver sound commits t := by
  obtain ⟨-, rfl⟩ := outcome_next h
  exact hu.trans u.transmit_leads

/-- A command leads on, over a boundary or not. -/
theorem exec_leadsOver {c : Instr} {s t : State} (h : exec c s = .next t) : s.LeadsOver sound commits t := by
  cases c with
  | powerOnReset rateA rateB => exact .inl (sent_leads (.act (.reset s (cfg := .defaults) (fun _ => by decide))) h)
  | hostFrame bytes => exact .inl (sent_leads (State.receiveBytes_leads bytes s) h)
  | hostByteReceived byte => exact .inl (sent_leads (s.receiveByte_leads byte) h)
  | interByteTimeout => exact .inl (sent_leads s.byteTimeout_leads h)
  | replySent rateA rateB => exact .inl (sent_leads (s.replySent_leads rateA rateB) h)
  | answerSent => exact .inl (sent_leads s.answerSent_leads h)
  | reportFrameSent => exact .inl (sent_leads s.reportSent_leads h)
  | reportResendDue seq => exact .inl (sent_leads (s.resendDue_leads seq) h)
  | exchangeUnits sender body => exact .inl (outcome_leads (s.request_leads sender _ body) h)
  | exchangeChannels sender body => exact .inl (outcome_leads (s.request_leads sender _ body) h)
  | ledgerRead sender body => exact .inl (outcome_leads (s.request_leads sender _ body) h)
  | admitStream sender body => exact .inl (outcome_leads (s.request_leads sender _ body) h)
  | retire sender body => exact .inl (outcome_leads (s.request_leads sender _ body) h)
  | resize sender body => exact .inl (outcome_leads (s.request_leads sender _ body) h)
  | suspend sender body => exact .inl (outcome_leads (s.request_leads sender _ body) h)
  | resume sender body => exact .inl (outcome_leads (s.request_leads sender _ body) h)
  | withdraw sender body => exact .inl (outcome_leads (s.request_leads sender _ body) h)
  | streamRead sender body => exact .inl (outcome_leads (s.request_leads sender _ body) h)
  | requestFrame bytes => exact .inl (sent_leads (s.takeTransmission_leads bytes) h)
  | leave number epoch seq body => exact .inl (outcome_leads (s.stationFrame_leads _ _ _ _ _) h)
  | reclaim number epoch seq body => exact .inl (outcome_leads (s.stationFrame_leads _ _ _ _ _) h)
  | join tag epoch => exact .inl (sent_leads (s.takeJoin_leads tag epoch) h)
  | rollAnswer tag epoch => exact .inl (sent_leads (s.takeRollAnswer_leads tag epoch) h)
  | trunkTransmissionDiscarded why => exact .inl (sent_leads (s.discardTransmission_leads why) h)
  | resetBurst units quiet => exact .inl (sent_leads (s.takeBurst_leads units quiet) h)
  | nominalInstant busy => exact sent_leadsOver (fits := true) (s.nominalInstant_leadsOver busy) h
  | stretchEnd quietAt => exact sent_leadsOver (s.stretchEnd_leadsOver quietAt) h
  | trunkFault => exact .inl (sent_leads s.trunkFault_leads h)
  | reclaimWindowExpiry => exact .inl (sent_leads s.windowExpiry_leads h)
  | slotObservation seen => exact .inl (sent_leads (takeSlotObservation_leads seen s) h)
  | stopCountReached id => exact .inl (sent_leads (takeStopCount_leads id s) h)
  | openWindowShare unitsLeft => exact .inl (sent_leads (s.openShare_leads unitsLeft) h)
  | outboundFrameSent => exact .inl (sent_leads s.frameSent_leads h)
  | rollCallPeriod => exact .inl (sent_leads s.callPeriod_leads h)
  | rollCallEnd => exact sent_leadsOver (fits := true) s.rollCallEnd_leadsOver h
  | _ => exact .inl (outcome_leads (s.hostRequest_leads _ _ _) h)

/-- A command leads on from each state to what it makes of it. -/
theorem exec_leads (hc : commits) {c : Instr} {s t : State} (h : exec c s = .next t) : s.Leads sound commits t :=
  (exec_leadsOver h).leads hc

/-- A chain of elementary changes leads from each state to what a step makes of it, the waiting commands aside. -/
theorem step_leads (hc : commits) {s t : State} (h : step s = .next t) :
    t = s ∨ ∃ rest, State.Leads sound commits { s with pending := rest } t := by
  unfold step at h
  split at h
  · exact .inl (Host.Outcome.next.inj h).symm
  · next c rest _ => exact .inr ⟨rest, exec_leads hc h⟩

end Sys2Proof.Machine
end

section
/-! SUPPORT. What each elementary change keeps of the ledger, the bounds and the reports; the step invariants of those
(R34, R35, R8, R191). -/

namespace Sys2Proof.Machine

variable {sound commits : Prop}

/-- What every elementary change keeps, every chain of them keeps. -/
theorem State.Leads.keeps {P : State → Prop} (hact : ∀ s t : State, State.Act False True s t → P s → P t) {s t : State}
    (h : State.Leads False True s t) (hs : P s) : P t := by
  have hchain := h (fun _ _ _ _ hf => hf.elim) (fun hf => hf.elim)
  clear h
  induction hchain with
  | refl => exact hs
  | tail _ hone ih => exact hact _ _ hone ih

/-- What every elementary change keeps, and what does not look at the waiting commands, a step keeps. -/
theorem step_keeps {P : State → Prop} (hact : ∀ s t : State, State.Act False True s t → P s → P t)
    (hpending : ∀ (s : State) (rest : List Instr), P s → P { s with pending := rest }) {s t : State} (hs : P s)
    (h : step s = .next t) : P t := by
  rcases step_leads (sound := False) trivial h with rfl | ⟨rest, hleads⟩
  · exact hs
  · exact hleads.keeps hact (hpending s rest hs)

/-! ### The ledger in a trunk reset -/

/-- What a party has claimed: units and channels, whether committed and bound or not (R36). -/
def Ledger.share (l : Ledger) (p : Party) : Option (Nat × ChannelSet) :=
  (l.account? p).map (fun a => (a.claimed, a.held))

theorem Ledger.update_share (l : Ledger) (p q : Party) (f : Account → Account)
    (h : ∀ a, (f a).claimed = a.claimed ∧ (f a).held = a.held) : (l.update q f).share p = l.share p := by
  unfold Ledger.share
  by_cases hpq : p = q
  · subst hpq
    rw [Ledger.account?_update, Option.map_map]
    exact congrArg (fun g => (l.account? p).map g) (funext fun a => Prod.ext (h a).1 (h a).2)
  · rw [Ledger.account?_update_of_ne _ hpq]

theorem Ledger.freeStream_share (l : Ledger) (r : StreamRecord) (p : Party) : (l.freeStream r).share p = l.share p := by
  unfold Ledger.freeStream
  split
  · cases p <;> rfl
  · exact (Ledger.update_share _ _ _ _ (by intro; exact ⟨rfl, rfl⟩)).trans
      (Ledger.update_share _ _ _ _ (by intro; exact ⟨rfl, rfl⟩))

theorem State.removeRecord_share (s : State) (id : Nat) (p : Party) :
    (s.removeRecord id).lgr.share p = s.lgr.share p := by
  unfold State.removeRecord
  split
  · rfl
  · exact Ledger.freeStream_share _ _ _

theorem State.removeRecords_share (s : State) (ids : List Nat) (p : Party) :
    (s.removeRecords ids).lgr.share p = s.lgr.share p := by
  induction ids generalizing s with
  | nil => rfl
  | cons id ids ih => exact (ih (s.removeRecord id)).trans (s.removeRecord_share id p)

theorem State.makeRoom_share (s : State) (touched : List Tag) (p : Party) :
    (s.makeRoom touched).lgr.share p = s.lgr.share p := by
  unfold State.makeRoom
  split
  · rfl
  · split
    · rfl
    · next h _ =>
      refine Eq.trans ?_ (s.removeRecords_share (h.streams.map HeldStream.id) p)
      show Ledger.share (Ledger.releaseHolding _ _) p = _
      unfold Ledger.releaseHolding
      split
      · rfl
      · cases p <;> rfl

theorem State.removeRecord_ledger (s : State) (id : Nat) : s.lgr.Keeps (s.removeRecord id).lgr := by
  unfold State.removeRecord
  split
  · exact .rfl
  · exact s.lgr.freeStream_keeps _

theorem State.removeRecords_ledger (s : State) (ids : List Nat) : s.lgr.Keeps (s.removeRecords ids).lgr := by
  induction ids generalizing s with
  | nil => exact .rfl
  | cons id ids ih => exact (s.removeRecord_ledger id).trans (ih (s.removeRecord id))

theorem State.endHolding_ledger (s : State) (h : Holding) : s.lgr.Keeps (s.endHolding h).lgr :=
  (s.removeRecords_ledger _).trans (Ledger.releaseHolding_keeps _ _)

theorem State.makeRoom_ledger (s : State) (touched : List Tag) : s.lgr.Keeps (s.makeRoom touched).lgr := by
  unfold State.makeRoom
  split
  · exact .rfl
  · split
    · exact .rfl
    · exact s.endHolding_ledger _

theorem State.convertClaim_ledger (s : State) (touched : List Tag) (t : Tag) :
    s.lgr.Keeps (State.convertClaim (s, touched) t).1.lgr := by
  unfold State.convertClaim
  simp only
  split
  · exact .rfl
  · next ha hh => exact State.mergeHolding_keeps ha hh
  · next a ha _ =>
    refine (s.makeRoom_ledger touched).trans ?_
    have hshare := s.makeRoom_share touched (.station t)
    simp only [Ledger.share, ha, Option.map_some] at hshare
    obtain ⟨b, hb, hba⟩ := Option.map_eq_some_iff.1 hshare
    obtain ⟨hclaimed, hheld⟩ := Prod.mk.inj hba
    have hsame : ((s.makeRoom touched).newHolding t a).lgr = ((s.makeRoom touched).newHolding t b).lgr := by
      simp only [State.newHolding, hclaimed, hheld]
    rw [hsame]
    exact State.newHolding_keeps hb

theorem State.convertFold_ledger (tags : List Tag) (x : State × List Tag) :
    x.1.lgr.Keeps (tags.foldl State.convertClaim x).1.lgr := by
  induction tags generalizing x with
  | nil => exact .rfl
  | cons t tags ih => exact (State.convertClaim_ledger x.1 x.2 t).trans (ih _)

theorem State.restart_ledger (s : State) : s.lgr.Keeps s.restart.lgr := by
  unfold State.restart
  simp only [State.clearRoster_lgr, State.openWindow_frame]
  exact State.convertFold_ledger _ ({ s with streams := s.streams.map StreamRecord.atTrunkReset }, [])

/-! ### The ledger in each elementary change -/

theorem Ledger.uncharge_keeps (l : Ledger) (p : Party) (u : Nat) : l.Keeps (l.uncharge p u) :=
  l.update_keeps p _ (by intro; exact ⟨rfl, rfl⟩)

theorem State.undoEdit_ledger (s : State) (e : Edit) : s.lgr.Keeps (s.undoEdit e).lgr := by
  unfold State.undoEdit
  split
  · exact s.removeRecord_ledger _
  · simp only
    split
    · exact s.lgr.uncharge_keeps _ _
    · exact .rfl
  · exact .rfl

theorem State.commitEdit_ledger (s : State) (n : Cycle) (e : Edit) : s.lgr.Keeps (s.commitEdit n e).1.lgr := by
  unfold State.commitEdit
  split
  · exact .rfl
  · split
    · split <;> exact .rfl
    · split
      · exact s.removeRecord_ledger _
      · exact .rfl
    · split
      · simp only
        split
        · exact s.lgr.uncharge_keeps _ _
        · exact .rfl
      · exact .rfl
    · split <;> exact .rfl
    · split
      · split <;> exact .rfl
      · exact .rfl

theorem State.completeDeparture_ledger (s : State) (e : Station) : s.lgr.Keeps (s.completeDeparture e).lgr := by
  unfold State.completeDeparture
  split
  · exact .rfl
  · exact s.lgr.releaseClaim_keeps _

/-- The elementary changes but CONFIGURE and the resets leave the configuration, and keep the units in all and each
channel in one place. -/
theorem State.Act.ledger {s t : State} (h : State.Act sound commits s t) :
    (t.cfg = s.cfg ∧ s.lgr.Keeps t.lgr) ∨
    (∃ fields how, s.configureFailure fields how = none ∧ (∀ f ∈ fields, f.carried) ∧ t = s.configure fields) ∨
    ∃ cfg rate pending, (s.cfg.valid → cfg.valid) ∧ t = .atReset cfg rate pending := by
  cases h with
  | configure hf hcarried => exact .inr (.inl ⟨_, _, hf, hcarried, rfl⟩)
  | reset hcfg => exact .inr (.inr ⟨_, _, _, hcfg, rfl⟩)
  | remove id => exact .inl ⟨by simp, s.removeRecord_ledger id⟩
  | @commit n e rest _ hedits =>
    exact .inl ⟨by simp, State.commitEdit_ledger { s with stg := { s.stg with edits := rest } } n e⟩
  | @drop e he => exact .inl ⟨by simp, State.undoEdit_ledger
      { s with stg := { s.stg with edits := s.stg.edits.filter (fun x => x.number != e.number) } } e⟩
  | stage _ _ hl => exact .inl ⟨rfl, Ledger.chargeEdit_keeps hl⟩
  | admitStream _ _ hl => exact .inl ⟨rfl, Ledger.chargeAndBind_keeps hl⟩
  | units rights e n _ => exact .inl ⟨rfl, Ledger.exchangeUnits_keeps _ _ _ _ _ _⟩
  | channels rights e n _ => exact .inl ⟨rfl, Ledger.exchangeChannels_keeps _ _ _ _ _⟩
  | endHolding hh => exact .inl ⟨by simp, s.endHolding_ledger _⟩
  | reclaim _ hh => exact .inl ⟨rfl, Ledger.convertHolding_keeps hh _⟩
  | complete _ _ => exact .inl ⟨by simp, s.completeDeparture_ledger _⟩
  | restart _ =>
    refine .inl ⟨?_, s.restart_ledger⟩
    simp [State.restart]
  | _ => exact .inl ⟨rfl, .rfl⟩

/-- A reset leaves every unit of the budget and every channel free (R60). -/
theorem Ledger.atReset_balanced (budget : Nat) : (Ledger.atReset budget).balanced budget := by
  simp [Ledger.balanced, Ledger.atReset, Ledger.claimedTotal, Ledger.holdingTotal]

theorem Ledger.atReset_partitioned (budget : Nat) : (Ledger.atReset budget).partitioned := by
  intro c hc
  have hall : hasChannel (BitVec.allOnes 40) c = true := by
    rw [hasChannel, BitVec.getLsbD_allOnes]
    exact decide_eq_true hc
  have hnone : hasChannel 0 c = false := by simp [hasChannel]
  show (hasChannel (BitVec.allOnes 40) c).toNat + (hasChannel 0 c).toNat + 0 + 0 = 1
  rw [hall, hnone]
  rfl

/-! ### The units and the channels -/

/-- Settles O54: each elementary change keeps the units in all, and CONFIGURE moves FREE_UNITS with the budget. -/
theorem unitBalanceKept : Obligations.UnitBalanceKept := by
  unfold Obligations.UnitBalanceKept
  refine fun s t hs h => step_keeps (P := fun s => s.lgr.balanced s.cfg.budget) (fun s t hact hb => ?_) (fun _ _ hb => hb) hs h
  rcases hact.ledger with ⟨hcfg, hkeeps⟩ | ⟨fields, how, hf, -, rfl⟩ | ⟨cfg, rate, pending, -, rfl⟩
  · rw [hcfg]
    exact hkeeps.units.trans hb
  · exact State.configure_balanced hf hb
  · exact Ledger.atReset_balanced cfg.budget

/-- Settles O55: each elementary change keeps each channel in its one place. -/
theorem channelPartitionKept : Obligations.ChannelPartitionKept := by
  unfold Obligations.ChannelPartitionKept
  refine fun s t hs h => step_keeps (P := fun s => s.lgr.partitioned) (fun s t hact hb => ?_) (fun _ _ hb => hb) hs h
  rcases hact.ledger with ⟨-, hkeeps⟩ | ⟨fields, how, -, -, rfl⟩ | ⟨cfg, rate, pending, -, rfl⟩
  · exact hkeeps.partitioned hb
  · exact hb
  · exact Ledger.atReset_partitioned cfg.budget

end Sys2Proof.Machine
end

section
/-! SUPPORT. The bounds and the order of the reports through each elementary change, and the step invariants of those
(R8, R28, R64, R131, R191). -/

namespace Sys2Proof.Machine

variable {sound commits : Prop}

/-! ### Reports -/

theorem State.offer_reports (s : State) (k : ReportKind) (body : List Byte) : s.rpu.Keeps (s.offer k body).rpu :=
  s.rpu.offer_keeps _ _ _ _

theorem State.makeRoom_reports (s : State) (touched : List Tag) : s.rpu.Keeps (s.makeRoom touched).rpu := by
  unfold State.makeRoom
  split
  · exact .rfl
  · split
    · exact .rfl
    · next h _ => simpa using (s.endHolding h).offer_reports .holdingReleased (holdingReleasedBody .overflow h)

theorem State.convertClaim_reports (x : State × List Tag) (t : Tag) : x.1.rpu.Keeps (State.convertClaim x t).1.rpu := by
  unfold State.convertClaim
  simp only
  split
  · exact .rfl
  · exact .rfl
  · exact x.1.makeRoom_reports _

theorem State.restart_reports (s : State) : s.rpu.Keeps s.restart.rpu := by
  have hfold (tags : List Tag) (x : State × List Tag) : x.1.rpu.Keeps (tags.foldl State.convertClaim x).1.rpu := by
    induction tags generalizing x with
    | nil => exact .rfl
    | cons t tags ih => exact (State.convertClaim_reports x t).trans (ih _)
  unfold State.restart
  simp only [State.clearRoster_rpu, State.openWindow_frame]
  exact hfold _ ({ s with streams := s.streams.map StreamRecord.atTrunkReset }, [])

theorem State.completeDeparture_reports (s : State) (e : Station) : s.rpu.Keeps (s.completeDeparture e).rpu := by
  unfold State.completeDeparture
  split
  · exact .rfl
  · exact s.rpu.offer_keeps _ _ _ _

/-- Every elementary change but a reset keeps the reports in order and within their bounds. -/
theorem State.Act.reports_keeps {s t : State} (h : State.Act sound commits s t) :
    s.rpu.Keeps t.rpu ∨ ∃ cfg rate pending, t = .atReset cfg rate pending := by
  cases h with
  | reports hr => exact .inl hr
  | remove id => exact .inl (by simpa using Reports.Keeps.rfl)
  | commit _ _ => exact .inl (by simpa using Reports.Keeps.rfl)
  | drop _ => exact .inl (by simpa using Reports.Keeps.rfl)
  | endHolding _ => exact .inl (by simpa using Reports.Keeps.rfl)
  | complete _ _ => exact .inl (s.completeDeparture_reports _)
  | restart _ => exact .inl s.restart_reports
  | configure _ _ => exact .inl ⟨fun h => h, fun h => h⟩
  | reset _ => exact .inr ⟨_, _, _, rfl⟩
  | _ => exact .inl .rfl

theorem Reports.atReset_inOrder (mask : BitVec 12) : (Reports.atReset mask).inOrder := by
  simp [Reports.inOrder, Reports.atReset]

/-- Settles O59: offers, acknowledgements and the transmitter keep the queue in order, and so each elementary change. -/
theorem reportOrderKept : Obligations.ReportOrderKept := by
  unfold Obligations.ReportOrderKept
  refine fun s t hs h => step_keeps (P := fun s => s.rpu.inOrder) (fun s t hact hb => ?_) (fun _ _ hb => hb) hs h
  rcases hact.reports_keeps with hkeeps | ⟨cfg, rate, pending, rfl⟩
  · exact hkeeps.inOrder hb
  · exact Reports.atReset_inOrder cfg.reportMask

/-! ### The bounds -/

/-- A removal leaves the counters of the records that stay. -/
theorem State.removeRecord_counted {s : State} (h : ∀ r ∈ s.streams, r.counted) (id : Nat) :
    ∀ r ∈ (s.removeRecord id).streams, r.counted := fun r hr => h r (s.removeRecord_subset id hr)

theorem State.removeRecords_counted {s : State} (h : ∀ r ∈ s.streams, r.counted) (ids : List Nat) :
    ∀ r ∈ (s.removeRecords ids).streams, r.counted := fun r hr => h r (s.removeRecords_subset ids hr)

/-- A record put in another's place leaves the table's other records. -/
theorem State.putStream_counted {s : State} (h : ∀ r ∈ s.streams, r.counted) {q : StreamRecord} (hq : q.counted) :
    ∀ r ∈ (s.putStream q).streams, r.counted := by
  intro r hr
  rcases mem_updateFirst _ _ _ hr with hr | ⟨_, _, _, rfl⟩
  · exact h r hr
  · exact hq

theorem State.undoEdit_counted {s : State} (h : ∀ r ∈ s.streams, r.counted) (e : Edit) :
    ∀ r ∈ (s.undoEdit e).streams, r.counted := by
  unfold State.undoEdit
  split
  · exact State.removeRecord_counted h _
  · next r _ hr =>
    have hput := State.putStream_counted (q := { r with pendingResize := none }) h (h r (State.stream?_some hr).1)
    simp only
    split <;> exact hput
  · exact h

theorem State.commitEdit_counted {s : State} (h : ∀ r ∈ s.streams, r.counted) (n : Cycle) (e : Edit) :
    ∀ r ∈ (s.commitEdit n e).1.streams, r.counted := by
  unfold State.commitEdit
  split
  · exact h
  · next r hr =>
    have hr : r.counted := h r (State.stream?_some hr).1
    have hresumed (st : StreamState) : StreamRecord.counted { r with state := st, vacantRun := 0, overlongRun := 0 } :=
      ⟨hr.1, Nat.zero_le _, hr.2.2.1, Nat.zero_le _⟩
    split
    · split
      · exact State.putStream_counted (q := { r with state := _ }) h hr
      · exact h
    · split
      · exact State.removeRecord_counted h _
      · exact h
    · next units direction _ =>
      split
      · have hput := State.putStream_counted (q := { r with units := units, pendingResize := none }) h hr
        simp only
        split <;> exact hput
      · exact h
    · split
      · exact State.putStream_counted (q := { r with state := _, restoreMark := _ }) h hr
      · exact h
    · split
      · split
        · exact State.putStream_counted h (hresumed _)
        · exact State.putStream_counted (q := { r with state := _ }) h hr
      · exact h

/-- The edits that an elementary change leaves: no more than before, or one more while there is room (R88). -/
theorem State.undoEdit_length (s : State) (e : Edit) : (s.undoEdit e).stg.edits.length ≤ s.stg.edits.length := by
  have hremove (id : Nat) : (s.removeRecord id).stg.edits.length ≤ s.stg.edits.length := by
    rw [s.removeRecord_edits]; exact List.length_filter_le _ _
  unfold State.undoEdit
  split
  · exact hremove _
  · simp only
    split <;> exact le_rfl
  · exact le_rfl

theorem State.commitEdit_length (s : State) (n : Cycle) (e : Edit) :
    (s.commitEdit n e).1.stg.edits.length ≤ s.stg.edits.length := by
  have hremove (id : Nat) : (s.removeRecord id).stg.edits.length ≤ s.stg.edits.length := by
    rw [s.removeRecord_edits]; exact List.length_filter_le _ _
  unfold State.commitEdit
  split
  · exact le_rfl
  · split
    · split <;> exact le_rfl
    · split
      · exact hremove _
      · exact le_rfl
    · split
      · simp only
        split <;> exact le_rfl
      · exact le_rfl
    · split <;> exact le_rfl
    · split
      · split <;> exact le_rfl
      · exact le_rfl

theorem State.removeRecords_length (s : State) (ids : List Nat) :
    (s.removeRecords ids).stg.edits.length ≤ s.stg.edits.length := by
  induction ids generalizing s with
  | nil => exact le_rfl
  | cons id ids ih =>
    refine (ih (s.removeRecord id)).trans ?_
    rw [s.removeRecord_edits]
    exact List.length_filter_le _ _

/-- The checks that an edit's acceptance has passed: there was room in the list (R95). -/
theorem firstFailure_none {checks : List (Option Reply)} (h : firstFailure checks = none) : ∀ c ∈ checks, c = none := by
  unfold firstFailure at h
  simpa [List.findSome?_eq_none_iff] using h

theorem require_none {holds : Bool} {reply : Reply} : require holds reply = none ↔ holds = true := by
  unfold require
  split <;> simp_all

theorem State.editFailure_room {s : State} {kind : Kind} {p : Party} {id units : Nat}
    (h : s.editFailure kind p id units = none) : s.stg.edits.length < Config.editRoom := by
  have := firstFailure_none h (require (s.stg.edits.length < Config.editRoom) ⟨.listFull, [flag s.stg.frozen]⟩) (by simp)
  simpa using require_none.1 this

theorem State.admitFailure_room {s : State} {p : Party} {a : AdmitRequest} (h : s.admitFailure p a = none) :
    s.stg.edits.length < Config.editRoom := by
  have := firstFailure_none h (require (s.stg.edits.length < Config.editRoom) ⟨.listFull, [flag s.stg.frozen]⟩) (by simp)
  simpa using require_none.1 this

/-- The counters, and the edits of the list, are within their bounds (R64, R88). -/
def State.counted (s : State) : Prop := (∀ r ∈ s.streams, r.counted) ∧ s.stg.edits.length ≤ Config.editRoom

/-- The blocks' bounds but those of records and edits, and the configuration's ranges. -/
def State.blocksBounded (s : State) : Prop :=
  s.rst.bounded ∧ s.tpt.bounded ∧ s.hlk.bounded ∧ s.rpu.bounded ∧ s.csq.lateRun < Config.lateLimit ∧ s.rcu.bounded ∧
  s.cfg.valid

theorem State.bounded_valid_iff (s : State) : s.bounded ∧ s.cfg.valid ↔ s.counted ∧ s.blocksBounded := by
  rw [State.bounded_iff]
  simp only [State.counted, State.blocksBounded]
  tauto

/-- A trunk reset changes the kept records' states and runs (R79). -/
theorem StreamRecord.atTrunkReset_counted {r : StreamRecord} (h : r.counted) : r.atTrunkReset.counted := by
  unfold StreamRecord.atTrunkReset
  split
  · split
    · exact ⟨h.1, Nat.zero_le _, h.2.2.1, Nat.zero_le _⟩
    · exact h
  · split <;> exact h

theorem State.endHolding_counted {s : State} (hs : s.counted) (h : Holding) : (s.endHolding h).counted :=
  ⟨State.removeRecords_counted hs.1 _, (s.removeRecords_length _).trans hs.2⟩

theorem State.makeRoom_counted {s : State} (hs : s.counted) (touched : List Tag) : (s.makeRoom touched).counted := by
  unfold State.makeRoom
  split
  · exact hs
  · split
    · exact hs
    · exact State.endHolding_counted hs _

theorem State.convertClaim_counted {x : State × List Tag} (hs : x.1.counted) (t : Tag) :
    (State.convertClaim x t).1.counted := by
  unfold State.convertClaim
  simp only
  split
  · exact hs
  · exact hs
  · exact State.makeRoom_counted hs _

theorem State.convertClaims_counted {s : State} (hs : s.counted) (tags : List Tag) : (s.convertClaims tags).counted := by
  have hfold (tags : List Tag) (x : State × List Tag) (hx : x.1.counted) :
      (tags.foldl State.convertClaim x).1.counted := by
    induction tags generalizing x with
    | nil => exact hx
    | cons t tags ih => exact ih _ (State.convertClaim_counted hx t)
  exact hfold tags (s, []) hs

/-- A record whose saved state returns keeps its counters (R80). -/
theorem StreamRecord.leaveHeld_counted {r : StreamRecord} (h : r.counted) : r.leaveHeld.counted := by
  unfold StreamRecord.leaveHeld
  split <;> exact h

theorem StreamRecord.depart_counted {r : StreamRecord} (h : r.counted) (t : Tag) : (r.depart t).counted := by
  unfold StreamRecord.depart
  split <;> exact h

theorem StreamRecord.staged_counted {r : StreamRecord} (h : r.counted) (op : EditOp) : (r.staged op).counted := by
  unfold StreamRecord.staged
  split <;> exact h

/-- The counters and the edits stay within their bounds through every elementary change. -/
theorem State.Act.counted {s t : State} (h : State.Act sound commits s t) (hs : s.counted) : t.counted := by
  obtain ⟨hcounted, hlen⟩ := hs
  cases h with
  | put hr hk => exact ⟨State.putStream_counted hcounted (hk.counted (hcounted _ hr)), hlen⟩
  | remove id => exact ⟨State.removeRecord_counted hcounted id, (s.removeRecords_length [id]).trans hlen⟩
  | @commit n e rest _ hedits =>
    refine ⟨State.commitEdit_counted (s := { s with stg := { s.stg with edits := rest } }) hcounted n e,
      (State.commitEdit_length { s with stg := { s.stg with edits := rest } } n e).trans ?_⟩
    rw [hedits] at hlen
    exact (Nat.le_succ _).trans hlen
  | @drop e _ =>
    refine ⟨State.undoEdit_counted (s := { s with stg := { s.stg with
      edits := s.stg.edits.filter (fun x => x.number != e.number) } }) hcounted e, (State.undoEdit_length _ e).trans ?_⟩
    exact (List.length_filter_le _ _).trans hlen
  | stage hf hr hl =>
    refine ⟨State.putStream_counted hcounted (StreamRecord.staged_counted (hcounted _ (State.stream?_some hr).1) _), ?_⟩
    simpa [State.acceptEdit] using State.editFailure_room hf
  | admitStream hp hf hl =>
    refine ⟨fun r hr => ?_, by simpa [State.acceptEdit] using State.admitFailure_room hf⟩
    simp only [State.acceptEdit_streams, State.addRecord_streams, mem_insertBy] at hr
    rcases hr with rfl | hr
    · exact ⟨Nat.zero_le _, Nat.zero_le _, Nat.zero_le _, Nat.zero_le _⟩
    · exact hcounted r hr
  | endHolding _ => exact State.endHolding_counted ⟨hcounted, hlen⟩ _
  | reclaim _ _ =>
    refine ⟨?_, hlen⟩
    simp only [List.forall_mem_map]
    intro r hr
    split
    · exact StreamRecord.leaveHeld_counted (hcounted r hr)
    · exact hcounted r hr
  | depart _ =>
    refine ⟨?_, hlen⟩
    simp only [List.forall_mem_map]
    exact fun r hr => StreamRecord.depart_counted (hcounted r hr) _
  | complete _ _ => exact ⟨by simpa using hcounted, by simpa using hlen⟩
  | restart _ =>
    have hkept : State.counted { s with streams := s.streams.map StreamRecord.atTrunkReset } := by
      refine ⟨?_, hlen⟩
      simp only [List.forall_mem_map]
      exact fun r hr => StreamRecord.atTrunkReset_counted (hcounted r hr)
    have hdone := State.convertClaims_counted hkept s.rst.presentTags
    unfold State.restart State.counted
    simp only [State.clearRoster_streams, State.clearRoster_stg, State.openWindow_frame]
    exact hdone
  | reset _ => exact ⟨by simp [State.atReset], by simp [State.atReset, Staging.atReset]⟩
  | _ => exact ⟨hcounted, hlen⟩

/-- The Roster's entries go, and its lists are as long as before (R132). -/
theorem State.clearRoster_bounded {s : State} (h : s.rst.bounded) : s.clearRoster.rst.bounded := by
  have hfold (l : List Station) (r : Roster) : (l.foldl (fun r e => r.touch e.tag) r).known.length = r.known.length := by
    refine foldl_keeps (fun (r : Roster) => r.known.length) _ (fun r e => ?_) l r
    unfold Roster.touch
    split
    · rfl
    · next k hk => exact (eraseP_append_perm hk).length_eq
  exact ⟨Nat.zero_le _, (hfold _ _).trans_le h.2.1, Nat.zero_le _⟩

theorem State.completeDeparture_blocks {s : State} (h : s.blocksBounded) (e : Station) :
    (s.completeDeparture e).blocksBounded := by
  obtain ⟨hrst, htpt, hhlk, hrpu, hlate, hrcu, hcfg⟩ := h
  refine ⟨?_, ?_, by simpa using hhlk, (s.completeDeparture_reports e).bounded hrpu, by simpa using hlate,
    by simpa using hrcu, by simpa using hcfg⟩
  · unfold State.completeDeparture
    split
    · exact hrst
    · refine (Roster.touch_keeps _ _).bounded ⟨?_, hrst.2⟩
      exact (List.eraseP_sublist.length_le).trans hrst.1
  · unfold State.completeDeparture
    split
    · exact htpt
    · exact htpt.sublist List.filter_sublist

/-- A trunk reset empties the Trunk Port and the roster, and the window takes its length from the configuration (R132,
R133, R154). -/
theorem State.restart_blocks {s : State} (h : s.blocksBounded) : s.restart.blocksBounded := by
  have hrpu' := s.restart_reports.bounded h.2.2.2.1
  obtain ⟨hrst, htpt, hhlk, -, -, hrcu, hcfg⟩ := h
  unfold State.restart at hrpu' ⊢
  set u := State.convertClaims { s with streams := s.streams.map StreamRecord.atTrunkReset }
    (State.rst { s with streams := s.streams.map StreamRecord.atTrunkReset }).presentTags with hu
  have hrstu : u.rst = s.rst := by simp [hu]
  have htptu : u.tpt = s.tpt := by simp [hu]
  have hhlku : u.hlk = s.hlk := by simp [hu]
  have hrcuu : u.rcu = s.rcu := by simp [hu]
  have hcfgu : u.cfg = s.cfg := by simp [hu]
  refine ⟨State.clearRoster_bounded (by simpa [hrstu] using hrst), ?_, by simpa [hhlku] using hhlk, hrpu', ?_, ?_,
    by simpa [hcfgu] using hcfg⟩
  · refine ⟨Nat.zero_le _, ?_, by simp [TrunkPort.atTrunkReset]⟩
    simp only [TrunkPort.atTrunkReset]
    split <;> simp
  · simp [Sequencer.enterStarting, Config.lateLimit]
  · simp only [State.clearRoster_rcu]
    unfold State.openWindow
    split
    · rw [hrcuu]; exact hrcu
    · rw [hcfgu]; exact ⟨⟨hcfg.2.1, hcfg.2.2.1⟩, hcfg.2.2.1⟩

/-- The blocks stay within their bounds, and the configuration in its ranges, through every elementary change. -/
theorem State.Act.blocks {s t : State} (h : State.Act sound commits s t) (hs : s.blocksBounded) : t.blocksBounded := by
  obtain ⟨hrst, htpt, hhlk, hrpu, hlate, hrcu, hcfg⟩ := hs
  cases h with
  | reports hk => exact ⟨hrst, htpt, hhlk, hk.bounded hrpu, hlate, hrcu, hcfg⟩
  | link hk => exact ⟨hrst, htpt, hk.bounded hhlk, hrpu, hlate, hrcu, hcfg⟩
  | port hk => exact ⟨hrst, hk htpt, hhlk, hrpu, hlate, hrcu, hcfg⟩
  | roster hk => exact ⟨hk.bounded hrst, htpt, hhlk, hrpu, hlate, hrcu, hcfg⟩
  | window hk => exact ⟨hrst, htpt, hhlk, hrpu, hlate, hk hrcu, hcfg⟩
  | cycle hk _ => exact ⟨hrst, htpt, hhlk, hrpu, hk hlate, hrcu, hcfg⟩
  | remove id => simpa [State.blocksBounded] using ⟨hrst, htpt, hhlk, hrpu, hlate, hrcu, hcfg⟩
  | commit _ _ => simpa [State.blocksBounded] using ⟨hrst, htpt, hhlk, hrpu, hlate, hrcu, hcfg⟩
  | drop _ => simpa [State.blocksBounded] using ⟨hrst, htpt, hhlk, hrpu, hlate, hrcu, hcfg⟩
  | endHolding _ => simpa [State.blocksBounded] using ⟨hrst, htpt, hhlk, hrpu, hlate, hrcu, hcfg⟩
  | depart _ =>
    refine ⟨⟨?_, hrst.2⟩, htpt, hhlk, hrpu, hlate, hrcu, hcfg⟩
    simpa [Roster.update] using hrst.1
  | complete _ _ => exact State.completeDeparture_blocks ⟨hrst, htpt, hhlk, hrpu, hlate, hrcu, hcfg⟩ _
  | clear _ =>
    exact ⟨State.clearRoster_bounded hrst, ⟨htpt.1, htpt.2.1, nofun⟩, hhlk, hrpu, hlate, hrcu, hcfg⟩
  | restart _ => exact State.restart_blocks ⟨hrst, htpt, hhlk, hrpu, hlate, hrcu, hcfg⟩
  | configure hf hcarried =>
    exact ⟨hrst, htpt, hhlk, hrpu, hlate, hrcu,
      ConfigRecord.setAll_valid hcfg (State.configureFailure_none hf).2.1 hcarried⟩
  | @reset cfg rate hk =>
    have hcfg' := hk hcfg
    refine ⟨by simp [Roster.bounded, State.atReset, Roster.atReset],
      by simp [TrunkPort.bounded, State.atReset, TrunkPort.atReset],
      by simp [HostLink.bounded, State.atReset, HostLink.atReset],
      by simp [Reports.bounded, State.atReset, Reports.atReset],
      by simp [State.atReset, Sequencer.atReset, Config.lateLimit], ?_, hcfg'⟩
    exact ⟨⟨hcfg'.2.1, hcfg'.2.2.1⟩, Nat.zero_le _⟩
  | _ => exact ⟨hrst, htpt, hhlk, hrpu, hlate, hrcu, hcfg⟩

/-- Settles O56: the counters and the edits, and each block, through each elementary change. -/
theorem boundsKept : Obligations.BoundsKept := by
  unfold Obligations.BoundsKept
  intro s t hb hv h
  refine (State.bounded_valid_iff t).2 (step_keeps (P := fun s => s.counted ∧ s.blocksBounded)
    (fun s t hact hb => ⟨hact.counted hb.1, hact.blocks hb.2⟩) (fun _ _ hb => hb) ?_ h)
  exact (State.bounded_valid_iff s).1 ⟨hb, hv⟩

end Sys2Proof.Machine
end

section
/-! SUPPORT. The numbers that edits take (R90). -/

namespace Sys2Proof.Machine

/-- Numbers at different short distances are different. -/
theorem add_ofNat_inj {n : BitVec 16} {i j : Nat} (hi : i < 65536) (hj : j < 65536)
    (h : n + BitVec.ofNat 16 i = n + BitVec.ofNat 16 j) : i = j := by
  have := congrArg BitVec.toNat (BitVec.add_right_inj n |>.1 h)
  simpa [BitVec.toNat_ofNat, Nat.mod_eq_of_lt hi, Nat.mod_eq_of_lt hj] using this

/-- The search goes on past the numbers that cannot be taken, and ends at the first that can, if its bound reaches it. -/
theorem nextNumber_eq (held : List (BitVec 16)) (n : BitVec 16) (fuel k : Nat) (hk : k ≤ fuel)
    (hbefore : ∀ j < k, n + BitVec.ofNat 16 j = 0 ∨ n + BitVec.ofNat 16 j ∈ held)
    (hfree : n + BitVec.ofNat 16 k ≠ 0 ∧ n + BitVec.ofNat 16 k ∉ held) :
    nextNumber held fuel n = n + BitVec.ofNat 16 k := by
  induction fuel generalizing n k with
  | zero =>
    obtain rfl := Nat.le_zero.1 hk
    simp [nextNumber]
  | succ fuel ih =>
    unfold nextNumber
    cases k with
    | zero =>
      simp only [BitVec.ofNat_eq_ofNat, BitVec.add_zero] at hfree ⊢
      simp [hfree]
    | succ k =>
      have hshift (j : Nat) : n + 1 + BitVec.ofNat 16 j = n + BitVec.ofNat 16 (j + 1) := by
        rw [BitVec.ofNat_add, BitVec.add_comm (BitVec.ofNat 16 j), BitVec.add_assoc]
        rfl
      have hfirst := hbefore 0 (Nat.succ_pos k)
      simp only [BitVec.ofNat_eq_ofNat, BitVec.add_zero] at hfirst
      rw [if_pos (by simpa using hfirst), ih (n + 1) k (Nat.le_of_succ_le_succ hk)
        (fun j hj => by rw [hshift]; exact hbefore (j + 1) (Nat.succ_lt_succ hj)) (by rw [hshift]; exact hfree), hshift]

/-- Of 18 numbers in a row, one is neither 0 nor one of 16 numbers. -/
theorem exists_free_number {held : List (BitVec 16)} (hlen : held.length ≤ 16) (n : BitVec 16) :
    ∃ k < 18, n + BitVec.ofNat 16 k ≠ 0 ∧ n + BitVec.ofNat 16 k ∉ held := by
  by_contra hall
  push Not at hall
  have hsub : (List.range 18).map (fun k => n + BitVec.ofNat 16 k) ⊆ 0 :: held := by
    intro x hx
    obtain ⟨k, hk, rfl⟩ := List.mem_map.1 hx
    by_cases hzero : n + BitVec.ofNat 16 k = 0
    · rw [hzero]; exact List.mem_cons_self
    · exact List.mem_cons_of_mem _ (hall k (List.mem_range.1 hk) hzero)
  have hnodup : ((List.range 18).map (fun k => n + BitVec.ofNat 16 k)).Nodup := by
    refine List.nodup_range.map_on (fun i hi j hj h => ?_)
    exact add_ofNat_inj (by have := List.mem_range.1 hi; omega) (by have := List.mem_range.1 hj; omega) h
  have hle := (List.subperm_of_subset hnodup hsub).length_le
  simp only [List.length_map, List.length_range, List.length_cons] at hle
  omega

/-- The number behind the one just taken is the first that is neither 0 nor in use (R90). -/
theorem nextNumber_follows {held : List (BitVec 16)} (hlen : held.length ≤ 16) (n : BitVec 16) :
    followsNumber held n (nextNumber held 18 (n + 1)) := by
  classical
  have hex := exists_free_number hlen (n + 1)
  obtain ⟨k, ⟨hk, hfree⟩, hleast⟩ : ∃ k, (k < 18 ∧ n + 1 + BitVec.ofNat 16 k ≠ 0 ∧ n + 1 + BitVec.ofNat 16 k ∉ held) ∧
      ∀ j < k, n + 1 + BitVec.ofNat 16 j = 0 ∨ n + 1 + BitVec.ofNat 16 j ∈ held := by
    refine ⟨Nat.find hex, Nat.find_spec hex, fun j hj => ?_⟩
    have hmin := Nat.find_min hex hj
    have hlt : j < 18 := hj.trans (Nat.find_spec hex).1
    by_contra hnot
    push Not at hnot
    exact hmin ⟨hlt, hnot⟩
  have heq := nextNumber_eq held (n + 1) 18 k hk.le hleast hfree
  exact ⟨heq ▸ hfree.1, heq ▸ hfree.2, k, heq, hleast⟩

end Sys2Proof.Machine
end

section
/-! SUPPORT. The records stay in order through the elementary changes of the table, the list and the ledger (R36, R38,
R62, R63, R88 to R90, R152). -/

namespace Sys2Proof.Machine

/-! ### Keys of the ledger -/

/-- A stream freed leaves the tags of the claim records and of the holdings (R56). -/
theorem Ledger.freeStream_tags (l : Ledger) (r : StreamRecord) :
    (l.freeStream r).claims.map StationClaim.tag = l.claims.map StationClaim.tag ∧
    (l.freeStream r).holdings.map Holding.tag = l.holdings.map Holding.tag := by
  unfold Ledger.freeStream
  split
  · exact ⟨rfl, updateFirst_map Holding.tag _ _ (by intros; rfl) _⟩
  · unfold Ledger.unbind Ledger.uncharge
    simp

/-- A stream freed leaves its tag's holding, and no holding gains any (R56). -/
theorem Ledger.freeStream_from {l : Ledger} (hn : (l.holdings.map Holding.tag).Nodup) {r : StreamRecord} {h : Holding}
    (hh : h ∈ (l.freeStream r).holdings) :
    ∃ g ∈ l.holdings, g.tag = h.tag ∧ h.streams ⊆ g.streams ∧
      (r.isHeld = true → r.owner = .station h.tag → ∀ x ∈ h.streams, x.id ≠ r.id) := by
  unfold Ledger.freeStream at hh
  split at hh
  · next t _ howner =>
    unfold Ledger.dropHeld at hh
    simp only [updateFirst_key Holding.tag _ _ _ hn, List.mem_map] at hh
    obtain ⟨g, hg, rfl⟩ := hh
    split
    · refine ⟨g, hg, rfl, List.filter_sublist.subset, fun _ _ x hx => ?_⟩
      simpa using (List.mem_filter.1 hx).2
    · next hne =>
      refine ⟨g, hg, rfl, List.Subset.refl _, fun _ ho => ?_⟩
      rw [howner] at ho
      exact absurd (Party.station.inj ho).symm hne
  · next hnot =>
    have hsame : h ∈ l.holdings := by simpa [Ledger.uncharge, Ledger.unbind] using hh
    refine ⟨h, hsame, rfl, List.Subset.refl _, fun hheld ho => ?_⟩
    unfold StreamRecord.isHeld at hheld
    split at hheld
    · next hstate => exact absurd ho (hnot _ _ hstate)
    · exact absurd hheld nofun

/-! ### Changes of records -/

/-- With the records in order, a record is the one of its position. -/
theorem State.Records.unique {s : State} (hs : s.Records) {r q : StreamRecord} (hr : r ∈ s.streams) (hq : q ∈ s.streams)
    (h : q.id = r.id) : q = r :=
  Option.some.inj ((State.stream?_of_mem hs.positioned.nodup hq).symm.trans
    (h ▸ State.stream?_of_mem hs.positioned.nodup hr))

/-- A record leaves the table, its holding and the list (R77). -/
theorem State.Records.removeRecord {s : State} (hs : s.Records) (id : Nat) : (s.removeRecord id).Records := by
  cases hr : s.stream? id with
  | none =>
    have hsame : s.removeRecord id = s := by unfold State.removeRecord; rw [hr]
    rwa [hsame]
  | some r =>
    obtain ⟨hmem, hid⟩ := State.stream?_some hr
    have hstreams := State.removeRecord_streams hs.positioned.nodup id
    have hin (q : StreamRecord) : q ∈ (s.removeRecord id).streams ↔ q ∈ s.streams ∧ q.id ≠ id := by
      rw [hstreams, List.mem_filter, bne_iff_ne]
    have hedits : (s.removeRecord id).stg.edits = s.stg.edits.filter (fun e => e.stream != id) := by
      unfold State.removeRecord; rw [hr]
    have hledger : (s.removeRecord id).lgr = s.lgr.freeStream r := by unfold State.removeRecord; rw [hr]
    have hnext : (s.removeRecord id).stg.next = s.stg.next := by unfold State.removeRecord; rw [hr]
    obtain ⟨hclaims, hholdings⟩ := s.lgr.freeStream_tags r
    obtain ⟨hlen, hnodup, hfound, hnumbers, hzero⟩ := hs.editsInPlace
    constructor
    · rw [hledger, hclaims]; exact hs.claims
    · rw [hledger, hholdings]; exact hs.holdings
    · simpa using hs.roster
    · simpa using hs.link
    · refine ⟨?_, fun q hq => hs.positioned.2 q ((hin q).1 hq).1⟩
      rw [hstreams]; exact hs.positioned.1.sublist (List.filter_sublist.map _)
    · show ((s.removeRecord id).streams.map StreamRecord.channel).Nodup
      rw [hstreams]; exact hs.channelsApart.sublist (List.filter_sublist.map _)
    · intro h hh x hx
      rw [hledger] at hh
      obtain ⟨g, hg, htag, hsub, hgone⟩ := Ledger.freeStream_from hs.holdings hh
      obtain ⟨q, hq, hqid, howner, hheld⟩ := hs.heldInPlace g hg x (hsub hx)
      refine ⟨q, (hin q).2 ⟨hq, fun hsame => ?_⟩, hqid, htag ▸ howner, hheld⟩
      obtain rfl := hs.unique hmem hq (hsame.trans hid.symm)
      exact hgone hheld (htag ▸ howner) x hx hqid.symm
    · refine ⟨?_, ?_, fun e he => ?_, ?_, ?_⟩
      · rw [hedits]; exact (List.length_filter_le _ _).trans hlen
      · rw [hedits]; exact hnodup.sublist (List.filter_sublist.map _)
      · rw [hedits, List.mem_filter, bne_iff_ne] at he
        obtain ⟨q, hq, hqid⟩ := State.stream?_isSome.1 (hfound e he.1)
        exact State.stream?_isSome.2 ⟨q, (hin q).2 ⟨hq, hqid ▸ he.2⟩, hqid⟩
      · rw [hnext, hedits]
        exact hnumbers.sublist ((List.filter_sublist.map _).cons_cons _)
      · rw [hnext, hedits]
        exact fun h => hzero (((List.filter_sublist.map Edit.number).cons_cons _).subset h)
    · intro q hq
      obtain ⟨hq, hne⟩ := (hin q).1 hq
      rw [hs.stagedInPlace q hq, hedits]
      simp only [List.mem_filter, bne_iff_ne]
      refine ⟨fun ⟨e, he, hs', hk⟩ => ⟨e, ⟨he, hs' ▸ hne⟩, hs', hk⟩, fun ⟨e, ⟨he, _⟩, hs', hk⟩ => ⟨e, he, hs', hk⟩⟩
    · rw [hledger]
      have := congrArg List.length hholdings
      simp only [List.length_map] at this
      exact this.trans_le hs.room

theorem State.Records.removeRecords {s : State} (hs : s.Records) (ids : List Nat) : (s.removeRecords ids).Records := by
  induction ids generalizing s with
  | nil => exact hs
  | cons id ids ih => exact ih (hs.removeRecord id)

/-- Records change in place: each keeps its place, owner and channel, those that a holding lists stay HELD, and a record
is STAGED exactly while an ADMIT of the edits left is pending for it. -/
theorem State.Records.map {s t : State} (hs : s.Records) (f : StreamRecord → StreamRecord)
    (hstreams : t.streams = s.streams.map f)
    (hkeep : ∀ r ∈ s.streams, (f r).id = r.id ∧ (f r).owner = r.owner ∧ (f r).channel = r.channel)
    (hclaims : (t.lgr.claims.map StationClaim.tag).Nodup) (hholdings : t.lgr.holdings.Sublist s.lgr.holdings)
    (hheld : ∀ h ∈ t.lgr.holdings, ∀ r ∈ s.streams, r.owner = .station h.tag → r.isHeld = true → (f r).isHeld = true)
    (hroster : t.rst.Sound) (hlink : t.hlk.keyed) (hedits : t.stg.edits.Sublist s.stg.edits) (hnext : t.stg.next = s.stg.next)
    (hstaged : ∀ r ∈ s.streams, (f r).state = .staged ↔
      ∃ e ∈ t.stg.edits, e.stream = r.id ∧ e.op.kind = .admitStream) : t.Records := by
  have hids : t.streams.map StreamRecord.id = s.streams.map StreamRecord.id := by
    rw [hstreams, List.map_map]
    exact List.map_congr_left (fun r hr => (hkeep r hr).1)
  have hchannels : t.streams.map StreamRecord.channel = s.streams.map StreamRecord.channel := by
    rw [hstreams, List.map_map]
    exact List.map_congr_left (fun r hr => (hkeep r hr).2.2)
  obtain ⟨hlen, hnodup, hfound, hnumbers, hzero⟩ := hs.editsInPlace
  constructor
  · exact hclaims
  · exact hs.holdings.sublist (hholdings.map _)
  · exact hroster
  · exact hlink
  · refine ⟨hids ▸ hs.positioned.1, fun r hr => ?_⟩
    have : r.id ∈ s.streams.map StreamRecord.id := hids ▸ List.mem_map_of_mem hr
    obtain ⟨q, hq, hqid⟩ := List.mem_map.1 this
    exact hqid ▸ hs.positioned.2 q hq
  · show (t.streams.map StreamRecord.channel).Nodup
    rw [hchannels]; exact hs.channelsApart
  · intro h hh x hx
    obtain ⟨q, hq, hqid, howner, hqheld⟩ := hs.heldInPlace h (hholdings.subset hh) x hx
    obtain ⟨hid, hown, -⟩ := hkeep q hq
    exact ⟨f q, hstreams ▸ List.mem_map_of_mem hq, hid.trans hqid, hown.trans howner, hheld h hh q hq howner hqheld⟩
  · refine ⟨hedits.length_le.trans hlen, hnodup.sublist (hedits.map _), fun e he => ?_, ?_, ?_⟩
    · obtain ⟨q, hq, hqid⟩ := State.stream?_isSome.1 (hfound e (hedits.subset he))
      exact State.stream?_isSome.2 ⟨f q, hstreams ▸ List.mem_map_of_mem hq, (hkeep q hq).1.trans hqid⟩
    · rw [hnext]; exact hnumbers.sublist ((hedits.map _).cons_cons _)
    · rw [hnext]; exact fun h => hzero (((hedits.map _).cons_cons _).subset h)
  · intro r hr
    rw [hstreams] at hr
    obtain ⟨q, hq, rfl⟩ := List.mem_map.1 hr
    rw [hstaged q hq, (hkeep q hq).1]
  · exact (hholdings.length_le).trans hs.room

/-- A record put in its place is a change of that record alone. -/
theorem State.putStream_map {s : State} (hn : (s.streams.map StreamRecord.id).Nodup) (q : StreamRecord) :
    (s.putStream q).streams = s.streams.map (fun r => if r.id = q.id then q else r) :=
  updateFirst_key StreamRecord.id (fun _ => q) q.id _ hn

end Sys2Proof.Machine
end

section
/-! SUPPORT. The records stay in order through each elementary change of the staging list, the ledger and the roster. -/

namespace Sys2Proof.Machine

/-! ### Blocks of their own -/

/-- Changes of the other blocks leave the records in order. -/
theorem State.Records.of_eq {s t : State} (hs : s.Records) (hclaims : t.lgr.claims = s.lgr.claims)
    (hholdings : t.lgr.holdings = s.lgr.holdings) (hroster : t.rst.Sound) (hlink : t.hlk.keyed)
    (hstreams : t.streams = s.streams) (hedits : t.stg.edits = s.stg.edits) (hnext : t.stg.next = s.stg.next) :
    t.Records := by
  refine hs.map id (by simpa using hstreams) (fun r _ => ⟨rfl, rfl, rfl⟩) (hclaims ▸ hs.claims)
    (hholdings ▸ .refl _) (fun _ _ _ _ _ hr => hr) hroster hlink (hedits ▸ .refl _) hnext (fun r hr => ?_)
  rw [hedits]
  exact hs.stagedInPlace r hr

/-! ### The staging list -/

/-- An edit that has left the list is the only one for its stream. -/
theorem State.Records.edit_unique {s : State} (hs : s.Records) {e x : Edit} (he : e ∈ s.stg.edits) (hx : x ∈ s.stg.edits)
    (h : x.stream = e.stream) : x = e :=
  List.inj_on_of_nodup_map hs.editsInPlace.2.1 hx he h

theorem State.Records.edit_number {s : State} (hs : s.Records) {e x : Edit} (he : e ∈ s.stg.edits) (hx : x ∈ s.stg.edits)
    (h : x.number = e.number) : x = e :=
  List.inj_on_of_nodup_map (List.nodup_cons.1 hs.editsInPlace.2.2.2.1).2 hx he h

/-- The list without one edit, and the table changed in that edit's record only: neither STAGED nor HELD nor moved, and
no longer STAGED where the edit was its ADMIT. -/
theorem State.Records.without {s t : State} (hs : s.Records) {e : Edit} (he : e ∈ s.stg.edits) {q : StreamRecord → StreamRecord}
    (hstreams : t.streams = s.streams.map (fun r => if r.id = e.stream then q r else r))
    (hkeep : ∀ r ∈ s.streams, r.id = e.stream → (q r).id = r.id ∧ (q r).owner = r.owner ∧ (q r).channel = r.channel)
    (hheld : ∀ r ∈ s.streams, r.id = e.stream → r.isHeld = true → (q r).isHeld = true)
    (hstaged : ∀ r ∈ s.streams, r.id = e.stream → (r.state = .staged ↔ e.op.kind = .admitStream) → (q r).state ≠ .staged)
    (hclaims : (t.lgr.claims.map StationClaim.tag).Nodup) (hholdings : t.lgr.holdings = s.lgr.holdings)
    (hroster : t.rst.Sound) (hlink : t.hlk.keyed)
    (hedits : t.stg.edits = s.stg.edits.filter (fun x => x.number != e.number)) (hnext : t.stg.next = s.stg.next) :
    t.Records := by
  have hleft (x : Edit) : x ∈ t.stg.edits ↔ x ∈ s.stg.edits ∧ x ≠ e := by
    rw [hedits, List.mem_filter, bne_iff_ne]
    refine and_congr_right (fun hx => not_congr ⟨fun h => hs.edit_number he hx h, fun h => h ▸ rfl⟩)
  refine hs.map _ hstreams (fun r hr => ?_) hclaims (hholdings ▸ .refl _) (fun h _ r hr _ hrh => ?_) hroster hlink
    (hedits ▸ List.filter_sublist) hnext (fun r hr => ?_)
  · by_cases hid : r.id = e.stream
    · simpa [hid] using hkeep r hr hid
    · simp [hid]
  · by_cases hid : r.id = e.stream
    · simpa [hid] using hheld r hr hid hrh
    · simpa [hid] using hrh
  · by_cases hid : r.id = e.stream
    · rw [if_pos hid]
      have hnone : ¬ ∃ x ∈ t.stg.edits, x.stream = r.id ∧ x.op.kind = .admitStream := by
        rintro ⟨x, hx, hxs, -⟩
        obtain ⟨hx, hne⟩ := (hleft x).1 hx
        exact hne (hs.edit_unique he hx (hxs.trans hid))
      have hown : r.state = .staged ↔ e.op.kind = .admitStream := by
        rw [hs.stagedInPlace r hr]
        refine ⟨fun ⟨x, hx, hxs, hk⟩ => ?_, fun hk => ⟨e, he, hid.symm, hk⟩⟩
        exact (hs.edit_unique he hx (hxs.trans hid)) ▸ hk
      simp only [hstaged r hr hid hown, hnone]
    · rw [if_neg hid, hs.stagedInPlace r hr]
      refine ⟨fun ⟨x, hx, hxs, hk⟩ => ⟨x, (hleft x).2 ⟨hx, fun h => hid (h ▸ hxs.symm)⟩, hxs, hk⟩,
        fun ⟨x, hx, hxs, hk⟩ => ⟨x, ((hleft x).1 hx).1, hxs, hk⟩⟩

/-- A removal takes the edit of the record with it, whether it has left the list before or not (R77). -/
theorem State.removeRecord_withoutEdit {s : State} {e : Edit} {edits : List Edit} {r : StreamRecord}
    (hr : s.stream? e.stream = some r) (hedits : edits.filter (fun x => x.stream != e.stream) =
      s.stg.edits.filter (fun x => x.stream != e.stream)) :
    State.removeRecord { s with stg := { s.stg with edits := edits } } e.stream = s.removeRecord e.stream := by
  have hr' : State.stream? { s with stg := { s.stg with edits := edits } } e.stream = some r := hr
  unfold State.removeRecord
  rw [hr, hr']
  simp only [hedits]

/-- An edit dropped leaves the records in order (R106). -/
theorem State.Records.dropEdit {s : State} (hs : s.Records) {e : Edit} (he : e ∈ s.stg.edits) : (s.dropEdit e).Records := by
  obtain ⟨r, hr⟩ := Option.isSome_iff_exists.1 (hs.editsInPlace.2.2.1 e he)
  obtain ⟨hmem, hid⟩ := State.stream?_some hr
  have hr' : State.stream? { s with stg := { s.stg with
      edits := s.stg.edits.filter (fun x => x.number != e.number) } } e.stream = some r := hr
  have hplain (q : StreamRecord → StreamRecord) (t : State) (hq : ∀ x, (q x).id = x.id ∧ (q x).owner = x.owner ∧
        (q x).channel = x.channel ∧ (q x).isHeld = x.isHeld ∧ (q x).state = x.state) (hop : e.op.kind ≠ .admitStream)
      (hstreams : t.streams = s.streams.map (fun r => if r.id = e.stream then q r else r))
      (hclaims : t.lgr.claims.map StationClaim.tag = s.lgr.claims.map StationClaim.tag)
      (hholdings : t.lgr.holdings = s.lgr.holdings) (hrst : t.rst = s.rst) (hhlk : t.hlk = s.hlk)
      (hedits : t.stg.edits = s.stg.edits.filter (fun x => x.number != e.number)) (hnext : t.stg.next = s.stg.next) :
      t.Records :=
    hs.without he hstreams (fun x _ _ => ⟨(hq x).1, (hq x).2.1, (hq x).2.2.1⟩) (fun x _ _ h => (hq x).2.2.2.1 ▸ h)
      (fun x _ _ h hst => hop (h.1 ((hq x).2.2.2.2 ▸ hst))) (hclaims ▸ hs.claims) hholdings (hrst ▸ hs.roster)
      (hhlk ▸ hs.link) hedits hnext
  unfold State.dropEdit State.undoEdit
  rw [hr']
  cases hop : e.op with
  | admitStream a =>
    have hedits : (s.stg.edits.filter (fun x => x.number != e.number)).filter (fun x => x.stream != e.stream) =
        s.stg.edits.filter (fun x => x.stream != e.stream) := by
      rw [List.filter_filter]
      refine List.filter_congr (fun x hx => ?_)
      by_cases hxe : x.stream = e.stream
      · simp [hxe]
      · have : x.number ≠ e.number := fun h => hxe (hs.edit_number he hx h ▸ rfl)
        simp [hxe, this]
    simp only [hid]
    rw [State.removeRecord_withoutEdit hr hedits]
    exact hs.removeRecord _
  | resize units direction =>
    have hput := State.putStream_map hs.positioned.nodup { r with pendingResize := none }
    have hmap : s.streams.map (fun x => if x.id = r.id then { r with pendingResize := none } else x) =
        s.streams.map (fun x => if x.id = e.stream then { x with pendingResize := none } else x) := by
      refine List.map_congr_left (fun x hx => ?_)
      by_cases hx' : x.id = e.stream
      · rw [if_pos hx', if_pos (hx'.trans hid.symm), hs.unique hmem hx (hx'.trans hid.symm)]
      · rw [if_neg hx', if_neg (fun h => hx' (h.trans hid))]
    have hne : e.op.kind ≠ .admitStream := by rw [hop]; simp [EditOp.kind]
    simp only
    split
    · exact hplain (fun x => { x with pendingResize := none }) _ (fun x => ⟨rfl, rfl, rfl, rfl, rfl⟩) hne
        (hput.trans hmap) (by simp [Ledger.uncharge]) (by simp [Ledger.uncharge]) rfl rfl rfl rfl
    · exact hplain (fun x => { x with pendingResize := none }) _ (fun x => ⟨rfl, rfl, rfl, rfl, rfl⟩) hne
        (hput.trans hmap) rfl rfl rfl rfl rfl rfl
  | retire => exact hplain id _ (fun x => ⟨rfl, rfl, rfl, rfl, rfl⟩) (by rw [hop]; simp [EditOp.kind]) (by simp) rfl rfl rfl rfl rfl rfl
  | suspend => exact hplain id _ (fun x => ⟨rfl, rfl, rfl, rfl, rfl⟩) (by rw [hop]; simp [EditOp.kind]) (by simp) rfl rfl rfl rfl rfl rfl
  | resume => exact hplain id _ (fun x => ⟨rfl, rfl, rfl, rfl, rfl⟩) (by rw [hop]; simp [EditOp.kind]) (by simp) rfl rfl rfl rfl rfl rfl

/-- The edits behind the head of the list are those of other numbers (R90). -/
theorem State.Records.rest_eq {s : State} (hs : s.Records) {e : Edit} {rest : List Edit} (hedits : s.stg.edits = e :: rest) :
    rest = s.stg.edits.filter (fun x => x.number != e.number) := by
  have hnodup := (List.nodup_cons.1 hs.editsInPlace.2.2.2.1).2
  rw [hedits, List.map_cons, List.nodup_cons] at hnodup
  rw [hedits, List.filter_cons_of_neg (by simp)]
  refine (List.filter_eq_self.2 (fun x hx => ?_)).symm
  simpa using fun h : x.number = e.number => hnodup.1 (h ▸ List.mem_map_of_mem hx)

/-- A RETIRING stream is not in service (R66). -/
theorem StreamRecord.not_retiring_of_inService {r : StreamRecord} (h : r.inService = true) : r.isRetiring = false := by
  unfold StreamRecord.inService at h
  unfold StreamRecord.isRetiring
  cases hs : r.state <;> simp_all

/-- A HELD stream is not in service (R66). -/
theorem StreamRecord.not_inService_of_held {r : StreamRecord} (h : r.isHeld = true) : ¬ r.inService = true := by
  unfold StreamRecord.isHeld at h
  unfold StreamRecord.inService
  cases hs : r.state <;> simp_all

/-- An edit committed leaves the records in order (R100, R101). -/
theorem State.Records.commitEdit {s : State} (hs : s.Records) (n : Cycle) {e : Edit} {rest : List Edit}
    (hedits : s.stg.edits = e :: rest) :
    (State.commitEdit { s with stg := { s.stg with edits := rest } } n e).1.Records := by
  have he : e ∈ s.stg.edits := hedits ▸ List.mem_cons_self
  have hrest := hs.rest_eq hedits
  obtain ⟨r, hr⟩ := Option.isSome_iff_exists.1 (hs.editsInPlace.2.2.1 e he)
  obtain ⟨hmem, hid⟩ := State.stream?_some hr
  have hown : r.state = .staged ↔ e.op.kind = .admitStream := by
    rw [hs.stagedInPlace r hmem]
    exact ⟨fun ⟨x, hx, hxs, hk⟩ => (hs.edit_unique he hx (hxs.trans hid)) ▸ hk, fun hk => ⟨e, he, hid.symm, hk⟩⟩
  set s1 : State := { s with stg := { s.stg with edits := rest } } with hs1
  have hr1 : s1.stream? e.stream = some r := hr
  -- what a change of the record itself leaves, the ledger's part aside
  have hput (q : StreamRecord) (l : Ledger) (hq : q.id = r.id ∧ q.owner = r.owner ∧ q.channel = r.channel)
      (hqheld : r.isHeld = true → q.isHeld = true)
      (hstaged : q.state ≠ .staged) (hclaims : l.claims.map StationClaim.tag = s.lgr.claims.map StationClaim.tag)
      (hholdings : l.holdings = s.lgr.holdings) : State.Records { s1.putStream q with lgr := l } := by
    have hunique : ∀ x ∈ s.streams, x.id = e.stream → x = r := fun x hx h => hs.unique hmem hx (h.trans hid.symm)
    refine hs.without he (q := fun _ => q) ?_ (fun x hx h => hunique x hx h ▸ hq) (fun x hx h hh => hqheld (hunique x hx h ▸ hh))
      (fun _ _ _ _ => hstaged) (hclaims ▸ hs.claims) hholdings hs.roster hs.link hrest rfl
    have hmap := State.putStream_map (s := s1) hs.positioned.nodup q
    rw [hq.1, hid] at hmap
    exact hmap
  have hnone (h : e.op.kind ≠ .admitStream) : s1.Records := by
    refine hs.without he (q := id) (by simp [hs1]) (fun _ _ _ => ⟨rfl, rfl, rfl⟩) (fun _ _ _ h => h)
      (fun x _ _ hx hst => h (hx.1 hst)) hs.claims rfl hs.roster hs.link hrest rfl
  have hnotStaged (h : e.op.kind ≠ .admitStream) : r.state ≠ .staged := fun hst => h (hown.1 hst)
  unfold State.commitEdit
  rw [hr1]
  cases hop : e.op with
  | admitStream a =>
    have hst : r.state = .staged := hown.2 (by rw [hop]; rfl)
    simp only [hst, if_true]
    obtain ⟨hplain, -⟩ := s1.enterService_plain r n
    exact hput { r with state := _ } s.lgr ⟨rfl, rfl, rfl⟩ (by simp [StreamRecord.isHeld, hst]) hplain rfl rfl
  | retire =>
    have hne : e.op.kind ≠ .admitStream := by rw [hop]; simp [EditOp.kind]
    simp only
    split
    · rw [hid, State.removeRecord_withoutEdit hr (by rw [hedits, List.filter_cons_of_neg (by simp)])]
      exact hs.removeRecord _
    · exact hnone hne
  | resize units direction =>
    have hne : e.op.kind ≠ .admitStream := by rw [hop]; simp [EditOp.kind]
    simp only
    split
    · split
      · exact hput { r with units := units, pendingResize := none } _ ⟨rfl, rfl, rfl⟩ (fun h => h) (hnotStaged hne)
          (by simp [Ledger.uncharge, hs1]) (by simp [Ledger.uncharge, hs1])
      · exact hput { r with units := units, pendingResize := none } s.lgr ⟨rfl, rfl, rfl⟩ (fun h => h) (hnotStaged hne) rfl rfl
    · exact hnone hne
  | suspend =>
    have hne : e.op.kind ≠ .admitStream := by rw [hop]; simp [EditOp.kind]
    simp only
    split
    · next hin =>
      exact hput { r with state := _, restoreMark := _ } s.lgr ⟨rfl, rfl, rfl⟩
        (fun h => absurd hin (StreamRecord.not_inService_of_held h)) nofun rfl rfl
    · exact hnone hne
  | resume =>
    have hne : e.op.kind ≠ .admitStream := by rw [hop]; simp [EditOp.kind]
    simp only
    split
    · next c hst =>
      have hheld : ¬ r.isHeld = true := by simp [StreamRecord.isHeld, hst]
      split
      · exact hput { r with state := _, vacantRun := _, overlongRun := _ } s.lgr ⟨rfl, rfl, rfl⟩
          (fun h => absurd h hheld) (startRule_plain r.start n).1 rfl rfl
      · exact hput { r with state := _ } s.lgr ⟨rfl, rfl, rfl⟩ (fun h => absurd h hheld) nofun rfl rfl
    · exact hnone hne

/-- An accepted edit joins the list behind the others, with the counter's number (R90, R96). -/
theorem State.acceptEdit_inPlace {s : State} (hs : s.editsInPlace) (p : Party) (op : EditOp) {id : Nat}
    (hroom : s.stg.edits.length < Config.editRoom) (hfresh : ∀ e ∈ s.stg.edits, e.stream ≠ id)
    (hfound : (s.stream? id).isSome = true) : (s.acceptEdit p op id).editsInPlace := by
  obtain ⟨hlen, hnodup, hall, hnumbers, hzero⟩ := hs
  obtain ⟨hnew, hnumbers⟩ := List.nodup_cons.1 hnumbers
  simp only [List.mem_cons, not_or] at hzero
  have hmap : (s.acceptEdit p op id).stg.edits.map Edit.number = s.stg.edits.map Edit.number ++ [s.stg.next] := by
    simp [State.acceptEdit]
  have hheld : ((s.acceptEdit p op id).stg.edits.map Edit.number).length ≤ 16 := by
    rw [hmap, List.length_append, List.length_map]
    exact hroom
  obtain ⟨hne, hnot, -⟩ := nextNumber_follows hheld s.stg.next
  refine ⟨by simpa [State.acceptEdit] using hroom, ?_, fun e he => ?_, ?_, ?_⟩
  · simp only [State.acceptEdit, List.map_append, List.map_cons, List.map_nil]
    refine List.Nodup.append hnodup (List.nodup_singleton _) ?_
    simpa using hfresh
  · rcases List.mem_append.1 he with he | he
    · exact hall e he
    · rw [List.mem_singleton.1 he]; exact hfound
  · refine List.nodup_cons.2 ⟨hnot, ?_⟩
    rw [hmap]
    exact List.Nodup.append hnumbers (List.nodup_singleton _) (by simpa using hnew)
  · rw [hmap]
    simp only [List.mem_cons, List.mem_append, List.not_mem_nil, or_false, not_or]
    exact ⟨hne.symm, hzero.2, hzero.1⟩

/-- What the checks of an edit have found: the stream stands, is in a state that admits the edit, and has no edit pending
(R94, R95). -/
theorem State.editFailure_state {s : State} {kind : Kind} {p : Party} {id units : Nat} {r : StreamRecord}
    (h : s.editFailure kind p id units = none) (hr : s.stream? id = some r) :
    stateAdmits kind r.state = true ∧ ∀ e ∈ s.stg.edits, e.stream ≠ id := by
  have hstate := firstFailure_none h (s.stateFailure kind id) (by simp)
  have hpending := firstFailure_none h (s.pendingFailure id) (by simp)
  refine ⟨?_, ?_⟩
  · unfold State.stateFailure at hstate
    rw [hr] at hstate
    exact require_none.1 hstate
  · unfold State.pendingFailure at hpending
    simpa using hpending

/-- An edit of a stream that is accepted leaves the records in order (R96). -/
theorem State.Records.stage {s : State} (hs : s.Records) {kind : Kind} {p : Party} {id units : Nat} {r : StreamRecord}
    {l : Ledger} (hf : s.editFailure kind p id units = none) (hr : s.stream? id = some r)
    (hl : s.lgr.chargeEdit r (editOpFor kind r units) = some l) :
    (State.acceptEdit (State.putStream { s with lgr := l } (r.staged (editOpFor kind r units))) p
      (editOpFor kind r units) id).Records := by
  obtain ⟨hadmits, hfresh⟩ := State.editFailure_state hf hr
  have hroom := State.editFailure_room hf
  obtain ⟨hmem, hid⟩ := State.stream?_some hr
  obtain ⟨op, hop⟩ : ∃ op, op = editOpFor kind r units := ⟨_, rfl⟩
  rw [← hop] at hl ⊢
  have hkind : op.kind ≠ .admitStream := by
    rw [hop]; unfold editOpFor
    split <;> simp [EditOp.kind]
  have hq : (r.staged op).id = r.id ∧ (r.staged op).owner = r.owner ∧ (r.staged op).channel = r.channel ∧
      (r.staged op).state = r.state := by
    unfold StreamRecord.staged
    split <;> exact ⟨rfl, rfl, rfl, rfl⟩
  have hkeys : l.claims.map StationClaim.tag = s.lgr.claims.map StationClaim.tag ∧ l.holdings = s.lgr.holdings := by
    unfold Ledger.chargeEdit Ledger.charge at hl
    split at hl
    · split at hl
      · obtain rfl := Option.some.inj hl
        simp
      · exact absurd hl nofun
    · obtain rfl := Option.some.inj hl
      exact ⟨rfl, rfl⟩
  have hput : State.Records (State.putStream { s with lgr := l } (r.staged op)) := by
    have hunique : ∀ x ∈ s.streams, x.id = (r.staged op).id → x = r := fun x hx h => hs.unique hmem hx (h.trans hq.1)
    have hsame : ∀ x ∈ s.streams, (if x.id = (r.staged op).id then r.staged op else x).state = x.state := by
      intro x hx
      split
      · next h => rw [hunique x hx h]; exact hq.2.2.2
      · rfl
    refine hs.map _ (State.putStream_map (s := { s with lgr := l }) hs.positioned.nodup _) (fun x hx => ?_)
      (hkeys.1 ▸ hs.claims) (hkeys.2 ▸ .refl _) (fun _ _ x hx _ hh => ?_) hs.roster hs.link (.refl _) rfl (fun x hx => ?_)
    · split
      · next h => rw [hunique x hx h]; exact ⟨hq.1, hq.2.1, hq.2.2.1⟩
      · exact ⟨rfl, rfl, rfl⟩
    · unfold StreamRecord.isHeld at hh ⊢
      rw [hsame x hx]
      exact hh
    · rw [hsame x hx]
      exact hs.stagedInPlace x hx
  have hedits := State.acceptEdit_inPlace hput.editsInPlace p op (id := id) hroom hfresh
    (State.stream?_isSome.2 ⟨r.staged op, by
      rw [State.putStream_map (s := { s with lgr := l }) hs.positioned.nodup]
      exact List.mem_map.2 ⟨r, hmem, by simp [hq.1]⟩, hq.1.trans hid⟩)
  refine ⟨hput.claims, hput.holdings, hput.roster, hput.link, hput.positioned, hput.channelsApart, hput.heldInPlace, hedits,
    fun x hx => ?_, hput.room⟩
  rw [hput.stagedInPlace x hx]
  simp only [State.acceptEdit, List.mem_append, List.mem_singleton]
  refine ⟨fun ⟨e, he, h⟩ => ⟨e, .inl he, h⟩, ?_⟩
  rintro ⟨e, he | rfl, hs', hk⟩
  · exact ⟨e, he, hs', hk⟩
  · exact absurd hk hkind

/-- What the checks of an ADMIT have found: a free position, and a channel that no record has (R62, R63, R94). -/
theorem State.admitFailure_free {s : State} {p : Party} {a : AdmitRequest} (h : s.admitFailure p a = none) :
    (s.lowestFree.getD 0 < Config.streamPositions ∧ ∀ r ∈ s.streams, r.id ≠ s.lowestFree.getD 0) ∧
    ∀ r ∈ s.streams, r.channel ≠ (admitArgs p a).channel := by
  have hfree := firstFailure_none h (require s.lowestFree.isSome ⟨.tableFull, []⟩) (by simp)
  have hchannel := firstFailure_none h (require (s.streams.all (fun r => r.channel != (admitArgs p a).channel))
    ⟨.channelTaken, [byteOf (admitArgs p a).channel]⟩) (by simp)
  obtain ⟨id, hid⟩ := Option.isSome_iff_exists.1 (require_none.1 hfree)
  refine ⟨?_, by simpa using require_none.1 hchannel⟩
  rw [hid, Option.getD_some]
  have hmem := List.mem_range.1 (List.mem_of_find?_eq_some hid)
  have hnone := List.find?_some hid
  exact ⟨hmem, by simpa [State.stream?] using hnone⟩

/-- An ADMIT accepted leaves the records in order (R96). -/
theorem State.Records.admitStream {s : State} (hs : s.Records) {p : Party} {a : AdmitRequest} {l : Ledger}
    (hf : s.admitFailure p a = none) (hl : s.lgr.chargeAndBind (admitArgs p a) (s.lowestFree.getD 0) = .ok l) :
    (State.acceptEdit (State.addRecord { s with lgr := l } (newRecord (s.lowestFree.getD 0) (admitArgs p a))) p
      (.admitStream (admitArgs p a)) (s.lowestFree.getD 0)).Records := by
  obtain ⟨⟨hlt, hfree⟩, hchannel⟩ := State.admitFailure_free hf
  have hroom := State.admitFailure_room hf
  generalize s.lowestFree.getD 0 = id at *
  set args := admitArgs p a
  set q := newRecord id args with hq
  set s1 := State.addRecord { s with lgr := l } q with hs1
  have hkeys : l.claims.map StationClaim.tag = s.lgr.claims.map StationClaim.tag ∧ l.holdings = s.lgr.holdings := by
    unfold Ledger.chargeAndBind Ledger.charge Ledger.bind at hl
    split at hl
    · exact absurd hl nofun
    · next l1 h1 =>
      split at hl
      · exact absurd hl nofun
      · next l2 h2 =>
        obtain rfl := Except.ok.inj hl
        split at h1
        · obtain rfl := Option.some.inj h1
          split at h2
          · obtain rfl := Option.some.inj h2
            simp
          · exact absurd h2 nofun
        · exact absurd h1 nofun
  have hin (r : StreamRecord) : r ∈ s1.streams ↔ r = q ∨ r ∈ s.streams := by
    simp [hs1]
  have hedits1 : s1.editsInPlace := by
    obtain ⟨hlen, hnodup, hall, hnumbers, hzero⟩ := hs.editsInPlace
    refine ⟨hlen, hnodup, fun e he => ?_, hnumbers, hzero⟩
    obtain ⟨r, hr, hrid⟩ := State.stream?_isSome.1 (hall e he)
    exact State.stream?_isSome.2 ⟨r, (hin r).2 (.inr hr), hrid⟩
  have hfresh : ∀ e ∈ s.stg.edits, e.stream ≠ id := by
    intro e he hsame
    obtain ⟨r, hr, hrid⟩ := State.stream?_isSome.1 (hs.editsInPlace.2.2.1 e he)
    exact hfree r hr (hrid.trans hsame)
  have hedits := State.acceptEdit_inPlace hedits1 p (.admitStream args) (id := id) hroom hfresh
    (State.stream?_isSome.2 ⟨q, (hin q).2 (.inl rfl), rfl⟩)
  refine ⟨hkeys.1 ▸ hs.claims, ?_, hs.roster, hs.link, ⟨?_, fun r hr => ?_⟩, ?_, ?_, hedits, fun r hr => ?_, ?_⟩
  · exact (congrArg (List.map Holding.tag) hkeys.2) ▸ hs.holdings
  · exact insertBy_rising StreamRecord.id q _ hs.positioned.1 hfree
  · rcases (hin r).1 hr with rfl | hr
    · exact hlt
    · exact hs.positioned.2 r hr
  · have hperm := (insertBy_perm (fun (a b : StreamRecord) => a.id < b.id) q s.streams).map StreamRecord.channel
    refine hperm.nodup_iff.2 (List.nodup_cons.2 ⟨?_, hs.channelsApart⟩)
    simpa [hq, newRecord] using hchannel
  · intro h hh x hx
    have hold : h ∈ s.lgr.holdings := hkeys.2 ▸ hh
    obtain ⟨r, hr, hrest⟩ := hs.heldInPlace h hold x hx
    exact ⟨r, (hin r).2 (.inr hr), hrest⟩
  · simp only [State.acceptEdit, List.mem_append, List.mem_singleton]
    rcases (hin r).1 hr with rfl | hr
    · exact ⟨fun _ => ⟨_, .inr rfl, rfl, rfl⟩, fun _ => rfl⟩
    · rw [hs.stagedInPlace r hr]
      refine ⟨fun ⟨e, he, h⟩ => ⟨e, .inl he, h⟩, ?_⟩
      rintro ⟨e, he | rfl, hes, hk⟩
      · exact ⟨e, he, hes, hk⟩
      · exact absurd hes.symm (hfree r hr)
  · show l.holdings.length ≤ _
    rw [hkeys.2]; exact hs.room

end Sys2Proof.Machine
end

section
/-! SUPPORT. The records stay in order through each elementary change of the accounts, the holdings and the roster, and
through a trunk reset; the first part of the step invariant of the records (R36, R38, R62, R63, R88 to R90, R141, R142,
R152, R183, R184). -/

namespace Sys2Proof.Machine

/-! ### Accounts -/

/-- The keys of the ledger: one claim record and one holding per tag, and at most 32 holdings (R36, R38). -/
def Ledger.keyed (l : Ledger) : Prop :=
  (l.claims.map StationClaim.tag).Nodup ∧ (l.holdings.map Holding.tag).Nodup ∧ l.holdings.length ≤ Config.holdingRoom

theorem Ledger.keyed.of_update {l : Ledger} (h : l.keyed) (p : Party) (f : Account → Account) : (l.update p f).keyed := by
  simpa [Ledger.keyed] using h

theorem Ledger.keyed.ensure {l : Ledger} (h : l.keyed) (p : Party) : (l.ensure p).keyed := by
  refine ⟨Ledger.ensure_nodup h.1 p, ?_⟩
  unfold Ledger.ensure
  split
  · exact h.2
  · split <;> exact h.2

theorem Ledger.keyed.dropEmpty {l : Ledger} (h : l.keyed) (p : Party) : (l.dropEmpty p).keyed := by
  unfold Ledger.dropEmpty
  split
  · exact h
  · split
    · split
      · exact ⟨h.1.sublist (eraseP_map_sublist _ _ _), h.2⟩
      · exact h
    · exact h

/-- The holdings stay through every change of accounts (R41, R45). -/
theorem Ledger.ensure_holdings (l : Ledger) (p : Party) : (l.ensure p).holdings = l.holdings := by
  unfold Ledger.ensure
  split
  · rfl
  · split <;> rfl

theorem Ledger.dropEmpty_holdings (l : Ledger) (p : Party) : (l.dropEmpty p).holdings = l.holdings := by
  unfold Ledger.dropEmpty
  split
  · rfl
  · split
    · split <;> rfl
    · rfl

theorem Ledger.exchangeUnits_keyed {l : Ledger} (h : l.keyed) (budget : Nat) (rights : Rights) (p : Party) (e n : Nat) :
    (l.exchangeUnits budget rights p e n).1.keyed ∧ (l.exchangeUnits budget rights p e n).1.holdings = l.holdings := by
  have hclaim : (l.claimUnits p e n).keyed ∧ (l.claimUnits p e n).holdings = l.holdings :=
    ⟨(h.ensure p).of_update p _, by simp [Ledger.claimUnits, Ledger.ensure_holdings]⟩
  have hrelease : (l.releaseUnits p e n).keyed ∧ (l.releaseUnits p e n).holdings = l.holdings := by
    refine ⟨Ledger.keyed.dropEmpty ?_ p, by simp [Ledger.releaseUnits, Ledger.dropEmpty_holdings]⟩
    exact h.of_update p _
  unfold Ledger.exchangeUnits
  generalize (!(if n = e then rights.query else rights.claim)) = refused
  simp only
  split_ifs
  all_goals first | exact hclaim | exact hrelease | exact ⟨h, rfl⟩

theorem Ledger.exchangeChannels_keyed {l : Ledger} (h : l.keyed) (rights : Rights) (p : Party) (e n : BitVec 256) :
    (l.exchangeChannels rights p e n).1.keyed ∧ (l.exchangeChannels rights p e n).1.holdings = l.holdings := by
  have hmove (a b : ChannelSet) : (l.moveChannels p a b).keyed ∧ (l.moveChannels p a b).holdings = l.holdings := by
    unfold Ledger.moveChannels
    simp only
    rw [Ledger.dropEmpty_holdings]
    split
    · refine ⟨Ledger.keyed.dropEmpty ?_ p, by simp⟩
      exact h.of_update p _
    · refine ⟨Ledger.keyed.dropEmpty ?_ p, by simp [Ledger.ensure_holdings]⟩
      exact (h.ensure p).of_update p _
  unfold Ledger.exchangeChannels
  generalize (!(if n = e then rights.query else rights.claim)) = refused
  simp only
  split_ifs
  all_goals first | exact hmove _ _ | exact ⟨h, rfl⟩

theorem State.Records.keyed {s : State} (hs : s.Records) : s.lgr.keyed := ⟨hs.claims, hs.holdings, hs.room⟩

/-- A change of the ledger's accounts leaves the records in order. -/
theorem State.Records.of_ledger {s : State} (hs : s.Records) {l : Ledger} (h : l.keyed ∧ l.holdings = s.lgr.holdings) :
    State.Records { s with lgr := l } := by
  refine hs.map id (by simp) (fun r _ => ⟨rfl, rfl, rfl⟩) h.1.1 (h.2 ▸ .refl _) (fun _ _ _ _ _ hr => hr)
    hs.roster hs.link (.refl _) rfl hs.stagedInPlace

/-! ### Holdings -/

/-- Removals leave the tags of the claim records and of the holdings (R77). -/
theorem State.removeRecords_tags (s : State) (ids : List Nat) :
    (s.removeRecords ids).lgr.claims.map StationClaim.tag = s.lgr.claims.map StationClaim.tag ∧
    (s.removeRecords ids).lgr.holdings.map Holding.tag = s.lgr.holdings.map Holding.tag := by
  induction ids generalizing s with
  | nil => exact ⟨rfl, rfl⟩
  | cons id ids ih =>
    have hone : (s.removeRecord id).lgr.claims.map StationClaim.tag = s.lgr.claims.map StationClaim.tag ∧
        (s.removeRecord id).lgr.holdings.map Holding.tag = s.lgr.holdings.map Holding.tag := by
      unfold State.removeRecord
      split
      · exact ⟨rfl, rfl⟩
      · exact Ledger.freeStream_tags _ _
    exact ⟨(ih (s.removeRecord id)).1.trans hone.1, (ih (s.removeRecord id)).2.trans hone.2⟩

/-- The end of a holding takes its tag from the list, and no other (R51). -/
theorem State.endHolding_tags {s : State} (hs : (s.lgr.holdings.map Holding.tag).Nodup) {h : Holding}
    (hh : h ∈ s.lgr.holdings) :
    (s.endHolding h).lgr.holdings.map Holding.tag = (s.lgr.holdings.map Holding.tag).filter (fun t => t != h.tag) ∧
    (s.endHolding h).lgr.holdings.length + 1 = s.lgr.holdings.length := by
  have hsame := (s.removeRecords_tags (h.streams.map HeldStream.id)).2
  have hlen := congrArg List.length hsame
  simp only [List.length_map] at hlen
  have hin : h.tag ∈ (s.removeRecords (h.streams.map HeldStream.id)).lgr.holdings.map Holding.tag :=
    hsame ▸ List.mem_map_of_mem hh
  unfold State.endHolding
  simp only
  rw [← hsame] at hs ⊢
  rw [← hlen]
  generalize (s.removeRecords (h.streams.map HeldStream.id)).lgr = l at hs hin
  obtain ⟨g, hg, hgt⟩ := List.mem_map.1 hin
  obtain ⟨x, hx⟩ : ∃ x, l.holding? h.tag = some x := by
    rw [← Option.isSome_iff_exists, Ledger.holding?, List.find?_isSome]
    exact ⟨g, hg, by simpa using hgt⟩
  have hend : (l.releaseHolding h.tag).holdings = l.holdings.eraseP (fun x => x.tag == h.tag) := by
    unfold Ledger.releaseHolding
    rw [hx]
  rw [hend]
  refine ⟨?_, ?_⟩
  · rw [eraseP_eq_filter Holding.tag h.tag _ hs, List.filter_map]
    rfl
  · have hpos := List.length_pos_of_mem hg
    rw [List.length_eraseP_of_mem hg (by simpa using hgt)]
    omega

/-- The end of a holding leaves the records in order (R51, R82). -/
theorem State.Records.endHolding {s : State} (hs : s.Records) (h : Holding) : (s.endHolding h).Records := by
  have hs1 := hs.removeRecords (h.streams.map HeldStream.id)
  unfold State.endHolding
  generalize s.removeRecords (h.streams.map HeldStream.id) = s1 at hs1 ⊢
  have hsub : (s1.lgr.releaseHolding h.tag).holdings.Sublist s1.lgr.holdings ∧
      (s1.lgr.releaseHolding h.tag).claims = s1.lgr.claims := by
    unfold Ledger.releaseHolding
    split
    · exact ⟨.refl _, rfl⟩
    · exact ⟨List.eraseP_sublist, rfl⟩
  exact hs1.map id (by simp) (fun r _ => ⟨rfl, rfl, rfl⟩) (hsub.2 ▸ hs1.claims) hsub.1 (fun _ _ _ _ _ hr => hr) hs1.roster
    hs1.link (.refl _) rfl hs1.stagedInPlace

/-- A holding taken back leaves the records in order: its own streams alone leave HELD (R80, R159). -/
theorem State.Records.reclaim {s : State} (hs : s.Records) {t : Tag} {h : Holding} (hh : s.lgr.holding? t = some h) :
    State.Records { s with
      lgr := s.lgr.convertHolding h s.streams
      streams := s.streams.map (fun (r : StreamRecord) =>
        if (h.streams.map HeldStream.id).contains r.id then r.leaveHeld else r) } := by
  have hmem : h ∈ s.lgr.holdings := List.mem_of_find?_eq_some hh
  have hleave (r : StreamRecord) : r.leaveHeld.id = r.id ∧ r.leaveHeld.owner = r.owner ∧ r.leaveHeld.channel = r.channel ∧
      (r.leaveHeld.state = .staged ↔ r.state = .staged) := by
    unfold StreamRecord.leaveHeld
    split <;> simp_all
  have hledger : (s.lgr.convertHolding h s.streams).holdings = s.lgr.holdings.eraseP (fun x => x.tag == h.tag) ∧
      ((s.lgr.convertHolding h s.streams).claims.map StationClaim.tag).Nodup := by
    unfold Ledger.convertHolding
    simp only [Ledger.update_frame, Ledger.ensure_holdings, true_and]
    exact Ledger.ensure_nodup hs.claims _
  refine hs.map _ rfl (fun r _ => ?_) hledger.2 (hledger.1 ▸ List.eraseP_sublist) (fun g hg r hr howner hrh => ?_) hs.roster
    hs.link (.refl _) rfl (fun r hr => ?_)
  · split
    · exact ⟨(hleave r).1, (hleave r).2.1, (hleave r).2.2.1⟩
    · exact ⟨rfl, rfl, rfl⟩
  · rw [hledger.1, eraseP_eq_filter Holding.tag h.tag _ hs.holdings, List.mem_filter, bne_iff_ne] at hg
    split
    · next hin =>
      have hown := (hs.held_owner hmem hr (by simpa using hin)).1
      rw [howner] at hown
      exact absurd (Party.station.inj hown) hg.2
    · exact hrh
  · rw [← hs.stagedInPlace r hr]
    split
    · exact (hleave r).2.2.2
    · exact Iff.rfl

/-! ### The roster -/

/-- An entry becomes DEPARTING in its place (R144). -/
theorem Roster.Sound.depart {r : Roster} (h : r.Sound) (number : Nat) (st : StationState) :
    (r.update number (fun x => { x with state := st })).Sound := by
  have hpair := updateFirst_map (fun (x : Station) => (x.tag, x.number)) (fun e => e.number == number)
    (fun x => { x with state := st }) (by intros; rfl) r.stations
  have htags : ((r.update number (fun x => { x with state := st })).stations).map Station.tag
      = r.stations.map Station.tag := updateFirst_map Station.tag _ _ (by intros; rfl) _
  have hnumbers : ((r.update number (fun x => { x with state := st })).stations).map Station.number
      = r.stations.map Station.number := updateFirst_map Station.number _ _ (by intros; rfl) _
  have hmem : ∀ x ∈ (r.update number (fun x => { x with state := st })).stations,
      ∃ e ∈ r.stations, e.tag = x.tag ∧ e.number = x.number := by
    intro x hx
    rcases mem_updateFirst _ _ _ hx with hx | ⟨e, he, -, rfl⟩
    · exact ⟨x, hx, rfl, rfl⟩
    · exact ⟨e, he, rfl, rfl⟩
  refine ⟨htags ▸ h.tags, hnumbers ▸ h.rising, h.known, fun x hx => ?_, fun x hx => ?_, h.lasts⟩
  · obtain ⟨e, he, -, hn⟩ := hmem x hx
    exact hn ▸ h.numbers e he
  · obtain ⟨e, he, ht, -⟩ := hmem x hx
    exact ht ▸ h.recorded e he

/-- Fewer entries are sound too. -/
theorem Roster.Sound.sublist {r : Roster} (h : r.Sound) {l : List Station} (hl : l.Sublist r.stations) (period : Nat) :
    Roster.Sound { r with stations := l, rollPeriod := period } :=
  ⟨h.tags.sublist (hl.map _), h.rising.sublist (hl.map _), h.known, fun e he => h.numbers e (hl.subset he),
    fun e he => h.recorded e (hl.subset he), h.lasts⟩

theorem State.Records.depart {s : State} (hs : s.Records) {e : Station} (cause : DepartCause) (count : Nat)
    (hstaged : ∀ r ∈ s.streams, r.owner = .station e.tag → r.state ≠ .staged) :
    State.Records { s with
      rst := s.rst.update e.number (fun x => { x with state := .departing cause count })
      streams := s.streams.map (fun r => r.depart e.tag) } := by
  have hdepart (r : StreamRecord) : (r.depart e.tag).id = r.id ∧ (r.depart e.tag).owner = r.owner ∧
      (r.depart e.tag).channel = r.channel ∧ (r.isHeld = true → (r.depart e.tag).isHeld = true) ∧
      ((r.owner = .station e.tag → r.state ≠ .staged) → ((r.depart e.tag).state = .staged ↔ r.state = .staged)) := by
    unfold StreamRecord.depart
    split
    · next h =>
      refine ⟨rfl, rfl, rfl, fun hh => absurd h.2 (StreamRecord.not_inService_of_held hh), fun hst => ?_⟩
      exact ⟨nofun, fun h' => absurd h' (hst h.1)⟩
    · exact ⟨rfl, rfl, rfl, id, fun _ => Iff.rfl⟩
  refine hs.map _ rfl (fun r _ => ⟨(hdepart r).1, (hdepart r).2.1, (hdepart r).2.2.1⟩) hs.claims (.refl _)
    (fun _ _ r _ _ hh => (hdepart r).2.2.2.1 hh) (hs.roster.depart _ _) hs.link (.refl _) rfl (fun r hr => ?_)
  rw [(hdepart r).2.2.2.2 (hstaged r hr)]
  exact hs.stagedInPlace r hr

theorem State.Records.completeDeparture {s : State} (hs : s.Records) (e : Station) : (s.completeDeparture e).Records := by
  have hledger : ((s.lgr.releaseClaim e.tag).claims.map StationClaim.tag).Nodup ∧
      (s.lgr.releaseClaim e.tag).holdings = s.lgr.holdings := by
    unfold Ledger.releaseClaim
    split
    · exact ⟨hs.claims, rfl⟩
    · exact ⟨hs.claims.sublist (eraseP_map_sublist _ _ _), rfl⟩
  unfold State.completeDeparture
  split
  · exact hs
  · refine hs.map id (by simp) (fun r _ => ⟨rfl, rfl, rfl⟩) (by simpa using hledger.1) (by simp [hledger.2])
      (fun _ _ _ _ _ hr => hr) ?_ hs.link (.refl _) rfl hs.stagedInPlace
    exact (Roster.touch_keeps _ _).sound (hs.roster.sublist List.eraseP_sublist _)

theorem Roster.touchAll_keeps (r : Roster) (l : List Station) : r.Keeps (l.foldl (fun r e => r.touch e.tag) r) := by
  induction l generalizing r with
  | nil => exact .rfl
  | cons e l ih => exact (r.touch_keeps e.tag).trans (ih _)

theorem State.clearRoster_sound {s : State} (hs : s.rst.Sound) : s.clearRoster.rst.Sound :=
  ((s.rst.touchAll_keeps s.rst.stations).sound hs).sublist (List.nil_sublist _) 0

theorem State.Records.clearRoster {s : State} (hs : s.Records) : s.clearRoster.Records :=
  hs.of_eq rfl rfl (State.clearRoster_sound hs.roster) hs.link rfl rfl rfl

/-! ### The trunk reset -/

/-- The records kept by a trunk reset are in order: a STAGED one is a host's (R79, R109). -/
theorem State.Records.atTrunkReset {s : State} (hs : s.Records) :
    State.Records { s with streams := s.streams.map StreamRecord.atTrunkReset } := by
  have hkept (r : StreamRecord) : r.atTrunkReset.id = r.id ∧ r.atTrunkReset.owner = r.owner ∧
      r.atTrunkReset.channel = r.channel ∧ (r.isHeld = true → r.atTrunkReset.isHeld = true) ∧
      (r.atTrunkReset.state = .staged ↔ r.state = .staged) := by
    unfold StreamRecord.atTrunkReset
    split
    · split
      · next hin =>
        refine ⟨rfl, rfl, rfl, fun _ => rfl, nofun, fun h => ?_⟩
        simp [StreamRecord.inService, h] at hin
      · exact ⟨rfl, rfl, rfl, id, Iff.rfl⟩
    · split
      · next h => exact ⟨rfl, rfl, rfl, by simp [StreamRecord.isHeld, h], by simp [h]⟩
      · next h => exact ⟨rfl, rfl, rfl, by simp [StreamRecord.isHeld, h], by simp [h]⟩
      · exact ⟨rfl, rfl, rfl, id, Iff.rfl⟩
  refine hs.map _ rfl (fun r _ => ⟨(hkept r).1, (hkept r).2.1, (hkept r).2.2.1⟩) hs.claims (.refl _)
    (fun _ _ r _ _ hh => (hkept r).2.2.2.1 hh) hs.roster hs.link (.refl _) rfl (fun r hr => ?_)
  rw [(hkept r).2.2.2.2]
  exact hs.stagedInPlace r hr

/-- Where fewer than 32 tags are touched, a conversion finds room for its new holding (R153). -/
theorem State.Records.makeRoom {s : State} (hs : s.Records) {touched : List Tag} (ht : touched.length < Config.holdingRoom) :
    (s.makeRoom touched).Records ∧ (s.makeRoom touched).lgr.holdings.length < Config.holdingRoom ∧
    ∀ g ∈ (s.makeRoom touched).lgr.holdings, ∃ h ∈ s.lgr.holdings, h.tag = g.tag := by
  unfold State.makeRoom
  split
  · next h => exact ⟨hs, h, fun g hg => ⟨g, hg, rfl⟩⟩
  · next hfull =>
    split
    · next hnone =>
      have hsub : s.lgr.holdings.map Holding.tag ⊆ touched := by
        intro t hmem
        obtain ⟨h, hh, rfl⟩ := List.mem_map.1 hmem
        simpa using List.find?_eq_none.1 hnone h hh
      have hle := (List.subperm_of_subset hs.holdings hsub).length_le
      rw [List.length_map] at hle
      omega
    · next h hh =>
      have hmem : h ∈ s.lgr.holdings := List.mem_of_find?_eq_some hh
      have hs' := hs.endHolding h
      refine ⟨hs'.of_eq rfl rfl hs'.roster hs'.link rfl rfl rfl, ?_⟩
      obtain ⟨htags, hlen⟩ := State.endHolding_tags hs.holdings hmem
      have hroom := hs.room
      refine ⟨?_, fun g hg => ?_⟩
      · show (s.endHolding h).lgr.holdings.length < _
        omega
      · have : g.tag ∈ (s.endHolding h).lgr.holdings.map Holding.tag := List.mem_map_of_mem hg
        rw [htags] at this
        exact List.mem_map.1 (List.mem_filter.1 this).1

/-- The streams that a tag's holding comes to list are the tag's HELD ones (R152). -/
theorem mem_heldList {streams : List StreamRecord} {t : Tag} {old : List HeldStream} {x : HeldStream}
    (hx : x ∈ heldList streams t old) : ∃ r ∈ streams, r.id = x.id ∧ r.owner = .station t ∧ r.isHeld = true := by
  obtain ⟨r, hr, rfl⟩ := List.mem_map.1 hx
  obtain ⟨hmem, hcond⟩ := List.mem_filter.1 hr
  simp only [Bool.and_eq_true, beq_iff_eq] at hcond
  refine ⟨r, hmem, ?_, hcond.2, hcond.1⟩
  cases hfind : old.find? (fun x => x.id == r.id) with
  | none => rfl
  | some y =>
    have hy := List.find?_some hfind
    simpa using (eq_of_beq hy).symm

theorem State.Records.newHolding {s : State} (hs : s.Records) {t : Tag} (a : Account)
    (hroom : s.lgr.holdings.length < Config.holdingRoom) (hnone : ∀ h ∈ s.lgr.holdings, h.tag ≠ t) :
    (s.newHolding t a).Records := by
  refine ⟨hs.claims.sublist (eraseP_map_sublist _ _ _), ?_, hs.roster, hs.link, hs.positioned, hs.channelsApart,
    fun h hh x hx => ?_, hs.editsInPlace, hs.stagedInPlace, ?_⟩
  · simp only [State.newHolding, List.map_append, List.map_cons, List.map_nil]
    exact List.Nodup.append hs.holdings (List.nodup_singleton _) (by simpa using hnone)
  · rcases List.mem_append.1 hh with hh | hh
    · exact hs.heldInPlace h hh x hx
    · obtain rfl := List.mem_singleton.1 hh
      exact mem_heldList hx
  · simpa [State.newHolding] using hroom

theorem State.Records.mergeHolding {s : State} (hs : s.Records) (t : Tag) (a : Account) :
    (s.mergeHolding t a).Records := by
  refine ⟨hs.claims.sublist (eraseP_map_sublist _ _ _), ?_, hs.roster, hs.link, hs.positioned, hs.channelsApart,
    fun h hh x hx => ?_, hs.editsInPlace, hs.stagedInPlace, ?_⟩
  · show ((updateFirst _ _ s.lgr.holdings).map Holding.tag).Nodup
    rw [updateFirst_map Holding.tag _ _ (by intros; rfl)]
    exact hs.holdings
  · rcases mem_updateFirst _ _ _ hh with hh | ⟨g, hg, hgt, rfl⟩
    · exact hs.heldInPlace h hh x hx
    · have := mem_heldList hx
      rwa [← eq_of_beq hgt] at this
  · simpa [State.mergeHolding] using hs.room

/-- The conversions of claim records, each of a tag that is touched then (R151 to R153). -/
theorem State.Records.convertFold (tags : List Tag) {s : State} (hs : s.Records) (touched : List Tag)
    (hlen : touched.length + tags.length < Config.holdingRoom) : (tags.foldl State.convertClaim (s, touched)).1.Records := by
  induction tags generalizing s touched with
  | nil => exact hs
  | cons t tags ih =>
    rw [List.length_cons] at hlen
    rw [List.foldl_cons]
    have hone : (State.convertClaim (s, touched) t).1.Records ∧
        (State.convertClaim (s, touched) t).2.length ≤ touched.length + 1 := by
      unfold State.convertClaim
      simp only
      split
      · exact ⟨hs, Nat.le_succ _⟩
      · exact ⟨hs.mergeHolding t _, le_rfl⟩
      · next hnone =>
        obtain ⟨hs', hroom, htags⟩ := hs.makeRoom (touched := touched) (by omega)
        refine ⟨hs'.newHolding _ hroom (fun g hg heq => ?_), le_rfl⟩
        obtain ⟨h, hh, htag⟩ := htags g hg
        have : ∀ h ∈ s.lgr.holdings, h.tag ≠ t := by simpa [Ledger.holding?] using hnone
        exact this h hh (htag.trans heq)
    have hle := hone.2
    exact ih hone.1 _ (lt_of_le_of_lt (Nat.add_le_add_right hle _) (by omega))

/-- Fewer than 32 stations stand in the roster (R141, R153). -/
theorem State.Records.presentTags_room {s : State} (hs : s.Records) : s.rst.presentTags.length < Config.holdingRoom := by
  have hle : s.rst.presentTags.length ≤ s.rst.stations.length := by
    unfold Roster.presentTags
    rw [List.length_map]
    exact List.length_filter_le _ _
  exact (hle.trans hs.roster.length_le).trans_lt (by decide)

theorem State.Records.restart {s : State} (hs : s.Records) : s.restart.Records := by
  have hkept := hs.atTrunkReset
  have htags := hs.presentTags_room
  have hdone : (State.convertClaims { s with streams := s.streams.map StreamRecord.atTrunkReset }
      s.rst.presentTags).Records := hkept.convertFold _ [] (by simpa using htags)
  unfold State.restart
  simp only
  generalize State.convertClaims { s with streams := s.streams.map StreamRecord.atTrunkReset } s.rst.presentTags = u at hdone ⊢
  have hopen : u.openWindow.Records := hdone.of_eq (by simp) (by simp) (by simpa using hdone.roster)
    (by simpa using hdone.link) (by simp) (by simp) (by simp)
  exact hopen.clearRoster.of_eq rfl rfl hopen.clearRoster.roster hopen.clearRoster.link rfl rfl rfl

/-! ### The records, through each elementary change -/

theorem State.Records.put {s : State} (hs : s.Records) {r q : StreamRecord} (hr : r ∈ s.streams) (hk : r.Keeps q) :
    (s.putStream q).Records := by
  have hunique : ∀ x ∈ s.streams, x.id = q.id → x = r := fun x hx h => hs.unique hr hx (h.trans hk.id)
  refine hs.map _ (State.putStream_map hs.positioned.nodup q) (fun x hx => ?_) hs.claims (.refl _)
    (fun _ _ x hx _ hh => ?_) hs.roster hs.link (.refl _) rfl (fun x hx => ?_)
  · split
    · next h => rw [hunique x hx h]; exact ⟨hk.id, hk.owner, hk.channel⟩
    · exact ⟨rfl, rfl, rfl⟩
  · split
    · next h => rw [hk.held, ← hunique x hx h]; exact hh
    · exact hh
  · rw [State.putStream_stg, ← hs.stagedInPlace x hx]
    split
    · next h => rw [hk.staged, hunique x hx h]
    · exact Iff.rfl

/-- The records stay in order through every elementary change. -/
theorem State.Act.records_closed {commits : Prop} : State.Act.Closed True commits := by
  intro s t h hs _
  have hs := hs trivial
  cases h with
  | link hk => exact hs.of_eq rfl rfl hs.roster (hk.keyed hs.link) rfl rfl rfl
  | roster hk => exact hs.of_eq rfl rfl (hk.sound hs.roster) hs.link rfl rfl rfl
  | put hr hk => exact hs.put hr hk
  | remove id => exact hs.removeRecord id
  | commit _ hedits => exact hs.commitEdit _ hedits
  | drop he => exact hs.dropEdit (he trivial)
  | stage hf hr hl => exact hs.stage hf hr hl
  | admitStream _ hf hl => exact hs.admitStream hf hl
  | units rights e n _ => exact hs.of_ledger (Ledger.exchangeUnits_keyed hs.keyed _ _ _ _ _)
  | channels rights e n _ => exact hs.of_ledger (Ledger.exchangeChannels_keyed hs.keyed _ _ _ _)
  | endHolding _ => exact hs.endHolding _
  | reclaim _ hh => exact hs.reclaim hh
  | depart hd => exact hs.depart _ _ (hd trivial).2
  | complete _ _ => exact hs.completeDeparture _
  | clear _ => exact hs.clearRoster
  | restart _ => exact hs.restart
  | configure _ _ => exact hs.of_eq rfl rfl hs.roster hs.link rfl rfl rfl
  | @reset cfg rate _ =>
    refine ⟨List.nodup_nil, List.nodup_nil, ⟨List.nodup_nil, .nil, List.nodup_nil, nofun, nofun, nofun⟩, List.nodup_nil,
      ⟨.nil, nofun⟩, List.nodup_nil, nofun, ⟨Nat.zero_le _, List.nodup_nil, nofun, ?_, ?_⟩, nofun, Nat.zero_le _⟩
    · exact List.nodup_singleton _
    · simp [State.atReset, Staging.atReset]
  | _ => exact hs.of_eq rfl rfl hs.roster hs.link rfl rfl rfl

/-- The records in order, as the statements have them. -/
theorem State.records_iff (s : State) :
    s.Records ↔ s.keyed ∧ s.positioned ∧ s.channelsApart ∧ s.heldInPlace ∧ s.editsInPlace ∧ s.stagedInPlace ∧
      s.rosterInPlace ∧ s.lgr.holdings.length ≤ 32 := by
  constructor
  · intro hs
    exact ⟨⟨hs.claims, hs.holdings, hs.roster.tags, hs.roster.numbers_nodup, hs.roster.known, hs.link⟩, hs.positioned,
      hs.channelsApart, hs.heldInPlace, hs.editsInPlace, hs.stagedInPlace,
      ⟨hs.roster.rising, fun e he => ⟨hs.roster.numbers e he, hs.roster.recorded e he⟩, hs.roster.lasts⟩, hs.room⟩
  · rintro ⟨⟨hclaims, hholdings, htags, -, hknown, hlink⟩, hpos, hch, hheld, hedits, hstaged, ⟨hrising, hstations, hlasts⟩, hroom⟩
    exact ⟨hclaims, hholdings, ⟨htags, hrising, hknown, fun e he => (hstations e he).1, fun e he => (hstations e he).2, hlasts⟩,
      hlink, hpos, hch, hheld, hedits, hstaged, hroom⟩

/-- A step leaves the records in order. -/
theorem step_records {s t : State} (hs : s.Records) (h : step s = .next t) : t.Records := by
  rcases step_leads (sound := True) trivial h with rfl | ⟨rest, hleads⟩
  · exact hs
  · have hs' : State.Records { s with pending := rest } := hs.of_eq rfl rfl hs.roster hs.link rfl rfl rfl
    exact State.Leads.records State.Act.records_closed (hleads State.Act.records_closed (fun _ => hs')) (fun _ => hs') trivial

end Sys2Proof.Machine
end

section
/-! SUPPORT. The edits pending against the records' pending resize units, and the claim records against the roster, through
each elementary change (R37, R65, R74, R89, R96, R132). -/

namespace Sys2Proof.Machine

variable {commits strict : Prop}

/-! ### Pending resizes -/

/-- An edit pending for a record: the record is not HELD, and a RESIZE compares its units with the record's (R89). -/
def Edit.fits (e : Edit) (r : StreamRecord) : Prop :=
  r.isHeld = false ∧ ∀ units ∈ e.op.resizedTo,
    e.op = .resize units (if r.units < units then .up else if units < r.units then .down else .same)

/-- Edits fit their records, and each record's pending resize units are those of the edit pending for it; where `strict`
is not true, a RETIRING record may still hold those of an edit that a commit has found stale. -/
structure State.Resized (strict : Prop) (s : State) : Prop where
  fits : ∀ r ∈ s.streams, ∀ e ∈ s.stg.edits, e.stream = r.id → e.fits r
  pending : ∀ r ∈ s.streams, ∀ e ∈ s.stg.edits, e.stream = r.id → r.pendingResize = e.op.resizedTo
  idle : ∀ r ∈ s.streams, (strict ∨ r.isRetiring = false) → (∀ e ∈ s.stg.edits, e.stream ≠ r.id) → r.pendingResize = none

theorem State.resizesInPlace_iff {s : State} (hs : s.Records) : s.resizesInPlace ↔ s.Resized True := by
  have hfind (r : StreamRecord) : (∀ e ∈ s.stg.edits, e.stream = r.id →
      s.stg.edits.find? (fun e => e.stream == r.id) = some e) ∧
      ((∀ e ∈ s.stg.edits, e.stream ≠ r.id) ↔ s.stg.edits.find? (fun e => e.stream == r.id) = none) := by
    refine ⟨fun e he hid => ?_, by simp⟩
    rw [← hid]
    exact find?_of_mem Edit.stream e _ hs.editsInPlace.2.1 he
  constructor
  · intro h
    refine ⟨fun r hr e he hid => (h r hr).2 e he hid, fun r hr e he hid => ?_, fun r hr _ hnone => ?_⟩
    · rw [(h r hr).1, (hfind r).1 e he hid]; rfl
    · rw [(h r hr).1, (hfind r).2.1 hnone]; rfl
  · intro h r hr
    refine ⟨?_, fun e he hid => h.fits r hr e he hid⟩
    by_cases hany : ∃ e ∈ s.stg.edits, e.stream = r.id
    · obtain ⟨e, he, hid⟩ := hany
      rw [(hfind r).1 e he hid]
      exact h.pending r hr e he hid
    · have hnone : ∀ e ∈ s.stg.edits, e.stream ≠ r.id := fun e he hid => hany ⟨e, he, hid⟩
      rw [(hfind r).2.1 hnone]
      exact h.idle r hr (.inl trivial) hnone

/-- A record that is not in service, RETIRING or HELD is STAGED (R66). -/
theorem StreamRecord.staged_of_other {r : StreamRecord} (hin : ¬ r.inService = true) (hret : r.isRetiring = false)
    (hheld : r.isHeld = false) : r.state = .staged := by
  unfold StreamRecord.inService at hin
  unfold StreamRecord.isRetiring at hret
  unfold StreamRecord.isHeld at hheld
  cases hs : r.state <;> simp [hs] at hin hret hheld
  rfl

/-- A record in its own place is no change. -/
theorem State.Records.map_self {s : State} (hs : s.Records) {r : StreamRecord} (hr : r ∈ s.streams) :
    s.streams.map (fun x => if x.id = r.id then r else x) = s.streams := by
  conv_rhs => rw [← List.map_id s.streams]
  refine List.map_congr_left (fun x hx => ?_)
  split
  · next h => exact (hs.unique hr hx h).symm
  · rfl

/-- With no RETIRING record there is nothing that a commit has found stale. -/
theorem State.Resized.of_clean {s : State} (h : s.Resized False) (hclean : ∀ r ∈ s.streams, r.isRetiring = false) :
    s.Resized strict :=
  ⟨h.fits, h.pending, fun r hr _ => h.idle r hr (.inr (hclean r hr))⟩

/-- Records change in place, and the list stays. -/
theorem State.Resized.map {s t : State} (h : s.Resized strict) (f : StreamRecord → StreamRecord)
    (hstreams : t.streams = s.streams.map f) (hedits : t.stg.edits = s.stg.edits)
    (hkeep : ∀ r ∈ s.streams, (f r).id = r.id ∧ (f r).units = r.units ∧ (f r).pendingResize = r.pendingResize)
    (hheld : ∀ r ∈ s.streams, ∀ e ∈ s.stg.edits, e.stream = r.id → r.isHeld = false → (f r).isHeld = false)
    (hretiring : ∀ r ∈ s.streams, r.isRetiring = true → (f r).isRetiring = true) : t.Resized strict := by
  have hstrict (r : StreamRecord) (hr : r ∈ s.streams) : (strict ∨ (f r).isRetiring = false) → strict ∨ r.isRetiring = false := by
    refine Or.imp_right (fun hf => ?_)
    by_contra hret
    rw [hretiring r hr (by simpa using hret)] at hf
    exact absurd hf nofun
  constructor
  · rw [hstreams, hedits, List.forall_mem_map]
    intro r hr e he hid
    obtain ⟨hid', hunits, -⟩ := hkeep r hr
    rw [hid'] at hid
    obtain ⟨hfree, hdir⟩ := h.fits r hr e he hid
    exact ⟨hheld r hr e he hid hfree, by rwa [hunits]⟩
  · rw [hstreams, hedits, List.forall_mem_map]
    intro r hr e he hid
    obtain ⟨hid', -, hpending⟩ := hkeep r hr
    rw [hpending]
    exact h.pending r hr e he (hid' ▸ hid)
  · rw [hstreams, hedits, List.forall_mem_map]
    intro r hr hs' hnone
    obtain ⟨hid', -, hpending⟩ := hkeep r hr
    rw [hpending]
    exact h.idle r hr (hstrict r hr hs') (hid' ▸ hnone)

/-- The other blocks change. -/
theorem State.Resized.of_eq {s t : State} (h : s.Resized strict) (hstreams : t.streams = s.streams)
    (hedits : t.stg.edits = s.stg.edits) : t.Resized strict :=
  h.map id (by simpa using hstreams) hedits (fun _ _ => ⟨rfl, rfl, rfl⟩) (fun _ _ _ _ _ h => h) (fun _ _ h => h)

/-- A record goes, with the edit for it. -/
theorem State.Resized.removeRecord {s : State} (h : s.Resized strict) (hs : s.Records) (id : Nat) :
    (s.removeRecord id).Resized strict := by
  have hin (r : StreamRecord) : r ∈ (s.removeRecord id).streams ↔ r ∈ s.streams ∧ r.id ≠ id := by
    rw [State.removeRecord_streams hs.positioned.nodup, List.mem_filter, bne_iff_ne]
  have hleft {e : Edit} (he : e ∈ (s.removeRecord id).stg.edits) : e ∈ s.stg.edits := by
    rw [s.removeRecord_edits] at he
    exact (List.mem_filter.1 he).1
  have hkept {e : Edit} (he : e ∈ s.stg.edits) (hne : e.stream ≠ id) : e ∈ (s.removeRecord id).stg.edits := by
    rw [s.removeRecord_edits]
    exact List.mem_filter.2 ⟨he, by simp [hne]⟩
  constructor
  · exact fun r hr e he hid => h.fits r ((hin r).1 hr).1 e (hleft he) hid
  · exact fun r hr e he hid => h.pending r ((hin r).1 hr).1 e (hleft he) hid
  · intro r hr hs' hnone
    obtain ⟨hr, hne⟩ := (hin r).1 hr
    exact h.idle r hr hs' (fun e he hid => hnone e (hkept he (hid ▸ hne)) hid)

/-- An edit goes, and its record's pending resize units with it. -/
theorem State.Resized.without {s t : State} (h : s.Resized strict) (hs : s.Records) {e : Edit} (he : e ∈ s.stg.edits)
    {q : StreamRecord} (hqid : q.id = e.stream)
    (hstreams : t.streams = s.streams.map (fun r => if r.id = e.stream then q else r))
    (hq : (strict ∨ q.isRetiring = false) → q.pendingResize = none)
    (hedits : t.stg.edits = s.stg.edits.filter (fun x => x.number != e.number)) : t.Resized strict := by
  have hleft {x : Edit} (hx : x ∈ t.stg.edits) : x ∈ s.stg.edits ∧ x.stream ≠ e.stream := by
    rw [hedits, List.mem_filter, bne_iff_ne] at hx
    exact ⟨hx.1, fun hsame => hx.2 (hs.edit_unique he hx.1 hsame ▸ rfl)⟩
  have hkept {x : Edit} (hx : x ∈ s.stg.edits) (hne : x.stream ≠ e.stream) : x ∈ t.stg.edits := by
    rw [hedits, List.mem_filter, bne_iff_ne]
    exact ⟨hx, fun hsame => hne (hs.edit_number he hx hsame ▸ rfl)⟩
  constructor
  · rw [hstreams, List.forall_mem_map]
    intro r hr x hx hid
    obtain ⟨hx, hne⟩ := hleft hx
    split at hid
    · exact absurd (hid.trans hqid) hne
    · next hr' => rw [if_neg hr']; exact h.fits r hr x hx hid
  · rw [hstreams, List.forall_mem_map]
    intro r hr x hx hid
    obtain ⟨hx, hne⟩ := hleft hx
    split at hid
    · exact absurd (hid.trans hqid) hne
    · next hr' =>
      rw [if_neg hr']
      exact h.pending r hr x hx hid
  · rw [hstreams, List.forall_mem_map]
    intro r hr hs' hnone
    split
    · next hr' => rw [if_pos hr'] at hs'; exact hq hs'
    · next hr' =>
      rw [if_neg hr'] at hs' hnone
      exact h.idle r hr hs' (fun x hx hid => hnone x (hkept hx (hid ▸ hr')) hid)

/-- The edit of a record, dropped or withdrawn, leaves it without pending resize units (R106). -/
theorem State.Resized.dropEdit {s : State} (h : s.Resized strict) (hs : s.Records) {e : Edit} (he : e ∈ s.stg.edits) :
    (s.dropEdit e).Resized strict := by
  obtain ⟨r, hr⟩ := Option.isSome_iff_exists.1 (hs.editsInPlace.2.2.1 e he)
  obtain ⟨hmem, hid⟩ := State.stream?_some hr
  have hr' : State.stream? { s with stg := { s.stg with
      edits := s.stg.edits.filter (fun x => x.number != e.number) } } e.stream = some r := hr
  have hplain (hop : e.op.resizedTo = none) : State.Resized strict { s with stg := { s.stg with
      edits := s.stg.edits.filter (fun x => x.number != e.number) } } :=
    h.without hs he hid (hid ▸ (hs.map_self hmem).symm) (fun _ => (h.pending r hmem e he hid.symm).trans hop) rfl
  unfold State.dropEdit State.undoEdit
  rw [hr']
  cases hop : e.op with
  | admitStream a =>
    have hedits : (s.stg.edits.filter (fun x => x.number != e.number)).filter (fun x => x.stream != e.stream) =
        s.stg.edits.filter (fun x => x.stream != e.stream) := by
      rw [List.filter_filter]
      refine List.filter_congr (fun x hx => ?_)
      by_cases hxe : x.stream = e.stream
      · simp [hxe]
      · have : x.number ≠ e.number := fun h => hxe (hs.edit_number he hx h ▸ rfl)
        simp [hxe, this]
    simp only [hid]
    rw [State.removeRecord_withoutEdit hr hedits]
    exact h.removeRecord hs _
  | resize units direction =>
    have hput : (State.putStream { s with stg := { s.stg with
        edits := s.stg.edits.filter (fun x => x.number != e.number) } } { r with pendingResize := none }).Resized strict := by
      refine h.without hs he (q := { r with pendingResize := none }) hid ?_ (fun _ => rfl) rfl
      rw [← hid]
      exact State.putStream_map (s := s) hs.positioned.nodup { r with pendingResize := none }
    simp only
    split
    · exact hput.of_eq rfl rfl
    · exact hput
  | retire => exact hplain (by rw [hop]; rfl)
  | suspend => exact hplain (by rw [hop]; rfl)
  | resume => exact hplain (by rw [hop]; rfl)

/-- An edit committed leaves its record without pending resize units, but for a RETIRING one whose edit is stale (R101). -/
theorem State.Resized.commitEdit {s : State} (h : s.Resized False) (hs : s.Records) (n : Cycle) {e : Edit}
    {rest : List Edit} (hedits : s.stg.edits = e :: rest) :
    (State.commitEdit { s with stg := { s.stg with edits := rest } } n e).1.Resized False := by
  have he : e ∈ s.stg.edits := hedits ▸ List.mem_cons_self
  have hrest : rest = s.stg.edits.filter (fun x => x.number != e.number) := hs.rest_eq hedits
  obtain ⟨r, hr⟩ := Option.isSome_iff_exists.1 (hs.editsInPlace.2.2.1 e he)
  obtain ⟨hmem, hid⟩ := State.stream?_some hr
  set s1 : State := { s with stg := { s.stg with edits := rest } } with hs1
  have hr1 : s1.stream? e.stream = some r := hr
  have hput (q : StreamRecord) (l : Ledger) (hqid : q.id = r.id) (hq : q.isRetiring = false → q.pendingResize = none) :
      State.Resized False { s1.putStream q with lgr := l } := by
    refine h.without hs he (q := q) (hqid.trans hid) ?_ (fun hst => hq (hst.resolve_left id)) hrest
    have hmap := State.putStream_map (s := s1) hs.positioned.nodup q
    rw [hqid, hid] at hmap
    exact hmap
  have hnone (hop : r.isRetiring = false → r.pendingResize = none) : s1.Resized False :=
    h.without hs he hid (hid ▸ (hs.map_self hmem).symm) (fun hst => hop (hst.resolve_left id)) hrest
  have hpending : r.pendingResize = e.op.resizedTo := h.pending r hmem e he hid.symm
  have hheld : r.isHeld = false := (h.fits r hmem e he hid.symm).1
  have hstale (hin : ¬ r.inService = true) (hst : r.state ≠ .staged) : s1.Resized False :=
    hnone (fun hret => absurd (StreamRecord.staged_of_other hin hret hheld) hst)
  have hadmitted (hne : e.op.kind ≠ .admitStream) : r.state ≠ .staged := by
    rw [Ne, hs.stagedInPlace r hmem]
    rintro ⟨x, hx, hxs, hk⟩
    exact hne (hs.edit_unique he hx (hxs.trans hid) ▸ hk)
  unfold State.commitEdit
  rw [hr1]
  cases hop : e.op with
  | admitStream a =>
    have hst : r.state = .staged := (hs.stagedInPlace r hmem).2 ⟨e, he, hid.symm, by rw [hop]; rfl⟩
    simp only [hst, if_true]
    exact hput { r with state := _ } s.lgr rfl (fun _ => by
      show r.pendingResize = none
      rw [hpending, hop]
      rfl)
  | retire =>
    simp only
    split
    · rw [hid, State.removeRecord_withoutEdit hr (by rw [hedits, List.filter_cons_of_neg (by simp)])]
      exact h.removeRecord hs _
    · next hin => exact hstale hin (hadmitted (by rw [hop]; simp [EditOp.kind]))
  | resize units direction =>
    simp only
    split
    · split
      · exact hput { r with units := units, pendingResize := none } _ rfl (fun _ => rfl)
      · exact hput { r with units := units, pendingResize := none } s.lgr rfl (fun _ => rfl)
    · next hin => exact hstale hin (hadmitted (by rw [hop]; simp [EditOp.kind]))
  | suspend =>
    simp only
    split
    · next hin =>
      refine hput { r with state := _, restoreMark := _ } s.lgr rfl (fun _ => ?_)
      show r.pendingResize = none
      rw [hpending, hop]
      rfl
    · next hin => exact hstale hin (hadmitted (by rw [hop]; simp [EditOp.kind]))
  | resume =>
    simp only
    split
    · next c hst =>
      have hnot : r.pendingResize = none := by
        rw [hpending, hop]
        rfl
      split
      · exact hput { r with state := _, vacantRun := _, overlongRun := _ } s.lgr rfl (fun _ => hnot)
      · exact hput { r with state := _ } s.lgr rfl (fun _ => hnot)
    · refine hnone (fun _ => ?_)
      rw [hpending, hop]
      rfl

end Sys2Proof.Machine
end

section
/-! SUPPORT. The pending resizes through the acceptance of edits and through each elementary change; the claim records
against the roster (R37, R65, R74, R89, R96, R132). -/

namespace Sys2Proof.Machine

variable {commits strict : Prop}

/-- The state that an edit is admitted in is LIVE, WAITING_START or SUSPENDED (R94). -/
theorem stateAdmits_inService {kind : Kind} {r : StreamRecord} (h : stateAdmits kind r.state = true) :
    r.inService = true ∧ r.isHeld = false := by
  unfold StreamRecord.inService StreamRecord.isHeld
  unfold stateAdmits at h
  cases hs : r.state <;> cases kind <;> simp_all

/-- What an edit does to its stream's units, and the pending resize units it leaves (R89, R96). -/
theorem editOpFor_staged (kind : Kind) (r : StreamRecord) (units : Nat) :
    (∀ u ∈ (editOpFor kind r units).resizedTo, editOpFor kind r units =
      .resize u (if r.units < u then .up else if u < r.units then .down else .same)) ∧
    (r.pendingResize = none → (r.staged (editOpFor kind r units)).pendingResize = (editOpFor kind r units).resizedTo) ∧
    (r.staged (editOpFor kind r units)).units = r.units ∧ (r.staged (editOpFor kind r units)).isHeld = r.isHeld ∧
    (r.staged (editOpFor kind r units)).id = r.id ∧ (r.staged (editOpFor kind r units)).owner = r.owner ∧
    (r.staged (editOpFor kind r units)).channel = r.channel ∧
    (r.staged (editOpFor kind r units)).isRetiring = r.isRetiring := by
  unfold editOpFor
  split <;> simp +contextual [StreamRecord.staged, EditOp.resizedTo, StreamRecord.isHeld, StreamRecord.isRetiring]

theorem State.Resized.stage {s : State} (h : s.Resized strict) (hs : s.Records) {kind : Kind} {p : Party} {id units : Nat}
    {r : StreamRecord} {l : Ledger} (hf : s.editFailure kind p id units = none) (hr : s.stream? id = some r) :
    (State.acceptEdit (State.putStream { s with lgr := l } (r.staged (editOpFor kind r units))) p
      (editOpFor kind r units) id).Resized strict := by
  obtain ⟨hadmits, hfresh⟩ := State.editFailure_state hf hr
  obtain ⟨hmem, hid⟩ := State.stream?_some hr
  obtain ⟨hdir, hpending, hunits, hheld, hid', -⟩ := editOpFor_staged kind r units
  obtain ⟨hin, hfree⟩ := stateAdmits_inService hadmits
  obtain ⟨op, hop⟩ : ∃ op, op = editOpFor kind r units := ⟨_, rfl⟩
  rw [← hop] at hdir hpending hunits hheld hid' ⊢
  have hstreams : (State.acceptEdit (State.putStream { s with lgr := l } (r.staged op)) p op id).streams =
      s.streams.map (fun x => if x.id = (r.staged op).id then r.staged op else x) :=
    State.putStream_map (s := { s with lgr := l }) hs.positioned.nodup _
  have hedits (e : Edit) : e ∈ (State.acceptEdit (State.putStream { s with lgr := l } (r.staged op)) p op id).stg.edits ↔
      e ∈ s.stg.edits ∨ e = ⟨s.stg.next, p, op, id, s.csq.cycleNumber⟩ := by
    simp [State.acceptEdit]
  have hnone : r.pendingResize = none :=
    h.idle r hmem (.inr (StreamRecord.not_retiring_of_inService hin)) (fun e he => hid ▸ hfresh e he)
  constructor
  · rw [hstreams, List.forall_mem_map]
    intro x hx e he heid
    split at heid
    · next hx' =>
      rw [if_pos hx']
      rcases (hedits e).1 he with he | rfl
      · exact absurd (heid.trans (hid'.trans hid)) (hfresh e he)
      · exact ⟨hheld.trans hfree, by rw [hunits]; exact hdir⟩
    · next hx' =>
      rw [if_neg hx']
      rcases (hedits e).1 he with he | rfl
      · exact h.fits x hx e he heid
      · exact absurd (heid.symm.trans (hid.symm.trans hid'.symm)) hx'
  · rw [hstreams, List.forall_mem_map]
    intro x hx e he heid
    split at heid
    · next hx' =>
      rw [if_pos hx']
      rcases (hedits e).1 he with he | rfl
      · exact absurd (heid.trans (hid'.trans hid)) (hfresh e he)
      · exact hpending hnone
    · next hx' =>
      rw [if_neg hx']
      rcases (hedits e).1 he with he | rfl
      · exact h.pending x hx e he heid
      · exact absurd (heid.symm.trans (hid.symm.trans hid'.symm)) hx'
  · rw [hstreams, List.forall_mem_map]
    intro x hx hst hno
    split
    · next hx' =>
      rw [if_pos hx'] at hno
      exact absurd (hid.symm.trans hid'.symm) (hno _ ((hedits _).2 (.inr rfl)))
    · next hx' =>
      rw [if_neg hx'] at hst hno
      exact h.idle x hx hst (fun e he => hno e ((hedits e).2 (.inl he)))

theorem State.Resized.admitStream {s : State} (h : s.Resized strict) (hs : s.Records) {p : Party} {a : AdmitRequest}
    {l : Ledger} (hf : s.admitFailure p a = none) :
    (State.acceptEdit (State.addRecord { s with lgr := l } (newRecord (s.lowestFree.getD 0) (admitArgs p a))) p
      (.admitStream (admitArgs p a)) (s.lowestFree.getD 0)).Resized strict := by
  obtain ⟨⟨-, hfree⟩, -⟩ := State.admitFailure_free hf
  generalize s.lowestFree.getD 0 = id at *
  have hstreams (r : StreamRecord) : r ∈ (State.acceptEdit (State.addRecord { s with lgr := l }
      (newRecord id (admitArgs p a))) p (.admitStream (admitArgs p a)) id).streams ↔
      r = newRecord id (admitArgs p a) ∨ r ∈ s.streams := by simp
  have hedits (e : Edit) : e ∈ (State.acceptEdit (State.addRecord { s with lgr := l }
      (newRecord id (admitArgs p a))) p (.admitStream (admitArgs p a)) id).stg.edits ↔
      e ∈ s.stg.edits ∨ e = ⟨s.stg.next, p, .admitStream (admitArgs p a), id, s.csq.cycleNumber⟩ := by
    simp [State.acceptEdit]
  have hfresh : ∀ e ∈ s.stg.edits, e.stream ≠ id := by
    intro e he hsame
    obtain ⟨r, hr, hrid⟩ := State.stream?_isSome.1 (hs.editsInPlace.2.2.1 e he)
    exact hfree r hr (hrid.trans hsame)
  constructor
  · intro r hr e he heid
    rcases (hstreams r).1 hr with rfl | hr <;> rcases (hedits e).1 he with he | rfl
    · exact absurd heid (hfresh e he)
    · exact ⟨rfl, nofun⟩
    · exact h.fits r hr e he heid
    · exact absurd heid.symm (hfree r hr)
  · intro r hr e he heid
    rcases (hstreams r).1 hr with rfl | hr <;> rcases (hedits e).1 he with he | rfl
    · exact absurd heid (hfresh e he)
    · rfl
    · exact h.pending r hr e he heid
    · exact absurd heid.symm (hfree r hr)
  · intro r hr hst hno
    rcases (hstreams r).1 hr with rfl | hr
    · rfl
    · exact h.idle r hr hst (fun e he => hno e ((hedits e).2 (.inl he)))

/-- What a saved state returns to is neither HELD nor RETIRING (R80). -/
theorem StreamRecord.leaveHeld_plain (r : StreamRecord) : r.leaveHeld.id = r.id ∧ r.leaveHeld.owner = r.owner ∧
    r.leaveHeld.channel = r.channel ∧ r.leaveHeld.units = r.units ∧ r.leaveHeld.pendingResize = r.pendingResize ∧
    r.leaveHeld.isHeld = false ∧ r.leaveHeld.isRetiring = r.isRetiring := by
  unfold StreamRecord.leaveHeld StreamRecord.isHeld StreamRecord.isRetiring
  cases hst : r.state with
  | held v => cases v <;> simp
  | _ => simp [hst]

theorem StreamRecord.depart_plain (r : StreamRecord) (t : Tag) : (r.depart t).id = r.id ∧ (r.depart t).owner = r.owner ∧
    (r.depart t).channel = r.channel ∧ (r.depart t).units = r.units ∧ (r.depart t).pendingResize = r.pendingResize ∧
    (r.depart t).isHeld = r.isHeld ∧ (r.isRetiring = true → (r.depart t).isRetiring = true) := by
  unfold StreamRecord.depart
  split
  · next h =>
    refine ⟨rfl, rfl, rfl, rfl, rfl, ?_, fun _ => rfl⟩
    have := h.2
    unfold StreamRecord.inService at this
    unfold StreamRecord.isHeld
    cases hst : r.state <;> simp_all
  · exact ⟨rfl, rfl, rfl, rfl, rfl, rfl, fun h => h⟩

/-- What a trunk reset makes of a record (R79): a station's in service is HELD, a host's stays what it is but for its
state. -/
theorem StreamRecord.atTrunkReset_plain (r : StreamRecord) : r.atTrunkReset.id = r.id ∧ r.atTrunkReset.owner = r.owner ∧
    r.atTrunkReset.channel = r.channel ∧ r.atTrunkReset.units = r.units ∧ r.atTrunkReset.pendingResize = r.pendingResize ∧
    (r.owner = .host → r.atTrunkReset.isHeld = r.isHeld) ∧
    (r.owner ≠ .host → r.atTrunkReset.isHeld = (r.inService || r.isHeld)) ∧
    (r.isRetiring = true → r.atTrunkReset.isRetiring = true) := by
  unfold StreamRecord.atTrunkReset
  split
  · next t ho =>
    split
    · next hin =>
      refine ⟨rfl, rfl, rfl, rfl, rfl, fun h => ?_, fun _ => ?_, fun h => ?_⟩
      · rw [ho] at h; exact absurd h nofun
      · simp [StreamRecord.isHeld, hin]
      · rw [StreamRecord.not_retiring_of_inService hin] at h; exact absurd h nofun
    · next hin => exact ⟨rfl, rfl, rfl, rfl, rfl, fun _ => rfl, fun _ => by simp [hin], fun h => h⟩
  · next ho =>
    split
    · next hst => exact ⟨rfl, rfl, rfl, rfl, rfl, fun _ => by simp [StreamRecord.isHeld, hst], fun h => absurd ho h,
        by simp [StreamRecord.isRetiring, hst]⟩
    · next hst => exact ⟨rfl, rfl, rfl, rfl, rfl, fun _ => by simp [StreamRecord.isHeld, hst], fun h => absurd ho h,
        by simp [StreamRecord.isRetiring, hst]⟩
    · exact ⟨rfl, rfl, rfl, rfl, rfl, fun _ => rfl, fun h => absurd ho h, fun h => h⟩

/-- An edit that is for no station's stream leaves only the host's records with edits (R109). -/
theorem State.Records.host_of_edit {s : State} (hs : s.Records) (hfree : ∀ x ∈ s.stg.edits, s.editStationOwned x = false)
    {r : StreamRecord} (hr : r ∈ s.streams) {e : Edit} (he : e ∈ s.stg.edits) (hid : e.stream = r.id) : r.owner = .host := by
  cases ho : r.owner with
  | host => rfl
  | station t =>
    have := (s.editStationOwned_iff e).2 ⟨r, hid ▸ State.stream?_of_mem hs.positioned.nodup hr, t, ho⟩
    rw [hfree e he] at this
    exact absurd this nofun

theorem State.Resized.atTrunkReset {s : State} (h : s.Resized strict) (hs : s.Records)
    (hfree : ∀ x ∈ s.stg.edits, s.editStationOwned x = false) :
    State.Resized strict { s with streams := s.streams.map StreamRecord.atTrunkReset } := by
  refine h.map _ rfl rfl (fun r _ => ?_) (fun r hr e he hid hheld => ?_) (fun r _ => ?_)
  · obtain ⟨h1, -, -, h4, h5, -⟩ := r.atTrunkReset_plain
    exact ⟨h1, h4, h5⟩
  · obtain ⟨-, -, -, -, -, h6, -⟩ := r.atTrunkReset_plain
    exact (h6 (hs.host_of_edit hfree hr he hid)).trans hheld
  · obtain ⟨-, -, -, -, -, -, -, h8⟩ := r.atTrunkReset_plain
    exact h8

theorem State.Resized.removeRecords {s : State} (h : s.Resized strict) (hs : s.Records) (ids : List Nat) :
    (s.removeRecords ids).Resized strict := by
  induction ids generalizing s with
  | nil => exact h
  | cons id ids ih => exact ih (h.removeRecord hs id) (hs.removeRecord id)

theorem State.Resized.makeRoom {s : State} (h : s.Resized strict) (hs : s.Records) (touched : List Tag) :
    (s.makeRoom touched).Resized strict := by
  unfold State.makeRoom
  split
  · exact h
  · split
    · exact h
    · exact (h.removeRecords hs _).of_eq rfl rfl

theorem State.Resized.convertFold (tags : List Tag) {s : State} (h : s.Resized strict) (hs : s.Records) (touched : List Tag)
    (hlen : touched.length + tags.length < Config.holdingRoom) :
    (tags.foldl State.convertClaim (s, touched)).1.Resized strict := by
  induction tags generalizing s touched with
  | nil => exact h
  | cons t tags ih =>
    rw [List.length_cons] at hlen
    have hrec := hs.convertFold [t] touched (by simp; omega)
    rw [List.foldl_cons]
    rw [List.foldl_cons, List.foldl_nil] at hrec
    have hone : (State.convertClaim (s, touched) t).1.Resized strict ∧
        (State.convertClaim (s, touched) t).2.length ≤ touched.length + 1 := by
      unfold State.convertClaim
      simp only
      split
      · exact ⟨h, Nat.le_succ _⟩
      · exact ⟨h.of_eq rfl rfl, le_rfl⟩
      · exact ⟨(h.makeRoom hs touched).of_eq rfl rfl, le_rfl⟩
    have hle := hone.2
    exact ih hone.1 hrec _ (lt_of_le_of_lt (Nat.add_le_add_right hle _) (by omega))

/-- The pending resizes stay those of the edits through every elementary change; a commit may find an edit stale. -/
theorem State.Act.resized {s t : State} (hact : State.Act True commits s t) (hc : commits → ¬ strict) (hs : s.Records)
    (h : s.Resized strict) : t.Resized strict := by
  cases hact with
  | @put r q hr hk =>
    have hunique : ∀ x ∈ s.streams, x.id = q.id → x = r := fun x hx h => hs.unique hr hx (h.trans hk.id)
    refine h.map _ (State.putStream_map hs.positioned.nodup _) rfl (fun x hx => ?_) (fun x hx e he hid hheld => ?_)
      (fun x hx hret => ?_)
    · split
      · next h => rw [hunique x hx h]; exact ⟨hk.id, hk.units, hk.pendingResize⟩
      · exact ⟨rfl, rfl, rfl⟩
    · split
      · next h => rw [hk.held, ← hunique x hx h]; exact hheld
      · exact hheld
    · split
      · next h => exact hk.retiring (hunique x hx h ▸ hret)
      · exact hret
  | remove id => exact h.removeRecord hs id
  | @commit n _ _ hcommits hedits =>
    have hloose : s.Resized False := ⟨h.fits, h.pending, fun r hr hst => h.idle r hr (.inr (hst.resolve_left id))⟩
    have hdone := hloose.commitEdit hs n hedits
    have hnot := hc hcommits
    exact ⟨hdone.fits, hdone.pending, fun r hr hst => hdone.idle r hr (.inr (hst.resolve_left hnot))⟩
  | drop he => exact h.dropEdit hs (he trivial)
  | stage hf hr _ => exact h.stage hs hf hr
  | admitStream _ hf _ => exact h.admitStream hs hf
  | endHolding _ => exact (h.removeRecords hs _).of_eq rfl rfl
  | reclaim _ _ =>
    refine h.map _ rfl rfl (fun r _ => ?_) (fun r hr e he hid hheld => ?_) (fun r _ hret => ?_)
    · obtain ⟨h1, -, -, h4, h5, -⟩ := r.leaveHeld_plain
      split
      · exact ⟨h1, h4, h5⟩
      · exact ⟨rfl, rfl, rfl⟩
    · split
      · exact r.leaveHeld_plain.2.2.2.2.2.1
      · exact hheld
    · obtain ⟨-, -, -, -, -, -, h7⟩ := r.leaveHeld_plain
      split
      · exact h7.trans hret
      · exact hret
  | depart _ =>
    refine h.map _ rfl rfl (fun r _ => ?_) (fun r _ e _ _ hheld => ?_) (fun r _ => ?_)
    · obtain ⟨h1, -, -, h4, h5, -⟩ := r.depart_plain _
      exact ⟨h1, h4, h5⟩
    · obtain ⟨-, -, -, -, -, h6, -⟩ := r.depart_plain _
      exact h6.trans hheld
    · obtain ⟨-, -, -, -, -, -, h7⟩ := r.depart_plain _
      exact h7
  | complete _ _ => exact h.of_eq (by simp) (by simp)
  | restart hclean =>
    obtain ⟨-, hfree, -⟩ := hclean trivial
    have hkept := h.atTrunkReset hs hfree
    have hdone := hkept.convertFold s.rst.presentTags hs.atTrunkReset [] (by simpa using hs.presentTags_room)
    unfold State.restart
    exact hdone.of_eq (by simp [State.convertClaims]) (by simp [State.convertClaims])
  | reset _ => exact ⟨nofun, nofun, nofun⟩
  | _ => exact h.of_eq rfl rfl

end Sys2Proof.Machine
end

section
/-! SUPPORT. The queue of commands, the resets, and the requests that read the configuration and the part's state: the
tier 1 statements, and what commands can be sent. -/

namespace Sys2Proof.Machine

/-! ### The queue of commands -/

/-- Settles O1: the two branches of `step`. -/
theorem stepRunsTheFrontCommand : Obligations.StepRunsTheFrontCommand :=
  ⟨fun _ _ => rfl, fun s h => by simp [step, h]⟩

/-- Every row's meaning is the outcome of some state, which is a fault exactly where the command cannot be sent. -/
theorem exec_eq_outcome (c : Instr) (s : State) : ∃ t, exec c s = outcome (wellFormed c) t := by
  cases c <;> exact ⟨_, rfl⟩

/-- Every elementary change leaves the waiting commands alone. -/
theorem State.Act.pending {sound commits : Prop} {s t : State} (h : State.Act sound commits s t) :
    t.pending = s.pending := by
  cases h with
  | restart _ => simp [State.restart, State.convertClaims]
  | _ => simp [State.configure, State.atReset, State.clearRoster]

/-- A command that leaves a next state leaves the waiting commands alone. -/
theorem exec_pending {c : Instr} {s t : State} (h : exec c s = .next t) : t.pending = s.pending := by
  have hchain := exec_leads (sound := False) trivial h (fun _ _ _ _ hf => hf.elim) False.elim
  clear h
  induction hchain with
  | refl => rfl
  | tail _ hact ih => exact hact.pending.trans ih

/-- Settles O2: a command's outcome is decided by `wellFormed` alone, and no elementary change reaches the queue. -/
theorem sendableCommandsComplete : Obligations.SendableCommandsComplete := by
  intro c s
  obtain ⟨t, ht⟩ := exec_eq_outcome c s
  constructor
  · intro hc
    have hnext : exec c s = .next t.transmit := by rw [ht, hc]; rfl
    exact ⟨_, hnext, exec_pending hnext⟩
  · intro hc
    rw [ht, hc]
    rfl

/-! ### Resets -/

/-- The end of a RESET's DONE is a soft reset, which keeps the configuration record (R15, R188). -/
theorem exec_replySent_of_reset {s : State} {tag : Byte} {f : HostFrame} (rateA rateB : Bool)
    (hs : s.hlk.sending = some (.reply tag f)) (hr : s.hlk.resetting = some tag) :
    exec (.replySent rateA rateB) s = .next (.atReset s.cfg (lineRate rateA rateB) s.pending) := by
  have : s.replySent rateA rateB = .atReset s.cfg (lineRate rateA rateB) s.pending := by
    simp [State.replySent, hs, hr, State.softReset]
  exact congrArg Host.Outcome.next (by rw [this]; exact State.transmit_atReset _ _ _)

/-- Settles O4: both resets leave `State.atReset`, which holds each block's own reset values. -/
theorem resetsEmptyEveryBlock : Obligations.ResetsEmptyEveryBlock := by
  intro s c rateA rateB cfg hc
  refine ⟨.atReset cfg (lineRate rateA rateB) s.pending, ?_, rfl, rfl, rfl, rfl, rfl, rfl, rfl, rfl, rfl, rfl, rfl, rfl,
    rfl, rfl⟩
  rcases hc with ⟨rfl, rfl⟩ | ⟨rfl, rfl, tag, f, hs, hr⟩
  · exact exec_powerOnReset s rateA rateB
  · exact exec_replySent_of_reset rateA rateB hs hr

/-- Settles O60: each invariant at the values of power-on reset. -/
theorem resetMeetsTheInvariants : Obligations.ResetMeetsTheInvariants := by
  refine ⟨Ledger.atReset_balanced 1536, Ledger.atReset_partitioned 1536, ?_, ?_, ?_, ?_, ?_, ?_, ?_, ?_, ?_, ?_, ?_, ?_,
    ?_, ?_, ?_, ?_, Reports.atReset_inOrder _⟩
  all_goals
    simp [State.reset, State.atReset, Ledger.atReset, Staging.atReset, Roster.atReset, Reclaim.atReset,
      TrunkPort.atReset, HostLink.atReset, Reports.atReset, Sequencer.atReset, ConfigRecord.defaults, ConfigRecord.valid,
      State.carriedBy, Config.lateLimit, Config.budgetMax, State.bounded, Sequencer.inPlace, State.windowInPlace,
      State.silentInPlace, State.keyed, State.positioned, State.channelsApart, State.heldInPlace, State.editsInPlace,
      State.stagedInPlace, State.rosterInPlace, State.claimsInPlace, State.resizesInPlace, State.accountsInPlace,
      Account.carries]

/-! ### Requests that the host sends and its owner answers at once -/

/-- The state left by a host request that its owner answers at once, whatever the owner changes but the Host Link
(R182, R183). -/
theorem exec_answered {c : Instr} {s t u : State} {tag : Byte} (kind : Kind) (body : List Byte) {r : Reply}
    (h : s.HostReady tag) (hc : exec c s = outcome (hostBodyFits body) (s.hostRequest kind tag body))
    (hb : body.length ≤ 248) (ho : hostOwner kind tag body (s.openEntry (.of kind.code tag body)) = some (u, some r))
    (hk : u.hlk = (s.openEntry (.of kind.code tag body)).hlk)
    (ht : { u with hlk := (s.withHostReply kind tag body r).hlk } = t) : exec c s = .next t.transmit := by
  rw [hc, hostBodyFits_of hb, State.hostRequest_answered h ho hk, ht]
  rfl

/-- The state left by a host request that its owner only answers (R182, R183). -/
theorem exec_read {c : Instr} {s : State} {tag : Byte} (kind : Kind) (body : List Byte) {r : Reply}
    (h : s.HostReady tag) (hc : exec c s = outcome (hostBodyFits body) (s.hostRequest kind tag body))
    (hb : body.length ≤ 248)
    (ho : hostOwner kind tag body (s.openEntry (.of kind.code tag body)) =
      some (s.openEntry (.of kind.code tag body), some r)) :
    exec c s = .next (State.transmit (s.withHostReply kind tag body r)) :=
  exec_answered kind body h hc hb ho rfl rfl

/-- A frozen list commits nothing (R104). -/
theorem State.commit_of_frozen {s : State} (h : s.stg.frozen = true) (n : Cycle) : s.commit n = s := by
  simp [State.commit, h]

/-- Settles O27: both requests are `takeFreeze`, by the value that they give FROZEN. -/
theorem freezeAndThaw : Obligations.FreezeAndThaw :=
  ⟨fun _ _ h => ⟨exec_answered .freeze [] h rfl (Nat.zero_le _) rfl rfl rfl,
    exec_answered .thaw [] h rfl (Nat.zero_le _) rfl rfl rfl⟩, fun _ n h => State.commit_of_frozen h n⟩

/-! ### The byte formats of chapter 12 -/

/-- Two bytes put together and taken apart (R201). -/
theorem be16_append (hi lo : Byte) : be16 (hi ++ lo).toNat = [hi, lo] ∧ word16 hi lo = (hi ++ lo).toNat := by
  have hval : (hi ++ lo).toNat = hi.toNat * 256 + lo.toNat := by
    rw [BitVec.toNat_append, Nat.shiftLeft_eq, Nat.mul_comm, ← Nat.two_pow_add_eq_or_of_lt lo.isLt, Nat.mul_comm]
  have hlo := lo.isLt
  have hhi := hi.isLt
  refine ⟨?_, hval.symm⟩
  simp only [be16, byteOf, hval, List.cons.injEq, and_true]
  constructor <;> apply BitVec.eq_of_toNat_eq <;> simp only [BitVec.toNat_ofNat] <;> omega

/-- A byte of a word packed of bytes is the one that stands there. -/
theorem packs_extract {w : Nat} {x : BitVec w} {bytes : List Byte} (h : packs x bytes) (k : Nat) :
    x.extractLsb' (8 * k) 8 = bytes.getD k 0 := by
  refine BitVec.eq_of_getLsbD_eq fun i hi => ?_
  rw [BitVec.getLsbD_extractLsb', h, show (8 * k + i) / 8 = k by omega, show (8 * k + i) % 8 = i by omega]
  simp [hi]

/-- A tag put together of six bytes is sent as these (R201). -/
theorem tagBytes_append (a b c d e f : Byte) : tagBytes (a ++ b ++ c ++ d ++ e ++ f) = [a, b, c, d, e, f] := by
  have h : packs (a ++ b ++ c ++ d ++ e ++ f) [f, e, d, c, b, a] :=
    packs_append (packs_append (packs_append (packs_append (packs_append (packs_singleton a) b) c) d) e) f
  simp only [tagBytes, List.cons.injEq, and_true]
  exact ⟨packs_extract h 5, packs_extract h 4, packs_extract h 3, packs_extract h 2, packs_extract h 1,
    packs_extract h 0⟩

/-- Form 0 of a channel set names the channels in it (R201). -/
theorem setBytes_namesChannels (x : ChannelSet) :
    namesChannels (setBytes x) ((List.range 40).filter (fun c => x.getLsbD c)) := by
  refine .inl ⟨_, _, _, _, _, rfl, fun c => ?_⟩
  rw [List.mem_filter, List.mem_range]
  refine and_congr_right fun hc => ?_
  have hbyte : ∀ k, 8 * k + c % 8 = c → (x.getLsbD c = true ↔ (x.extractLsb' (8 * k) 8).getLsbD (c % 8) = true) :=
    fun k hk => by rw [BitVec.getLsbD_extractLsb', hk]; simp [Nat.mod_lt]
  obtain h | h | h | h | h : c / 8 = 0 ∨ c / 8 = 1 ∨ c / 8 = 2 ∨ c / 8 = 3 ∨ c / 8 = 4 := by omega
  · rw [h]; exact hbyte 0 (by omega)
  · rw [h]; exact hbyte 1 (by omega)
  · rw [h]; exact hbyte 2 (by omega)
  · rw [h]; exact hbyte 3 (by omega)
  · rw [h]; exact hbyte 4 (by omega)

/-- What STATUS sends, part by part (R13). -/
theorem State.statusBody_eq (s : State) : s.statusBody =
    [match s.csq.partState with | .quiescent => 0 | .starting => 1 | .running => 2 | .halted => 3,
       flag (s.csq.haltWaiters != [])] ++ be16 (s.csq.lastCycle.getD 0).toNat ++ [s.rst.epoch, s.csq.generation]
      ++ be16 s.lgr.freeUnits ++ [byteOf ((List.range 40).filter (fun c => s.lgr.freeChannels.getLsbD c)).length,
       byteOf s.stg.edits.length, flag s.stg.frozen,
       if s.rcu.isOpen = false then 0 else if s.csq.partState = .running then 1 else 2]
      ++ be16 s.rcu.remaining ++ [byteOf s.rst.stations.length, byteOf s.rpu.queue.length, byteOf s.csq.lateRun] := by
  have hhalt : s.csq.haltPending = (s.csq.haltWaiters != []) := by
    cases h : s.csq.haltWaiters <;> simp [Sequencer.haltPending, h]
  have hwindow : s.windowCode = if s.rcu.isOpen = false then 0 else if s.csq.partState = .running then 1 else 2 := by
    simp [State.windowCode]
  unfold State.statusBody
  rw [hhalt, hwindow]
  rfl

/-- Settles O13: the two reads, the formats one by one, and the tables of codes. -/
theorem configurationAndStatusRead : Obligations.ConfigurationAndStatusRead := by
  refine ⟨fun s tag h => ⟨exec_read .readConfig [] h rfl (Nat.zero_le _) rfl, ?_⟩,
    ⟨fun b => by simp [byteOf], be16_append, ⟨rfl, rfl⟩, tagBytes_append, ⟨rfl, fun _ => rfl⟩, ?_,
      fun x => ⟨rfl, setBytes_namesChannels x, rfl⟩, fun _ _ => rfl,
      ⟨rfl, rfl, fun _ => rfl, fun _ => rfl, fun _ => rfl, rfl⟩, fun _ => rfl⟩,
    ⟨fun _ _ => rfl, fun _ _ _ _ => rfl, ?_, rfl, rfl, rfl, rfl, rfl, rfl, rfl⟩⟩
  · have hread := exec_read (c := .status tag []) (r := ⟨.done, s.statusBody⟩) .status [] h rfl (Nat.zero_le _) rfl
    rw [State.statusBody_eq] at hread
    exact hread
  · decide
  · rintro ⟨number, submitter, op, stream, cycle⟩
    cases op <;> rfl

end Sys2Proof.Machine
end

section
/-! SUPPORT. The Host Link's receiver (10.2, 10.3): the framer byte by byte, the answer list when it is full, the frames that
are not taken, and the answers to requests that wait. -/

namespace Sys2Proof.Machine

/-! ### The framer (R180, R181) -/

/-- The end of a frame whose check fails, while the answer list has room: a BAD_CHECK (R181). -/
theorem State.finishFrame_fails {s : State} (ht : s.hlk.takesAnswer) (len kind tag : Byte) (body : List Byte)
    (hi lo : Byte) (damaged : Bool)
    (hbad : damaged = true ∨ [hi, lo] ≠ checkBytes (frameCheck (len :: kind :: tag :: body))) :
    s.finishFrame (len :: kind :: tag :: body ++ [hi, lo]) damaged =
      State.withAnswer { s with hlk := { s.hlk with framer := .hunting } } ⟨0x41, 0, [3, 3, kind, tag, 0]⟩ := by
  have hsplit : (len :: kind :: tag :: body ++ [hi, lo]).length - 2 = (len :: kind :: tag :: body).length := by simp
  have hnot : ¬ (damaged = false ∧ [hi, lo] = checkBytes (frameCheck (len :: kind :: tag :: body))) := by
    rintro ⟨hd, hc⟩
    rcases hbad with h | h
    · rw [hd] at h; exact Bool.noConfusion h
    · exact h hc
  unfold State.finishFrame
  rw [hsplit, List.take_left, List.drop_left]
  simp only
  rw [if_neg hnot]
  exact State.abandonFrame_free ht _ _ _

/-- Settles O5: the branches of `State.receiveByte` and `State.assemble`. -/
theorem eachHostByte : Obligations.EachHostByte := by
  intro s b leads
  constructor
  · intro hf
    have hexec : exec (.hostByteReceived b) s = .next (State.transmit (if b.value = startByte ∧ b.damaged = false then
        { s with hlk := { s.hlk with framer := .assembling [] false } } else s)) := by
      show Host.Outcome.next (State.transmit (s.receiveByte b)) = _
      simp only [State.receiveByte, hf]
    split
    · next h => rw [show startByte = 0xA5 from rfl, if_pos h] at hexec; exact hexec
    · next h => rw [show startByte = 0xA5 from rfl, if_neg h] at hexec; exact hexec
  · intro bytes damaged hf all length abandoned
    have hexec : exec (.hostByteReceived b) s = .next (State.transmit (s.assemble bytes damaged b)) := by
      show Host.Outcome.next (State.transmit (s.receiveByte b)) = _
      simp only [State.receiveByte, hf]
    have habandoned (cause : Byte) (kind tag : Option Byte)
        (h : s.assemble bytes damaged b = s.abandonFrame cause kind tag) : abandoned (linkError cause kind tag 0) :=
      fun ht => by rw [hexec, h, State.abandonFrame_free ht]
    unfold State.assemble at hexec habandoned
    simp only at hexec habandoned
    split
    · next h1 => exact habandoned _ none none (if_pos h1)
    · next h1 =>
      rw [if_neg h1] at hexec
      split
      · next h2 => exact habandoned _ none none ((if_neg h1).trans (if_pos h2))
      · next h2 =>
        rw [if_neg h2] at hexec
        split
        · next h3 => rw [if_neg (Nat.not_le.2 h3)] at hexec; exact hexec
        · next h3 =>
          rw [if_pos (Nat.not_lt.1 h3)] at hexec
          intro len kind tag body hi lo hall
          rw [show bytes ++ [b.value] = len :: kind :: tag :: body ++ [hi, lo] from hall] at hexec
          split
          · next hbad => exact fun ht => by rw [hexec, State.finishFrame_fails ht len kind tag body hi lo _ hbad]
          · next hgood =>
            rw [not_or, not_not, Bool.not_eq_true] at hgood
            rw [hexec, State.finishFrame_passes s _ len kind tag body hi lo _ rfl hgood]
            rfl

/-- The 5 ms timer in ASSEMBLING abandons the frame (R181). -/
theorem exec_interByteTimeout {s : State} {bytes : List Byte} {damaged : Bool} (h : s.hlk.framer = .assembling bytes damaged) :
    exec .interByteTimeout s = .next (State.transmit (s.abandonFrame linkErrorTruncated bytes[1]? bytes[2]?)) := by
  show Host.Outcome.next (State.transmit s.byteTimeout) = _
  simp only [State.byteTimeout, h]

/-- Settles O6: the timer in both states of the framer, and `HostLink.placeAnswer` case by case. -/
theorem timeoutAndOverrun : Obligations.TimeoutAndOverrun := by
  constructor
  · intro s
    constructor
    · intro hf
      show Host.Outcome.next (State.transmit s.byteTimeout) = _
      simp only [State.byteTimeout, hf]
    · intro bytes damaged hf ht leads
      have hexec := exec_interByteTimeout hf
      rw [State.abandonFrame_free ht] at hexec
      match bytes with
      | _ :: kind :: tag :: _ => exact hexec
      | [_, kind] => exact hexec
      | [_] => exact hexec
      | [] => exact hexec
  · intro s damaged hf hreset leads frame overrunFrame
    have hframe : linkError linkErrorTruncated none none 0 = frame := rfl
    have hexec : exec .interByteTimeout s = .next (State.transmit (s.hunt.placeAnswer frame)) := by
      rw [exec_interByteTimeout hf, ← hframe]
      rfl
    have hplace (h : HostLink) (hp : s.hunt.hlk.placeAnswer frame = h) :
        exec .interByteTimeout s = .next (State.transmit { s with hlk := h }) := by
      rw [hexec, ← hp]; rfl
    have hreset' : s.hunt.hlk.resetting.isSome = false := by simp [State.hunt, hreset]
    simp only [HostLink.placeAnswer, hreset', Bool.false_eq_true, if_false] at hplace
    split
    · next hfull => exact hplace _ (if_pos hfull)
    · next hroom =>
      have hroom' : ¬ Config.answerRoom ≤ s.hunt.hlk.answers.length := hroom
      simp only [if_neg hroom'] at hplace
      split
      · next hnone =>
        have hnone' : s.hunt.hlk.overrun = 0 := hnone
        refine hplace _ ((if_pos hnone').trans ?_)
        simp [HostLink.joinAnswers, State.hunt, hnone]
      · next hsome =>
        have hsome' : ¬ s.hunt.hlk.overrun = 0 := hsome
        simp only [if_neg hsome'] at hplace
        split
        · next hlast =>
          refine hplace _ ((if_neg ?_).trans rfl)
          simp [HostLink.joinAnswers, State.hunt, Config.answerRoom, hlast]
        · next hmore =>
          refine hplace _ ((if_pos ?_).trans ?_)
          · simp only [HostLink.joinAnswers, State.hunt, Config.answerRoom, List.length_append, List.length_singleton]
            omega
          · simp [HostLink.joinAnswers, State.hunt]
            rfl

/-! ### Whole frames (R182) -/

/-- A host request's row is the request of its kind, tag and body (entry 5). -/
theorem exec_hostRow (s : State) (tag : Byte) (body : List Byte) : ∀ row ∈ hostRows tag body,
    exec row.2 s = outcome (hostBodyFits body) (s.hostRequest row.1 tag body) := by
  unfold hostRows
  iterate 27 refine List.forall_mem_cons.2 ⟨rfl, ?_⟩
  nofun

/-- An undamaged frame that arrives while the framer hunts is judged (R180, R182). -/
theorem exec_hostFrame {s : State} (kind tag : Byte) {body : List Byte} (hf : s.hlk.framer = .hunting)
    (hb : body.length ≤ 248) :
    exec (.hostFrame (HostFrame.received ⟨kind, tag, body⟩)) s = .next (State.transmit (s.judge (.of kind tag body))) := by
  show Host.Outcome.next (State.transmit (List.foldl _ _ _)) = _
  rw [State.receive_frame s kind tag body hf hb]

/-- Settles O7: the frame is judged, and the row is that judgement. -/
theorem hostFrameIsItsRequest : Obligations.HostFrameIsItsRequest := by
  intro s tag body hf hb row hrow
  rw [exec_hostFrame _ _ hf hb, exec_hostRow s tag body row hrow, hostBodyFits_of hb]
  rfl

/-- The kinds of the host's catalogue are all but the two that only stations send (10.6). -/
theorem mem_hostRows_or (k : Kind) (tag : Byte) (body : List Byte) :
    (∃ row ∈ hostRows tag body, row.1 = k) ∨ k = .reclaim ∨ k = .leave := by
  cases k <;> simp [hostRows]

/-- A kind byte of no host request has no owner (R182 step 6). -/
theorem State.takeHostRequest_unknown {s : State} {kind tag : Byte} {body : List Byte}
    (h : ∀ row ∈ hostRows tag body, row.1.code ≠ kind) : s.takeHostRequest (.of kind tag body) = none := by
  have hnone : (Kind.ofCode kind).bind (fun k => hostOwner k tag body (s.openEntry (.of kind tag body))) = none := by
    cases hk : Kind.ofCode kind with
    | none => rfl
    | some k =>
      have hcode : k.code = kind := by simpa using List.find?_some hk
      rcases mem_hostRows_or k tag body with ⟨row, hrow, rfl⟩ | rfl | rfl
      · exact absurd hcode (h row hrow)
      · rfl
      · rfl
  unfold State.takeHostRequest
  rw [show (HostRequest.of kind tag body).kind = kind from rfl, show (HostRequest.of kind tag body).tag = tag from rfl,
    show (HostRequest.of kind tag body).body = body from rfl, hnone]

/-- A frame with a tag, none pending a soft reset and none of its tag in the cache, is judged afresh (R182). -/
theorem State.judge_of_not_cached {s : State} {q : HostRequest} (hr : s.hlk.resetting = none) (hq : q.tag ≠ 0)
    (hc : ∀ c ∈ s.hlk.cache, c.tag ≠ q.tag) : s.judge q = s.judgeFresh q := by
  have hfind : s.hlk.cache.find? (fun c => c.tag == q.tag) = none := by simpa using hc
  simp only [State.judge, hr, Option.isSome_none, Bool.false_eq_true, if_false, if_neg hq, hfind]

/-- Settles O8: the branches of `State.judge` and `State.judgeFresh` that take no request. -/
theorem framesThatAreNotTaken : Obligations.FramesThatAreNotTaken := by
  intro s kind tag body hf hb hkeyed ht c answered check
  have hreset := ht.1
  have hexec (t : State) (h : s.judge (.of kind tag body) = t) : exec c s = .next t.transmit := by
    rw [exec_hostFrame kind tag hf hb, h]
  have hanswer (f : HostFrame) (h : s.judge (.of kind tag body) = s.placeAnswer f) : answered f :=
    hexec _ (h.trans (State.placeAnswer_free ht f))
  refine ⟨fun h0 => ?_, fun h0 e he hetag => ?_, fun h0 hcache => ?_⟩
  · subst h0
    exact hanswer ⟨kind, 0, [0x04]⟩ (by simp [State.judge, hreset, HostRequest.of, replyFrame, ResultCode.code])
  · have hnodup : (s.hlk.cache.map CacheEntry.tag).Nodup := by
      obtain ⟨-, -, -, -, -, hlink⟩ := hkeyed
      exact (List.nodup_append.1 hlink).2.1
    have hfind : s.hlk.cache.find? (fun x => x.tag == tag) = some e := by
      rw [← hetag]; exact find?_of_mem CacheEntry.tag e _ hnodup he
    have hjudge : s.judge (.of kind tag body) = if e.isReplayOf (.of kind tag body) then s.placeAnswer e.reply
        else State.judgeFresh { s with hlk := { s.hlk with cache := s.hlk.cache.eraseP (fun x => x.tag == tag) } }
          (.of kind tag body) := by
      simp only [State.judge, hreset, Option.isSome_none, Bool.false_eq_true, if_false, HostRequest.of, if_neg h0, hfind]
    have hreplay : e.isReplayOf (.of kind tag body) = true ↔
        e.kind = kind ∧ e.length = body.length + 2 ∧ e.check = check := by
      simp [CacheEntry.isReplayOf, HostRequest.of, HostRequest.length, hostCheck, check, and_assoc]
    split
    · next hsame => exact hanswer _ (hjudge.trans (if_pos (hreplay.2 hsame)))
    · next hother =>
      rw [hexec _ (hjudge.trans (if_neg (fun h => hother (hreplay.1 h)))),
        eraseP_eq_filter CacheEntry.tag tag _ hnodup]
      have hleft : State.judge { s with hlk := { s.hlk with cache := s.hlk.cache.filter (fun x => x.tag != tag) } }
          (.of kind tag body) = State.judgeFresh
            { s with hlk := { s.hlk with cache := s.hlk.cache.filter (fun x => x.tag != tag) } } (.of kind tag body) :=
        State.judge_of_not_cached hreset h0 (fun x hx => bne_iff_ne.1 (List.mem_filter.1 hx).2)
      rw [← hleft]
      exact (exec_hostFrame (s := { s with hlk := { s.hlk with cache := s.hlk.cache.filter (fun x => x.tag != tag) } })
        kind tag hf hb).symm
  · have hjudge : s.judge (.of kind tag body) = s.judgeFresh (.of kind tag body) :=
      State.judge_of_not_cached hreset h0 hcache
    refine ⟨fun e he hetag => ?_, fun htable => ⟨fun hfull => ?_, fun hroom hrows => ?_⟩⟩
    · have hfind : s.hlk.table.find? (fun x => x.tag == tag) = some e := by
        obtain ⟨-, -, -, -, -, hlink⟩ := hkeyed
        rw [← hetag]; exact find?_of_mem TableEntry.tag e _ (List.nodup_append.1 hlink).1 he
      exact hanswer _ (hjudge.trans (by simp [State.judgeFresh, HostRequest.of, hfind]; rfl))
    · have hfind : s.hlk.table.find? (fun x => x.tag == tag) = none := by simpa using htable
      have hfull' : Config.tableRoom ≤ s.hlk.table.length := hfull
      exact hanswer _ (hjudge.trans (by simp [State.judgeFresh, HostRequest.of, hfind, hfull']; rfl))
    · have hfind : s.hlk.table.find? (fun x => x.tag == tag) = none := by simpa using htable
      have hroom' : ¬ Config.tableRoom ≤ s.hlk.table.length := Nat.not_le.2 hroom
      refine hanswer _ (hjudge.trans ?_)
      unfold State.judgeFresh
      rw [show (HostRequest.of kind tag body).tag = tag from rfl, hfind]
      simp only [if_neg hroom']
      rw [State.takeHostRequest_unknown hrows]
      rfl

/-! ### Waiting requests (R183) -/

/-- An entry as its owner's answer leaves it. -/
def TableEntry.answered (e : TableEntry) (r : Reply) : TableEntry :=
  { e with state := .answered ⟨e.kind, e.tag, r.code.code :: r.body⟩ }

/-- The answer to the one request that waits under a tag. -/
theorem HostLink.answer_waiting {h : HostLink} (hn : (h.table.map TableEntry.tag).Nodup) {e : TableEntry}
    (he : e ∈ h.table) (hw : e.state = .waiting) (r : Reply) :
    h.answer e.tag r = { h with
      table := h.table.map (fun x => if x.tag = e.tag then x.answered r else x)
      order := h.order ++ [.reply e.tag] } := by
  have hsame : ∀ x ∈ h.table, x.tag = e.tag → x = e := fun x hx hxe => List.inj_on_of_nodup_map hn hx he hxe
  have hfind : h.table.find? (fun x => x.tag == e.tag && x.isWaiting) = some e := by
    cases hf : h.table.find? (fun x => x.tag == e.tag && x.isWaiting) with
    | none =>
      have := List.find?_eq_none.1 hf e he
      simp [TableEntry.isWaiting, hw] at this
    | some x =>
      have hx := List.find?_some hf
      rw [Bool.and_eq_true, beq_iff_eq] at hx
      rw [hsame x (List.mem_of_find?_eq_some hf) hx.1]
  unfold HostLink.answer
  rw [hfind]
  simp only
  rw [updateFirst_eq_map TableEntry.tag TableEntry.isWaiting _ e.tag _ hn]
  congr 1
  refine List.map_congr_left (fun x hx => ?_)
  by_cases hxe : x.tag = e.tag
  · rw [hsame x hx hxe]
    simp [TableEntry.isWaiting, hw, TableEntry.answered, replyFrame]
  · simp [hxe]

/-- The answers leave the entries' tags. -/
theorem TableEntry.map_answered_tag (l : List TableEntry) (p : TableEntry → Prop) [DecidablePred p] (r : Reply) :
    (l.map (fun x => if p x then x.answered r else x)).map TableEntry.tag = l.map TableEntry.tag := by
  rw [List.map_map]
  refine List.map_congr_left (fun x _ => ?_)
  simp only [Function.comp_apply]
  split <;> rfl

/-- Answering waiting requests one after the other is answering all their entries (R183). -/
theorem HostLink.answerEach_eq (tags : List Byte) (r : Reply) {h : HostLink} (hn : (h.table.map TableEntry.tag).Nodup)
    (ht : tags.Nodup) (hw : ∀ t ∈ tags, ∃ e ∈ h.table, e.tag = t ∧ e.state = .waiting) :
    h.answerEach tags r = { h with
      table := h.table.map (fun e => if e.tag ∈ tags then e.answered r else e)
      order := h.order ++ tags.map TxItem.reply } := by
  induction tags generalizing h with
  | nil => simp [HostLink.answerEach]
  | cons t tags ih =>
    obtain ⟨e, he, rfl, hwaiting⟩ := hw t (by simp)
    obtain ⟨hfresh, hrest⟩ := List.nodup_cons.1 ht
    have hfirst := HostLink.answer_waiting hn he hwaiting r
    have hstep : h.answerEach (e.tag :: tags) r = (h.answer e.tag r).answerEach tags r := rfl
    rw [hstep, hfirst, ih ((TableEntry.map_answered_tag h.table (fun x => x.tag = e.tag) r).symm ▸ hn) hrest]
    · simp only [List.map_map, List.map_cons, List.append_assoc, List.singleton_append]
      congr 1
      refine List.map_congr_left (fun x _ => ?_)
      simp only [Function.comp_apply, List.mem_cons]
      by_cases hx : x.tag = e.tag
      · have : (x.answered r).tag ∉ tags := by rw [show (x.answered r).tag = x.tag from rfl, hx]; exact hfresh
        simp [hx, this]
      · simp [hx]
    · intro u hu
      obtain ⟨x, hx, rfl, hxw⟩ := hw u (List.mem_cons_of_mem _ hu)
      have hne : x.tag ≠ e.tag := fun hxe => hfresh (hxe ▸ hu)
      exact ⟨x, List.mem_map.2 ⟨x, hx, if_neg hne⟩, rfl, hxw⟩

/-- Settles O16. -/
theorem waitersAreAnswered : Obligations.WaitersAreAnswered :=
  fun _ tags r hn ht hw => HostLink.answerEach_eq tags r hn ht hw

end Sys2Proof.Machine
end

section
/-! SUPPORT. The transmitter, the ends of sendings, and the report queue (10.3, 10.4, chapter 11). -/

namespace Sys2Proof.Machine

/-! ### What the transmitter takes (R185) -/

/-- The transmitter neither reads nor changes the Trunk Port. -/
theorem State.transmit_withPort (s : State) (t : TrunkPort) :
    State.transmit { s with tpt := t } = { s.transmit with tpt := t } := by
  unfold State.transmit
  simp only
  split
  · rfl
  · split
    · split <;> rfl
    · split <;> rfl
    · split
      · rfl
      · split <;> rfl

/-- A discarded transmission leaves what the transmitter does of itself, but for a broken burst's count (R131, R165). -/
theorem exec_trunkTransmissionDiscarded {s t : State} (why : DiscardCause) (h : s.transmit = t) :
    exec (.trunkTransmissionDiscarded why) s =
      .next (if why = .brokenBurst then { t with tpt := { t.tpt with burst := 0 } } else t) := by
  show Host.Outcome.next (State.transmit (s.discardTransmission why)) = _
  subst h
  rw [State.discardTransmission_eq]
  split
  · have htpt : s.transmit.tpt = s.tpt := by simp
    rw [State.burstQuiet, State.transmit_withPort, htpt]
  · rfl

/-- The earliest formed reply goes first (R185). -/
theorem State.transmit_reply {s : State} (hs : s.hlk.sending = none) {rest : List TxItem} {e : TableEntry} {f : HostFrame}
    (hn : (s.hlk.table.map TableEntry.tag).Nodup) (ho : s.hlk.order = .reply e.tag :: rest) (he : e ∈ s.hlk.table)
    (hf : e.state = .answered f) :
    s.transmit = { s with hlk := { s.hlk with order := rest, sending := some (.reply e.tag f) } } := by
  simp [State.transmit, hs, ho, find?_of_mem TableEntry.tag e _ hn he, hf]

/-- A free transmitter with nothing formed takes the record that the Report Unit picks (R185). -/
theorem State.transmit_report {s : State} (hs : s.hlk.sending = none) (ho : s.hlk.order = [])
    (hr : s.hlk.resetting = none) {x : ReportRecord} (hx : s.rpu.pick = some x) :
    s.transmit = { s with
      hlk := { s.hlk with sending := some (.report x.seq x.frame) }, rpu := s.rpu.beginSending x.seq } := by
  simp [State.transmit, hs, ho, hr, hx]

/-- With no record picked, HTX stays idle. -/
theorem State.transmit_idle {s : State} (hs : s.hlk.sending = none) (ho : s.hlk.order = []) (hx : s.rpu.pick = none) :
    s.transmit = s := by
  simp [State.transmit, hs, ho, hx]

/-! ### The record that is picked (R193, R194) -/

/-- The first element that meets a test, where it stands. -/
theorem find?_append_cons {α : Type} {p : α → Bool} {before : List α} {a : α} {after : List α}
    (hb : ∀ x ∈ before, p x = false) (ha : p a = true) : (before ++ a :: after).find? p = some a := by
  rw [List.find?_append, List.find?_eq_none.2 (fun x hx => by simp [hb x hx]), List.find?_cons_of_pos ha]
  rfl

/-- The earliest due record is picked (R194). -/
theorem Reports.pick_due {r : Reports} {before after : List ReportRecord} {x : ReportRecord}
    (hq : r.queue = before ++ x :: after) (hx : x.state = .sent .due) (hb : ∀ y ∈ before, y.state ≠ .sent .due) :
    r.pick = some x := by
  have : r.queue.find? (fun y => y.state == .sent .due) = some x := by
    rw [hq]
    exact find?_append_cons (fun y hy => by simpa using hb y hy) (by simp [hx])
  simp [Reports.pick, this]

/-- With none due, the oldest WAITING record is picked while fewer than 4 are SENT (R193). -/
theorem Reports.pick_of_none_due {r : Reports} (hd : ∀ x ∈ r.queue, x.state ≠ .sent .due) :
    r.pick = if (r.queue.filter (fun x => x.state != .waiting)).length < 4 then
      r.queue.find? (fun x => x.state == .waiting) else none := by
  have : r.queue.find? (fun y => y.state == .sent .due) = none := List.find?_eq_none.2 (fun y hy => by simpa using hd y hy)
  simp only [Reports.pick, this]
  rfl

/-- In a queue in order the records behind a WAITING one are WAITING (R193). -/
theorem Reports.inOrder.waiting_behind {r : Reports} (h : r.inOrder) {before after : List ReportRecord} {x : ReportRecord}
    (hq : r.queue = before ++ x :: after) (hx : x.state = .waiting) : ∀ y ∈ after, y.state = .waiting := by
  obtain ⟨-, -, hpair, -⟩ := h
  rw [hq, List.map_append, List.map_cons] at hpair
  obtain ⟨-, htail, -⟩ := List.pairwise_append.1 hpair
  obtain ⟨hafter, -⟩ := List.pairwise_cons.1 htail
  intro y hy
  by_contra hsent
  have := hafter _ (List.mem_map_of_mem hy) (by simpa [ReportRecord.isSent] using hsent)
  simp [ReportRecord.isSent, hx] at this

/-- The oldest WAITING record, with those ahead of it SENT and fewer than 4. -/
theorem Reports.pick_waiting {r : Reports} (h : r.inOrder) (hd : ∀ x ∈ r.queue, x.state ≠ .sent .due)
    {before after : List ReportRecord} {x : ReportRecord} (hq : r.queue = before ++ x :: after) (hx : x.state = .waiting)
    (hb : ∀ y ∈ before, y.state ≠ .waiting) (hlen : before.length < 4) : r.pick = some x := by
  have hafter := h.waiting_behind hq hx
  have hcount : (r.queue.filter (fun y => y.state != .waiting)).length = before.length := by
    rw [hq, List.filter_append, List.filter_cons_of_neg (by simp [hx]),
      List.filter_eq_self.2 (fun y hy => by simpa using hb y hy),
      List.filter_eq_nil_iff.2 (fun y hy => by simp [hafter y hy]), List.append_nil]
  rw [Reports.pick_of_none_due hd, if_pos (by omega), hq]
  exact find?_append_cons (fun y hy => by simpa using hb y hy) (by simp [hx])

/-! ### Frames on the line (R199, R200) -/

/-- The check bytes of a register, high byte first (R199). -/
theorem checkBytes_eq (c : BitVec 16) : checkBytes c = [c.extractLsb' 8 8, c.extractLsb' 0 8] := by
  simp only [checkBytes, be16, byteOf, List.cons.injEq, and_true]
  constructor <;> apply BitVec.eq_of_toNat_eq <;> simp [Nat.shiftRight_eq_div_pow]

/-- The check register takes each byte in eight shifts (R199). -/
theorem frameCheck_append (bytes : List Byte) (b : Byte) : frameCheck (bytes ++ [b]) = (List.range 8).foldl
    (fun c _ => if c.msb then (c <<< 1) ^^^ 0x1021 else c <<< 1) (frameCheck bytes ^^^ (b.setWidth 16 <<< 8)) := by
  simp only [frameCheck, List.foldl_append, List.foldl_cons, List.foldl_nil]
  rfl

/-- Settles O9: the transmitter's choice case by case, and the bytes of what it sends. -/
theorem transmitterTakesNext : Obligations.TransmitterTakesNext := by
  refine ⟨fun s why hkeyed horder => ?_, fun s => ⟨fun h => by simp [State.htxBytes, h], fun tag seq f hf => ?_⟩,
    fun _ _ _ => rfl, fun _ => rfl, rfl, frameCheck_append, checkBytes_eq⟩
  · intro left leads
    have hleads {t : State} (h : s.transmit = t) : leads t := exec_trunkTransmissionDiscarded why h
    refine ⟨fun hbusy => hleads (s.transmit_busy hbusy), fun hs => ⟨?_, ?_, ?_, ?_⟩⟩
    · rintro _ rest e f ho he rfl hf
      obtain ⟨-, -, -, -, -, hlink⟩ := hkeyed
      exact hleads (State.transmit_reply hs (List.nodup_append.1 hlink).1 ho he hf)
    · intro rest f fs ho hans
      exact hleads (by simp [State.transmit, hs, ho, hans])
    · intro ho hr
      exact hleads (by simp [State.transmit, hs, ho, hr])
    · intro ho hr sends
      have hsends {x : ReportRecord} (hx : s.rpu.pick = some x) : sends x :=
        hleads (by rw [State.transmit_report hs ho hr hx, Reports.beginSending_eq horder])
      refine ⟨fun before r after hq hdue hb => hsends (Reports.pick_due hq hdue hb), fun hd => ⟨?_, fun hnone => ?_⟩⟩
      · exact fun before r after hq hw hb hlen => hsends (Reports.pick_waiting horder hd hq hw hb hlen)
      · refine hleads (State.transmit_idle hs ho ?_)
        rw [Reports.pick_of_none_due hd]
        rcases hnone with hfull | hwaiting
        · exact if_neg (Nat.not_lt.2 hfull)
        · rw [List.find?_eq_none.2 (fun x hx => by simpa using hwaiting x hx), ite_self]
  · simp only [List.mem_cons, List.not_mem_nil, or_false] at hf
    rcases hf with h | h | h <;> simp [State.htxBytes, h, HtxSending.frame, HostFrame.onLine_eq]

/-! ### The ends of sendings (R183, R184, R186, R193) -/

/-- A ninth reply makes the earliest leave the cache (R184). -/
theorem HostLink.cacheReply_eq (h : HostLink) (c : CacheEntry) : h.cacheReply c =
    { h with cache := (if h.cache.length < 8 then h.cache else h.cache.drop 1) ++ [c] } := by
  unfold HostLink.cacheReply
  simp only [List.length_append, List.length_singleton, Config.cacheRoom]
  split
  · rw [if_neg (by omega), List.drop_append_of_le_length (by omega)]
  · rw [if_pos (by omega)]

/-- Settles O10: the four ends, each with its own operation. -/
theorem sendingsEnd : Obligations.SendingsEnd := by
  refine ⟨fun s rateA rateB f e hkeyed hs hr he => ?_, fun s f hs => ?_, fun s q f horder hs => ?_, fun s q horder => ?_⟩
  · intro cached
    obtain ⟨-, -, -, -, -, hlink⟩ := hkeyed
    have hn := (List.nodup_append.1 hlink).1
    show Host.Outcome.next (State.transmit (s.replySent rateA rateB)) = _
    simp only [State.replySent, hs, if_neg hr, HostLink.replySent, find?_of_mem TableEntry.tag e _ hn he,
      eraseP_eq_filter TableEntry.tag e.tag _ hn, HostLink.cacheReply_eq]
    rfl
  · show Host.Outcome.next (State.transmit s.answerSent) = _
    simp only [State.answerSent, hs]
  · show Host.Outcome.next (State.transmit s.reportSent) = _
    simp only [State.reportSent, hs, Reports.sendingEnds_eq horder]
  · show Host.Outcome.next (State.transmit { s with rpu := s.rpu.resendDue q }) = _
    rw [Reports.resendDue_eq horder]

/-! ### Offers and acknowledgements (R191, R192, R195, R196) -/

/-- A kind is on for OVERFLOW, and where the mask has it on (R192). -/
theorem Reports.isOn_iff (r : Reports) (k : ReportKind) :
    r.isOn k = true ↔ k = .overflow ∨ r.mask.getLsbD (k.code - 1) = true := by
  simp [Reports.isOn]

/-- The records up to one leave the queue, and a set marker becomes an OVERFLOW record (R195, R196). -/
theorem State.acknowledge_eq {s : State} {before after : List ReportRecord} {r : ReportRecord}
    (hq : s.rpu.queue = before ++ r :: after) : s.acknowledge (before.length + 1) = { s with
      rpu := if s.rpu.marker = true then
          { s.rpu with
            queue := after ++ [⟨s.rpu.next, .overflow, s.csq.lastCycle.getD 0, s.rst.epoch, [byteOf s.rpu.lost], .waiting⟩]
            next := s.rpu.next + 1, marker := false, lost := 0 }
        else { s.rpu with queue := after } } := by
  have hdrop : s.rpu.queue.drop (before.length + 1) = after := by
    rw [hq, show before ++ r :: after = (before ++ [r]) ++ after by simp]
    exact List.drop_left' (by simp)
  unfold State.acknowledge
  simp only [hdrop, Reports.queueOverflow]
  congr 1

/-- The place of a SENT record's sequence in the queue. -/
theorem Reports.findIdx?_seq {q : Reports} (h : q.inOrder) {before after : List ReportRecord} {r : ReportRecord}
    (hq : q.queue = before ++ r :: after) (hr : r.state ≠ .waiting) :
    q.queue.findIdx? (fun x => x.isSent && x.seq == r.seq) = some before.length := by
  have hn := h.seq_nodup
  rw [hq] at hn ⊢
  rw [List.map_append, List.map_cons] at hn
  have hne : ∀ x ∈ before, x.seq ≠ r.seq := fun x hx he =>
    (List.nodup_append.1 hn).2.2 _ (List.mem_map_of_mem hx) _ List.mem_cons_self he
  have hbefore : before.findIdx? (fun x => x.isSent && x.seq == r.seq) = none := by
    rw [List.findIdx?_eq_none_iff]
    exact fun x hx => by simp [hne x hx]
  rw [List.findIdx?_append, hbefore, List.findIdx?_cons]
  simp [ReportRecord.isSent, hr]

/-- What a refused acknowledgement names: the oldest and the newest SENT sequence, where there are any (R195). -/
theorem Reports.ackBody_eq (r : Reports) : r.ackBody =
    match (r.queue.filter (fun x => x.state != .waiting)).head?, (r.queue.filter (fun x => x.state != .waiting)).getLast? with
    | some oldest, some newest => [3, oldest.seq, newest.seq]
    | _, _ => [0, 0, 0] := by
  have hsent : r.queue.filter ReportRecord.isSent = r.queue.filter (fun x => x.state != .waiting) := rfl
  unfold Reports.ackBody
  rw [hsent]
  cases hq : r.queue.filter (fun x => x.state != .waiting) with
  | nil => rfl
  | cons a l =>
    have hlast : (a :: l).getLast? = some ((a :: l).getLast (by simp)) := List.getLast?_eq_some_getLast _
    simp only [hlast, List.head?_cons]
    simp [presence, byteOf, -List.map_cons, List.getLastD_eq_getLast?, hlast]

/-- An acknowledgement that names no SENT record is refused (R195). -/
theorem takeReportAck_refused {s : State} {body : List Byte} (h : ∀ r ∈ s.rpu.queue, r.state ≠ .waiting → body ≠ [r.seq]) :
    takeReportAck body s = (s, ⟨.badValue, s.rpu.ackBody⟩) := by
  unfold takeReportAck
  split
  · next seq =>
    have : s.rpu.queue.findIdx? (fun x => x.isSent && x.seq == seq) = none := by
      rw [List.findIdx?_eq_none_iff]
      intro x hx
      by_contra hmatch
      simp only [Bool.not_eq_false, Bool.and_eq_true, beq_iff_eq, ReportRecord.isSent, bne_iff_ne] at hmatch
      exact h x hx hmatch.1 (by rw [hmatch.2])
    rw [this]
  · rfl

/-- Settles O11: the pin, `Reports.offer` case by case, and both ends of an acknowledgement. -/
theorem reportsOfferedAndAcknowledged : Obligations.ReportsOfferedAndAcknowledged := by
  refine ⟨fun s => by simp [State.attn], fun s k body => ?_, fun s tag hready horder => ⟨fun before r after hq hr => ?_,
    fun body hb hnone => ?_⟩⟩
  · intro t on
    have hon : on ↔ s.rpu.isOn k = true := (s.rpu.isOn_iff k).symm
    refine ⟨rfl, fun hoff => ?_, fun hk hroom => ?_, fun hk hfull => ?_⟩
    · exact if_neg (fun h => hoff (hon.2 h))
    · exact (if_pos (hon.1 hk)).trans (if_pos hroom)
    · exact (if_pos (hon.1 hk)).trans (if_neg (Nat.not_lt.2 hfull))
  · intro rpu
    have hfind := Reports.findIdx?_seq horder hq hr
    refine exec_answered .reportAck [r.seq] hready rfl (by simp)
      (r := ⟨.done, [byteOf (before.length + 1), byteOf rpu.queue.length]⟩)
      (u := State.acknowledge (s.openEntry (.of Kind.reportAck.code tag [r.seq])) (before.length + 1)) ?_ rfl ?_
    · simp only [hostOwner, takeReportAck, State.openEntry_rpu, hfind]
      rw [State.acknowledge_eq (s := s.openEntry (.of Kind.reportAck.code tag [r.seq])) hq]
      rfl
    · rw [State.acknowledge_eq (s := s.openEntry (.of Kind.reportAck.code tag [r.seq])) hq]
      rfl
  · intro sent
    have hread := exec_read (c := .reportAck tag body) (r := ⟨.badValue, s.rpu.ackBody⟩) .reportAck body hready rfl hb (by
      simp only [hostOwner, takeReportAck_refused (s := s.openEntry (.of Kind.reportAck.code tag body)) hnone]
      rfl)
    rw [Reports.ackBody_eq] at hread
    exact hread

end Sys2Proof.Machine
end

section
/-! SUPPORT. Control requests (chapter 1) and the reset burst detector (7.1): START, TRUNK_RESET, HALT and RESET, and a
trunk reset that meets a pending halt. -/

namespace Sys2Proof.Machine

/-! ### Requests whose answer is not the next thing formed -/

/-- A host request that is taken and answered: its owner's state, with the answer to its entry (R182, R183). -/
theorem State.hostRequest_owner {s t : State} {tag : Byte} {kind : Kind} {body : List Byte} {r : Reply}
    (h : s.HostReady tag) (ho : hostOwner kind tag body (s.withHostWaiting kind tag body) = some (t, some r)) :
    s.hostRequest kind tag body = t.answer tag r := by
  rw [s.hostRequest_taken h]
  have hb : (Kind.ofCode (HostRequest.of kind.code tag body).kind).bind
      (fun k => hostOwner k (HostRequest.of kind.code tag body).tag (HostRequest.of kind.code tag body).body
        (s.openEntry (.of kind.code tag body))) = some (t, some r) := by
    simp only [HostRequest.of, Kind.ofCode_code, Option.bind_some]
    exact ho
  simp only [State.takeHostRequest, hb, Option.getD_some]
  rfl

/-- What an answered host request leaves, whatever its owner changes. -/
theorem exec_owner {c : Instr} {s t : State} {tag : Byte} (kind : Kind) (body : List Byte) {r : Reply}
    (h : s.HostReady tag) (hc : exec c s = outcome (hostBodyFits body) (s.hostRequest kind tag body))
    (hb : body.length ≤ 248) (ho : hostOwner kind tag body (s.withHostWaiting kind tag body) = some (t, some r)) :
    exec c s = .next (t.answer tag r).transmit := by
  rw [hc, hostBodyFits_of hb, State.hostRequest_owner h ho]
  rfl

/-- What a host request leaves that its owner lets wait (R187). -/
theorem exec_waits {c : Instr} {s t : State} {tag : Byte} (kind : Kind) (body : List Byte)
    (h : s.HostReady tag) (hc : exec c s = outcome (hostBodyFits body) (s.hostRequest kind tag body))
    (hb : body.length ≤ 248) (ho : hostOwner kind tag body (s.withHostWaiting kind tag body) = some (t, none)) :
    exec c s = .next t.transmit := by
  rw [hc, hostBodyFits_of hb, State.hostRequest_waits h ho]
  rfl

/-! ### A trunk reset that meets a pending halt (R6) -/

/-- A halt is pending exactly while a request waits for it (R1). -/
theorem Sequencer.haltPending_iff (q : Sequencer) : q.haltPending = true ↔ q.haltWaiters ≠ [] := by
  cases h : q.haltWaiters <;> simp [Sequencer.haltPending, h]

/-- The part HALTED behind a trunk reset: no station, no notice and nothing on the trunk; the start waiters are answered
ABORTED and the halt waiters DONE (R5, R6). -/
def State.haltedBehindReset (s : State) : State :=
  { s with
    csq := { s.csq with partState := .halted, startWaiters := [], haltWaiters := [] }
    rst := { s.rst with stations := [], rollPeriod := 0 }
    tpt := { s.tpt with parked := [], share := none, sending := none, burst := 0 }
    hlk := (s.hlk.answerEach s.csq.startWaiters ⟨.aborted, []⟩).answerEach s.csq.haltWaiters
      ⟨.done, be16 (s.csq.lastCycle.getD 0).toNat⟩ }

/-- Behind a trunk reset no departure is left and no cycle runs, so that abandoning the roll call leaves the part
HALTED as it stands (R5, R140). -/
theorem State.abandonRollCall_answerHalts {s : State} (hr : s.rst.stations = []) (hp : s.csq.phase = .none)
    (he : s.tpt.edge = false) : s.abandonRollCall.answerHalts = s.haltedBehindReset := by
  obtain ⟨csq, cfg, lgr, streams, stg, svw, rst, rcu, tpt, hlk, rpu, pending⟩ := s
  obtain ⟨epoch, stations, known, rollPeriod⟩ := rst
  obtain ⟨outbound, parked, share, sending, burst, edge⟩ := tpt
  obtain ⟨partState, lastCycle, generation, basis, lateRun, phase, plan, startWaiters, haltWaiters⟩ := csq
  simp only at hr hp he
  subst hr hp he
  rfl

/-- A trunk reset cuts off what the Trunk Port was doing (R133). -/
theorem State.trunkReset_edge (s : State) (cause : ResetCause) : (s.trunkReset cause).tpt.edge = false := rfl

/-- A trunk reset cause, where no halt is pending and where one is (R3, R6). -/
theorem State.takeCause_eq (s : State) (cause : ResetCause) : s.takeCause cause =
    if s.csq.haltWaiters = [] then s.trunkReset cause else (s.trunkReset cause).haltedBehindReset := by
  unfold State.takeCause
  simp only [Sequencer.haltPending_iff, ite_not]
  split
  · rfl
  · exact State.abandonRollCall_answerHalts (by simp) (by simp) (s.trunkReset_edge cause)

/-! ### START and TRUNK_RESET (R2, R3) -/

/-- Settles O17: `takeStart` and `takeTrunkReset` by part state. -/
theorem startAndTrunkResetTaken : Obligations.StartAndTrunkResetTaken := by
  constructor
  · intro s tag h waiting
    cases hp : s.csq.partState with
    | quiescent => exact exec_waits .start [] h rfl (by simp) (by
        simp [hostOwner, takeStart, decodeNone, State.withHostWaiting, hp, State.waitStart, waiting])
    | halted => exact exec_waits .start [] h rfl (by simp) (by
        simp [hostOwner, takeStart, decodeNone, State.withHostWaiting, hp, State.waitStart, waiting])
    | starting => exact exec_read .start [] h rfl (by simp) (by simp [hostOwner, takeStart, decodeNone, hp])
    | running => exact exec_read .start [] h rfl (by simp) (by simp [hostOwner, takeStart, decodeNone, hp])
  · intro s tag h waiting reset leads
    have hquiet (hp : s.csq.partState = .quiescent ∨ s.csq.partState = .halted) :
        leads (s.withHostReply .trunkReset tag [] ⟨.notRunning, []⟩) :=
      exec_read .trunkReset [] h rfl (by simp) (by
        rcases hp with hp | hp <;> simp [hostOwner, takeTrunkReset, decodeNone, hp])
    have hcause (hp : ¬ (s.csq.partState = .quiescent ∨ s.csq.partState = .halted)) :
        leads ((waiting.waitStart tag).takeCause .trunkReset) := by
      refine exec_waits .trunkReset [] h rfl (by simp) ?_
      cases hst : s.csq.partState <;>
        simp [hostOwner, takeTrunkReset, decodeNone, State.withHostWaiting, hst, waiting] at hp ⊢
    split
    · next hp => exact hquiet hp
    · next hp =>
      have hled := hcause hp
      rw [State.takeCause_eq] at hled
      split
      · next hw =>
        rw [if_pos (show (waiting.waitStart tag).csq.haltWaiters = [] from hw)] at hled
        exact hled
      · next hw =>
        rw [if_neg (show ¬ (waiting.waitStart tag).csq.haltWaiters = [] from hw)] at hled
        have hstart : reset.csq.startWaiters = s.csq.startWaiters ++ [tag] := by simp [reset]
        have hhalt : reset.csq.haltWaiters = s.csq.haltWaiters := by simp [reset]
        have hlast : reset.csq.lastCycle = s.csq.lastCycle := by simp [reset]
        rw [← hstart, ← hhalt, ← hlast]
        exact hled

/-! ### HALT (R5, R30, R140) -/

/-- A departure's completion leaves the Host Link alone, whatever stands in it. -/
theorem State.completeDeparture_withLink (s : State) (h : HostLink) (e : Station) :
    State.completeDeparture { s with hlk := h } e = { s.completeDeparture e with hlk := h } := by
  unfold State.completeDeparture
  split <;> rfl

theorem State.completeDepartureFold_withLink (l : List Station) (s : State) (h : HostLink) :
    l.foldl State.completeDeparture { s with hlk := h } = { l.foldl State.completeDeparture s with hlk := h } := by
  induction l generalizing s with
  | nil => rfl
  | cons e l ih => rw [List.foldl_cons, State.completeDeparture_withLink, ih, List.foldl_cons]

/-- Only DEPARTING entries have a departure to complete (R145). -/
theorem State.completeDepartureFold_filter (l : List Station) (s : State) : l.foldl State.completeDeparture s =
    (l.filter (fun e => e.state != .present)).foldl State.completeDeparture s := by
  induction l generalizing s with
  | nil => rfl
  | cons e l ih =>
    rw [List.foldl_cons, ih]
    by_cases he : e.state = .present
    · rw [List.filter_cons_of_neg (by simp [he])]
      simp [State.completeDeparture, he]
    · rw [List.filter_cons_of_pos (by simp [he]), List.foldl_cons]

/-- The departures complete in one pass over the DEPARTING entries (R145). -/
theorem State.completeDepartures_eq (s : State) : s.completeDepartures =
    (s.rst.stations.filter (fun e => e.state != .present)).foldl State.completeDeparture s :=
  State.completeDepartureFold_filter _ s

/-- Settles O18: `takeHalt` by part state. -/
theorem haltTaken : Obligations.HaltTaken := by
  intro s tag h leads done replied
  have hquiet (hp : s.csq.partState = .quiescent ∨ s.csq.partState = .halted) : leads replied :=
    exec_read .halt [] h rfl (by simp) (by
      rcases hp with hp | hp <;>
        simp [hostOwner, takeHalt, decodeNone, hp, State.haltReply, done, Sequencer.cycleNumber])
  cases hp : s.csq.partState with
  | quiescent => exact hquiet (.inl hp)
  | halted => exact hquiet (.inr hp)
  | starting =>
    let left := (s.rst.stations.filter (fun e => e.state != .present)).foldl State.completeDeparture s
    have howner := exec_owner (c := .halt tag []) (t := (s.withHostWaiting .halt tag []).abandonRollCall) (r := done) .halt []
      h rfl (by simp) (by
        simp [hostOwner, takeHalt, decodeNone, State.withHostWaiting, hp, State.haltReply, done, Sequencer.cycleNumber])
    have hleft : (s.withHostWaiting .halt tag []).completeDepartures =
        { left with hlk := (s.withHostWaiting .halt tag []).hlk } := by
      rw [State.completeDepartures_eq]
      exact State.completeDepartureFold_withLink _ s _
    have hcsq : left.csq = s.csq := by
      have := (s.withHostWaiting .halt tag []).completeDepartures_frame.1
      rw [hleft] at this
      exact this
    have hrst (r : Roster) : { r with stations := [], rollPeriod := 0 } =
        ({ left.rst with stations := [], rollPeriod := 0, known := r.known, epoch := r.epoch } : Roster) := rfl
    have hepoch := (Roster.touchAll_frame left.rst left.rst.stations).1
    show exec _ _ = Host.Outcome.next (State.transmit _)
    refine howner.trans (congrArg (fun t : State => Host.Outcome.next t.transmit) ?_)
    unfold State.abandonRollCall State.clearRoster State.answerStarts State.enterHalted State.answer
    rw [hleft]
    simp only [hcsq]
    rw [hrst, hepoch]
  | running =>
    show if s.csq.phase = .stretch then _ else _
    split
    · next hph =>
      refine exec_answered .halt [] h rfl (by simp) (u := (s.withHostWaiting .halt tag []).enterHalted) (r := done) ?_ rfl rfl
      simp only [hostOwner, takeHalt, decodeNone, State.openEntry_csq, hp, hph, if_true]
      rfl
    · next hph =>
      refine exec_waits .halt [] h rfl (by simp) ?_
      simp only [hostOwner, takeHalt, decodeNone, State.withHostWaiting, State.openEntry_csq, hp, hph, if_false]

/-! ### RESET (R7, R188) -/

/-- The requests that RESET answers ABORTED are those that waited before it (R7). -/
theorem State.otherWaiting_openEntry {s : State} {q : HostRequest} (hq : ∀ e ∈ s.hlk.table, e.tag ≠ q.tag) :
    (s.openEntry q).hlk.otherWaiting q.tag =
      (s.hlk.table.filter (fun e => e.state = .waiting)).map TableEntry.tag := by
  have hold : s.hlk.table.filter (fun e => e.isWaiting && e.tag != q.tag) =
      s.hlk.table.filter (fun e => e.state = .waiting) :=
    List.filter_congr (fun e he => by rw [Bool.eq_iff_iff]; simp [TableEntry.isWaiting, hq e he])
  simp only [HostLink.otherWaiting, State.openEntry_hlk, List.filter_append, hold]
  simp [HostRequest.entry]

/-- Settles O19: `takeReset`, and `State.judge` while a soft reset is pending. -/
theorem resetTaken : Obligations.ResetTaken := by
  intro s tag h others aborted t
  have hothers : (s.openEntry (.of Kind.reset.code tag [])).hlk.otherWaiting tag = others :=
    State.otherWaiting_openEntry h.2.2.2.1
  refine ⟨?_, fun u kind later body hu => ?_⟩
  · refine (exec_owner (c := .reset tag []) .reset [] h rfl (by simp) rfl).trans
      (congrArg (fun t : State => Host.Outcome.next t.transmit) ?_)
    simp only [State.withHostWaiting, hothers]
    rfl
  · simp [State.hostRequest, State.judge, hu]

/-! ### The reset burst (R131) -/

/-- Settles O53: `State.takeBurst` and `State.countBurst` case by case. -/
theorem resetBurstDetected : Obligations.ResetBurstDetected := by
  intro s units quiet hb leads counted ends
  have hexec : exec (.resetBurst units quiet) s = .next (State.transmit (s.takeBurst units quiet)) := rfl
  split
  · next hp =>
    have hwatch : s.csq.partState.watchesBurst = false := by
      rcases hp with hp | hp <;> rw [hp] <;> rfl
    simpa [State.takeBurst, hwatch] using hexec
  · next hp =>
    have hwatch : s.csq.partState.watchesBurst = true := by
      cases hst : s.csq.partState <;> simp [hst] at hp ⊢ <;> rfl
    have hends : s.takeBurst units quiet = ends (s.countBurst units) := by
      simp only [State.takeBurst, hwatch, if_true, ends, counted]
      rfl
    rw [hends] at hexec
    split
    · next hfew =>
      have hcount : s.countBurst units = counted s (min 16 (s.tpt.burst + units)) := by
        refine if_neg (fun h => ?_)
        simp only [Config.burstUnits] at h
        omega
      rw [hcount] at hexec
      exact hexec
    · next hmany =>
      have hcount : s.countBurst units = (counted s 16).takeCause .stationBurst := by
        have h16 : min Config.burstUnits (s.tpt.burst + units) = 16 := by simp only [Config.burstUnits]; omega
        unfold State.countBurst
        simp only [h16]
        exact if_pos ⟨by simp only [Config.burstUnits]; omega, rfl⟩
      rw [hcount, State.takeCause_eq] at hexec
      split
      · next hw => rw [if_pos (show (counted s 16).csq.haltWaiters = [] from hw)] at hexec; exact hexec
      · next hw =>
        intro reset
        rw [if_neg (show ¬ (counted s 16).csq.haltWaiters = [] from hw)] at hexec
        have hstart : reset.csq.startWaiters = s.csq.startWaiters := by simp [reset, counted]
        have hhalt : reset.csq.haltWaiters = s.csq.haltWaiters := by simp [reset, counted]
        have hlast : reset.csq.lastCycle = s.csq.lastCycle := by simp [reset, counted]
        rw [← hstart, ← hhalt, ← hlast]
        exact hexec

end Sys2Proof.Machine
end

section
/-! SUPPORT. The Trunk Port's queue: notices (9.4), the 4024's share of the open window (2.3, 9.3), and the roll call that
shares it (7.2). -/

namespace Sys2Proof.Machine

/-! ### Roster entries by number and by tag -/

/-- With unique numbers, changing a number's entry is changing every entry of the number. -/
theorem Roster.update_eq {r : Roster} (h : (r.stations.map Station.number).Nodup) (number : Nat) (f : Station → Station) :
    r.update number f = { r with stations := r.stations.map (fun x => if x.number = number then f x else x) } := by
  rw [Roster.update, updateFirst_key Station.number f number _ h]

/-- The entry under a number, where numbers are unique. -/
theorem Roster.byNumber_of_mem {r : Roster} (h : (r.stations.map Station.number).Nodup) {e : Station}
    (he : e ∈ r.stations) : r.byNumber e.number = some e :=
  find?_of_mem Station.number e _ h he

/-- No entry is found under a number that none has. -/
theorem Roster.byNumber_none {r : Roster} {number : Nat} (h : ∀ e ∈ r.stations, e.number ≠ number) :
    r.byNumber number = none :=
  List.find?_eq_none.2 (fun e he => by simpa using h e he)

/-- The entry of a tag, where tags are unique. -/
theorem Roster.byTag_of_mem {r : Roster} (h : (r.stations.map Station.tag).Nodup) {e : Station}
    (he : e ∈ r.stations) : r.byTag e.tag = some e :=
  find?_of_mem Station.tag e _ h he

/-- No entry is found for a tag that none has. -/
theorem Roster.byTag_none {r : Roster} {t : Tag} (h : ∀ e ∈ r.stations, e.tag ≠ t) : r.byTag t = none :=
  List.find?_eq_none.2 (fun e he => by simpa using h e he)

/-- The number of a tag's entry while it is PRESENT, where tags are unique. -/
theorem Roster.presentNumber_of_mem {r : Roster} (h : (r.stations.map Station.tag).Nodup) {e : Station}
    (he : e ∈ r.stations) : r.presentNumber e.tag = if e.state = .present then some e.number else none := by
  have hsame : ∀ x ∈ r.stations, x.tag = e.tag → x = e := fun x hx hxe => List.inj_on_of_nodup_map h hx he hxe
  have hfind : r.stations.find? (fun x => x.tag == e.tag && x.isPresent) = if e.state = .present then some e else none := by
    cases hf : r.stations.find? (fun x => x.tag == e.tag && x.isPresent) with
    | none =>
      have := List.find?_eq_none.1 hf e he
      simp only [BEq.rfl, Bool.true_and, Station.isPresent, beq_iff_eq] at this
      rw [if_neg this]
    | some x =>
      have hx := List.find?_some hf
      rw [Bool.and_eq_true, beq_iff_eq] at hx
      obtain rfl := hsame x (List.mem_of_find?_eq_some hf) hx.1
      rw [if_pos (by simpa [Station.isPresent] using hx.2)]
  unfold Roster.presentNumber
  rw [hfind]
  split <;> rfl

/-- A tag that is not in the roster has no PRESENT number. -/
theorem Roster.presentNumber_none {r : Roster} {t : Tag} (h : ∀ e ∈ r.stations, e.tag ≠ t) : r.presentNumber t = none := by
  have : r.stations.find? (fun x => x.tag == t && x.isPresent) = none :=
    List.find?_eq_none.2 (fun e he => by simp [h e he])
  simp [Roster.presentNumber, this]

/-! ### Notices (R174 to R176) -/

/-- The roster with a number's notices-dropped flag set or cleared. -/
def Roster.flagged (r : Roster) (number : Nat) (d : Bool) : Roster :=
  { r with stations := r.stations.map (fun x => if x.number = number then { x with dropped := d } else x) }

/-- A NOTICE frame carries the notices-dropped flag and clears it (R174, R175). -/
theorem State.joinNotice_eq {s : State} (h : (s.rst.stations.map Station.number).Nodup) {e : Station}
    (he : e ∈ s.rst.stations) (n : Notice) : s.joinNotice e.number n = { s with
      rst := s.rst.flagged e.number false
      tpt := { s.tpt with outbound := s.tpt.outbound ++ [.notice e.number e.tag s.rst.epoch e.dropped n] } } := by
  simp only [State.joinNotice, Roster.byNumber_of_mem h he, State.pushFrame_rst, Roster.update_eq h]
  rfl

/-- A notice with the queue full is parked; a fifth drops the station's oldest (R175). -/
theorem State.parkNotice_eq {s : State} (h : (s.rst.stations.map Station.number).Nodup) (number : Nat) (n : Notice) :
    if (s.tpt.parked.filter (fun p => p.number == number)).length < 4 then
      s.parkNotice number n = { s with tpt := { s.tpt with parked := s.tpt.parked ++ [⟨number, n⟩] } }
    else ∃ before p after, s.tpt.parked = before ++ p :: after ∧ p.number = number ∧ (∀ x ∈ before, x.number ≠ number) ∧
      s.parkNotice number n = { s with
        rst := s.rst.flagged number true
        tpt := { s.tpt with parked := before ++ after ++ [⟨number, n⟩] } } := by
  unfold State.parkNotice
  split
  · next hfew => exact if_pos hfew
  · next hfull =>
    have hpos : 0 < (s.tpt.parked.filter (fun p => p.number == number)).length := by omega
    obtain ⟨x, hx⟩ := List.exists_mem_of_length_pos hpos
    obtain ⟨hmem, hnum⟩ := List.mem_filter.1 hx
    obtain ⟨p, before, after, hbefore, hp, hsplit, herase⟩ := List.exists_of_eraseP (p := fun p => p.number == number) hmem hnum
    refine ⟨before, p, after, hsplit, by simpa using hp, fun y hy => by simpa using hbefore y hy, (if_neg hfull).trans ?_⟩
    rw [herase, Roster.update_eq h]
    rfl

/-- Settles O51: a notice that joins, one that is parked, one that leaves its place, and one for a tag. -/
theorem noticesQueuedOrParked : Obligations.NoticesQueuedOrParked := by
  constructor
  · intro s number kind body hkeyed u own flagged
    obtain ⟨-, -, -, hn, -⟩ := hkeyed
    refine ⟨fun hnone => ?_, ?_, fun hp => ?_, ?_⟩
    · simp [u, State.handNotice, Roster.byNumber_none hnone]
    · rintro e he rfl
      have hu : u = if s.tpt.hasRoom then s.joinNotice e.number ⟨kind, body⟩ else s.parkNotice e.number ⟨kind, body⟩ := by
        simp only [u, State.handNotice, Roster.byNumber_of_mem hn he]
      have hroom : s.tpt.hasRoom = true ↔ s.tpt.outbound.length < 32 := by
        exact decide_eq_true_iff
      rw [if_congr hroom rfl rfl] at hu
      split
      · next hlt => rw [hu, if_pos hlt, State.joinNotice_eq hn he]; rfl
      · next hge =>
        rw [if_neg hge] at hu
        rw [hu]
        exact State.parkNotice_eq hn e.number ⟨kind, body⟩
    · simp [State.unpark, hp]
    · intro p rest hp e he hnum
      simp only [State.unpark, hp, ← hnum]
      exact State.joinNotice_eq (s := { s with tpt := { s.tpt with parked := rest } }) hn he p.notice
  · intro s t kind body hkeyed
    obtain ⟨-, -, htags, -⟩ := hkeyed
    constructor
    · rintro e he rfl
      unfold State.noticeIfPresent
      rw [Roster.presentNumber_of_mem htags he]
      by_cases hp : e.state = .present
      · rw [if_pos hp, if_pos hp]
      · rw [if_neg hp, if_neg hp]
    · exact fun hnone => by simp [State.noticeIfPresent, Roster.presentNumber_none hnone]

/-! ### The 4024's share (R21, R172, R176) -/

/-- The trunk frame that the statements spell out is the one the model seals (R203). -/
theorem trunkFrame_eq (fields : List Byte) (units : Nat) : trunkFrame fields units = sealFrame fields units := rfl

/-- Every slot has its observation exactly if none of the list is pending (R114). -/
theorem State.slotsObserved_iff (s : State) : s.slotsObserved = true ↔ ∀ x ∈ s.svw, x.seen ≠ .pending := by
  simp [State.slotsObserved]

/-- With an empty queue the share is over (R21). -/
theorem State.continueShare_nil {s : State} (h : s.tpt.outbound = []) (left : Nat) : s.continueShare left = s.endShare := by
  unfold State.continueShare
  split
  · rfl
  · next f tail hcons => exact absurd (h.symm.trans hcons) nofun

/-- The frame at the head of the queue begins where it fits, else the share is over (R21). -/
theorem State.continueShare_cons {s : State} {f : OutFrame} {rest : List OutFrame} (h : s.tpt.outbound = f :: rest) (left : Nat) :
    s.continueShare left =
      if f.units ≤ left then { s with tpt := { s.tpt with share := some left, sending := some (.outbound f) } }
      else s.endShare := by
  unfold State.continueShare
  split
  · next hnil => exact absurd (hnil.symm.trans h) nofun
  · next g tail hcons =>
    obtain ⟨rfl, rfl⟩ := List.cons.inj (hcons.symm.trans h)
    exact Eq.refl _

/-- Settles O52: `State.openShare` and `State.frameSent` by what is being sent, and the frames' bytes. -/
theorem shareOfTheWindow : Obligations.ShareOfTheWindow := by
  constructor
  · intro s ended goesOn
    have hgoesOn (s : State) (left : Nat) : s.continueShare left = goesOn s left := by
      simp only [goesOn, ended]
      split
      · next hnil => exact State.continueShare_nil hnil left
      · next f tail hcons => exact State.continueShare_cons hcons left
    refine ⟨fun left => ?_, fun h hs => ?_, fun hheader hcall => ⟨fun left f rest hshare hout => ?_, fun hnone => ?_⟩⟩
    · have hexec : exec (.openWindowShare left) s = .next (State.transmit (s.openShare left)) := rfl
      unfold State.openShare at hexec
      simp only [State.slotsObserved_iff, hgoesOn] at hexec
      split
      · next h => rw [if_pos h] at hexec; exact hexec
      · next h => rw [if_neg h] at hexec; exact hexec
    · show Host.Outcome.next (State.transmit s.frameSent) = _
      simp only [State.frameSent, hs]
      rfl
    · have hqueued : s.frameSent = s.queuedFrameSent := by
        unfold State.frameSent
        split
        · next h hs => exact absurd hs (hheader h)
        · next epoch period hs => exact absurd hs (hcall epoch period)
        · rfl
      show Host.Outcome.next (State.transmit s.frameSent) = _
      rw [hqueued]
      simp only [State.queuedFrameSent, hshare, hout, hgoesOn]
    · have hqueued : s.frameSent = s.queuedFrameSent := by
        unfold State.frameSent
        split
        · next h hs => exact absurd hs (hheader h)
        · next epoch period hs => exact absurd hs (hcall epoch period)
        · rfl
      show Host.Outcome.next (State.transmit s.frameSent) = _
      rw [hqueued]
      rcases hnone with h | h
      · simp [State.queuedFrameSent, h]
      · cases hshare : s.tpt.share <;> simp [State.queuedFrameSent, h, hshare]
  · intro s
    refine ⟨by simp [State.trkDir, Option.isSome_iff_ne_none], fun h => by simp [State.trkBytes, h], fun f hf => ?_⟩
    have hbytes : s.trkBytes = some f.bytes := by simp [State.trkBytes, hf, TrunkSending.bytes]
    intro carries
    cases f with
    | reply number tag epoch seq kind r =>
      have hunits : unitsFor (15 + r.body.length + 2) 3 = max 3 ((r.body.length + 24) / 8) := by unfold unitsFor; omega
      refine ⟨hunits, hbytes.trans (congrArg some ?_)⟩
      simp only [OutFrame.bytes, OutFrame.units, trunkFrame_eq, hunits, trunkHead, List.cons_append, List.append_assoc,
        List.nil_append]
    | assign tag number epoch => exact ⟨rfl, hbytes⟩
    | notice number tag epoch dropped n =>
      have hunits : unitsFor (14 + n.body.length + 2) 2 = max 2 ((n.body.length + 23) / 8) := by unfold unitsFor; omega
      refine ⟨hunits, hbytes.trans (congrArg some ?_)⟩
      simp only [OutFrame.bytes, OutFrame.units, trunkFrame_eq, hunits, trunkHead, List.cons_append, List.append_assoc,
        List.nil_append]
      rfl

/-! ### The roll call (R135, R139) -/

/-- The start waiters' answers behind a boundary, which leaves them and the Host Link alone (R139). -/
theorem State.boundary_answerStarts (s : State) (timing : Timing) (stretch : Nat) (r : Reply) :
    (s.boundary timing stretch).answerStarts r = { s.boundary timing stretch with
      csq := { (s.boundary timing stretch).csq with startWaiters := [] }
      hlk := s.hlk.answerEach s.csq.startWaiters r } := by
  obtain ⟨-, hlink, -, -, -, -, -, hstart, -⟩ := s.boundary_frame timing stretch
  unfold State.answerStarts
  rw [hlink, hstart]

/-- The state whose first boundary the end of the roll call raises (R139). -/
def State.running (s : State) : State :=
  { s with
    csq := { s.csq with partState := .running }, rst := { s.rst with rollPeriod := 0 }
    rpu := (s.offer .rollCallDone [s.rst.epoch, byteOf s.rst.stations.length, byteOf s.lgr.holdings.length]).rpu }

/-- The end of the roll call (R4, R139). -/
theorem State.endRollCall_eq (s : State) : s.endRollCall = { s.running.boundary .onTime 0 with
    csq := { (s.running.boundary .onTime 0).csq with startWaiters := [] }
    hlk := s.hlk.answerEach s.csq.startWaiters
      ⟨.done, [s.rst.epoch, byteOf s.rst.stations.length, byteOf s.lgr.holdings.length]⟩ } := by
  have hend : s.endRollCall = (s.running.boundary .onTime 0).answerStarts ⟨.done, s.rollCallBody⟩ := by
    unfold State.endRollCall
    exact congrArg (fun u : State => (u.boundary .onTime 0).answerStarts ⟨.done, s.rollCallBody⟩) rfl
  rw [hend, State.boundary_answerStarts]
  rfl

/-- Settles O46: a period's beginning, its call's end, and the end of the eighth. -/
theorem rollCallRuns : Obligations.RollCallRuns := by
  intro s counts
  refine ⟨?_, fun epoch period hs => ?_, fun epoch period hs => ?_, ?_⟩
  · have hexec : exec .rollCallPeriod s = .next (State.transmit s.callPeriod) := rfl
    unfold State.callPeriod at hexec
    split
    · next h => exact hexec.trans (congrArg (fun t : State => Host.Outcome.next t.transmit) (if_pos h))
    · next h => exact hexec.trans (congrArg (fun t : State => Host.Outcome.next t.transmit) (if_neg h))
  · show Host.Outcome.next (State.transmit s.frameSent) = _
    have hsent : s.frameSent = s.continueShare 64 := by
      simp only [State.frameSent, hs]
      rfl
    rw [hsent]
    have hport (t : State) {p : TrunkPort} (ht : t = { s with tpt := p }) :
        (.next t.transmit : Host.Outcome State Fault Refusal) = .next (State.transmit { s with tpt := p }) := by rw [ht]
    refine hport _ ?_
    split
    · next hnil => exact State.continueShare_nil hnil 64
    · next f tail hcons =>
      refine (State.continueShare_cons hcons 64).trans ?_
      by_cases hf : f.units ≤ 64
      · exact (if_pos hf).trans (congrArg (fun p => { s with tpt := p }) (if_pos hf).symm)
      · exact (if_neg hf).trans (congrArg (fun p => { s with tpt := p }) (if_neg hf).symm)
  · simp only [State.trkDir, State.trkBytes, hs]
    exact ⟨rfl, rfl⟩
  · have hexec : exec .rollCallEnd s = .next (State.transmit s.rollCallEnd) := rfl
    unfold State.rollCallEnd at hexec
    split
    · next h =>
      intro opened
      have hend := hexec.trans (congrArg (fun t : State => Host.Outcome.next t.transmit) (if_pos h))
      rw [State.endRollCall_eq] at hend
      have hopened : opened = s.running.boundary .onTime 0 :=
        congrArg (fun u : State => u.boundary .onTime 0) (rfl : _ = s.running)
      rw [hopened]
      exact hend
    · next h => exact hexec.trans (congrArg (fun t : State => Host.Outcome.next t.transmit) (if_neg h))

end Sys2Proof.Machine
end

section
/-! SUPPORT. What stations send (9.2, 12.3): a transmission as the frame it is, and REQUEST frames that are not executed. -/

namespace Sys2Proof.Machine

/-! ### Sealed frames (R203, R204) -/

/-- A sealed frame runs for its units. -/
theorem trunkFrame_length {fields : List Byte} {units : Nat} (h : fields.length + 2 ≤ units * 8) :
    (trunkFrame fields units).length = units * 8 := by
  simp only [trunkFrame, checkBytes, be16, List.length_append, List.length_replicate, List.length_cons, List.length_nil]
  omega

/-- A sequence of bytes sealed with its check has a check that holds (R199). -/
theorem checkHolds_sealed (covered : List Byte) : checkHolds (covered ++ checkBytes (frameCheck covered)) = true := by
  have hlen : (covered ++ checkBytes (frameCheck covered)).length - 2 = covered.length := by
    simp [checkBytes, be16]
  simp only [checkHolds, hlen, List.drop_left, List.take_left, BEq.rfl]

/-- A number of at most two bytes is read as it was sent (R201). -/
theorem word16_be16 {n : Nat} (h : n < 65536) : word16 (byteOf (n / 256)) (byteOf n) = n := by
  simp only [word16, byteOf, BitVec.toNat_ofNat]
  omega

/-- When a transmission is a whole frame (R204). -/
theorem isWholeFrame_iff {type b1 b2 lhi llo b5 : Byte} {rest : List Byte} :
    isWholeFrame (type :: b1 :: b2 :: lhi :: llo :: b5 :: rest) = true ↔
      ∃ least most, frameLengths type = some (least, most) ∧ least ≤ word16 lhi llo ∧ word16 lhi llo ≤ most ∧
        (type :: b1 :: b2 :: lhi :: llo :: b5 :: rest).length = word16 lhi llo * 8 ∧
        checkHolds (type :: b1 :: b2 :: lhi :: llo :: b5 :: rest) = true := by
  unfold isWholeFrame
  simp only
  cases hl : frameLengths type with
  | none => simp
  | some range =>
    obtain ⟨least, most⟩ := range
    simp only [Bool.and_eq_true, decide_eq_true_eq, beq_iff_eq, Config.unitBytes, Option.some.injEq, Prod.mk.injEq]
    constructor
    · rintro ⟨⟨⟨hleast, hmost⟩, hlen⟩, hcheck⟩
      exact ⟨least, most, ⟨rfl, rfl⟩, hleast, hmost, hlen, hcheck⟩
    · rintro ⟨_, _, ⟨rfl, rfl⟩, hleast, hmost, hlen, hcheck⟩
      exact ⟨⟨⟨hleast, hmost⟩, hlen⟩, hcheck⟩

/-- A frame sealed for its units, of a type that may have them, is whole (R204). -/
theorem isWholeFrame_trunkFrame {type b1 b2 b5 : Byte} {fields : List Byte} {units least most : Nat}
    (ht : frameLengths type = some (least, most)) (hunits : least ≤ units ∧ units ≤ most) (hmost : most < 65536)
    (hlen : fields.length + 8 ≤ units * 8) :
    isWholeFrame (trunkFrame ([type, b1, b2] ++ be16 units ++ (b5 :: fields)) units) = true := by
  have hlength : (trunkFrame ([type, b1, b2] ++ be16 units ++ (b5 :: fields)) units).length = units * 8 :=
    trunkFrame_length (by simp [be16]; omega)
  have hcheck : checkHolds (trunkFrame ([type, b1, b2] ++ be16 units ++ (b5 :: fields)) units) = true :=
    checkHolds_sealed _
  have hword : word16 (byteOf (units / 256)) (byteOf units) = units := word16_be16 (by omega)
  refine isWholeFrame_iff.2 ⟨least, most, ht, ?_, ?_, ?_, hcheck⟩
  · rw [hword]; exact hunits.1
  · rw [hword]; exact hunits.2
  · rw [hword]; exact hlength

/-- What is read of a sealed frame behind its head: its fields, and something behind them. -/
theorem trunkFrame_eq_append (fields : List Byte) (units : Nat) : ∃ more, trunkFrame fields units = fields ++ more :=
  ⟨_, List.append_assoc _ _ _⟩

/-- A REQUEST frame is read as the request that it carries (R203, R204). -/
theorem receive_requestFrame (number epoch : Byte) (seq : BitVec 4) (kind : Byte) {body : List Byte}
    (hb : body.length ≤ 54) :
    (requestFrameBytes number epoch seq kind body).length ≤ 64 ∧
    receive (requestFrameBytes number epoch seq kind body) = some (.request number epoch seq kind body) := by
  obtain ⟨units, hu⟩ : ∃ units, units = max 2 ((body.length + 17) / 8) := ⟨_, rfl⟩
  have hlow : 2 ≤ units ∧ units ≤ 8 ∧ body.length + 10 ≤ units * 8 := by omega
  obtain ⟨hleast, hmost, hroom⟩ := hlow
  have hbytes : requestFrameBytes number epoch seq kind body =
      trunkFrame ([0x71, number, epoch] ++ be16 units ++ ([byteOf seq.toNat, kind, byteOf body.length] ++ body)) units := by
    simp only [requestFrameBytes, hu, List.append_assoc]
  have hlength : (requestFrameBytes number epoch seq kind body).length = units * 8 := by
    rw [hbytes]; exact trunkFrame_length (by simp [be16]; omega)
  have hwhole : isWholeFrame (requestFrameBytes number epoch seq kind body) = true := by
    rw [hbytes]
    exact isWholeFrame_trunkFrame (least := 2) (most := 8) rfl ⟨hleast, hmost⟩ (by decide) (by simp; omega)
  have hcount : (byteOf body.length).toNat = body.length := byteOf_toNat _ (by omega)
  have hseq : (byteOf seq.toNat).setWidth 4 = seq := by
    apply BitVec.eq_of_toNat_eq
    have := seq.isLt
    simp only [byteOf, BitVec.toNat_setWidth, BitVec.toNat_ofNat]
    omega
  obtain ⟨more, hmore⟩ := trunkFrame_eq_append
    ([0x71, number, epoch] ++ be16 units ++ ([byteOf seq.toNat, kind, byteOf body.length] ++ body)) units
  rw [← hbytes] at hmore
  refine ⟨by omega, ?_⟩
  have hshape : requestFrameBytes number epoch seq kind body = 0x71 :: number :: epoch :: byteOf (units / 256) ::
      byteOf units :: byteOf seq.toNat :: kind :: byteOf body.length :: (body ++ more) := by
    rw [hmore]; simp [be16]
  unfold receive
  rw [hwhole, hlength, hshape]
  simp only [Bool.not_true, Bool.false_eq_true, if_false, if_true, hcount, hseq, List.take_left]
  rw [if_neg (by omega)]

/-- Six bytes taken apart give back the tag (R201). -/
theorem tagOf_tagBytes (t : Tag) : tagOf (t.extractLsb' 40 8) (t.extractLsb' 32 8) (t.extractLsb' 24 8)
    (t.extractLsb' 16 8) (t.extractLsb' 8 8) (t.extractLsb' 0 8) = t := by
  refine BitVec.eq_of_getLsbD_eq fun i hi => ?_
  have hpacks : packs (tagOf (t.extractLsb' 40 8) (t.extractLsb' 32 8) (t.extractLsb' 24 8) (t.extractLsb' 16 8)
      (t.extractLsb' 8 8) (t.extractLsb' 0 8)) [t.extractLsb' 0 8, t.extractLsb' 8 8, t.extractLsb' 16 8,
      t.extractLsb' 24 8, t.extractLsb' 32 8, t.extractLsb' 40 8] :=
    packs_append (packs_append (packs_append (packs_append (packs_append (packs_singleton _) _) _) _) _) _
  rw [hpacks i]
  have hbyte : ∀ k, 8 * k + i % 8 = i → (t.extractLsb' (8 * k) 8).getLsbD (i % 8) = t.getLsbD i :=
    fun k hk => by rw [BitVec.getLsbD_extractLsb', hk]; simp [Nat.mod_lt]
  obtain h | h | h | h | h | h : i / 8 = 0 ∨ i / 8 = 1 ∨ i / 8 = 2 ∨ i / 8 = 3 ∨ i / 8 = 4 ∨ i / 8 = 5 := by omega
  · rw [h]; exact hbyte 0 (by omega)
  · rw [h]; exact hbyte 1 (by omega)
  · rw [h]; exact hbyte 2 (by omega)
  · rw [h]; exact hbyte 3 (by omega)
  · rw [h]; exact hbyte 4 (by omega)
  · rw [h]; exact hbyte 5 (by omega)

/-- A JOIN or ROLL_ANSWER frame is read as the row that it is (R203, R204). -/
theorem receive_tagFrame {type : Byte} (htype : type = 0x72 ∨ type = 0x73) (epoch : Byte) (t : Tag) :
    (tagFrameBytes type epoch t).length ≤ 64 ∧ receive (tagFrameBytes type epoch t) =
      some (if type = 0x72 then .join t epoch else .rollAnswer t epoch) := by
  have hbytes : tagFrameBytes type epoch t =
      trunkFrame ([type, 0, epoch] ++ be16 2 ++ ([0, 0, 0] ++ tagBytes t)) 2 := by
    simp only [tagFrameBytes, List.append_assoc]
  have hlength : (tagFrameBytes type epoch t).length = 2 * 8 := by
    rw [hbytes]; exact trunkFrame_length (by simp [be16, tagBytes])
  have hwhole : isWholeFrame (tagFrameBytes type epoch t) = true := by
    rw [hbytes]
    refine isWholeFrame_trunkFrame (least := 2) (most := 2) ?_ ⟨le_rfl, le_rfl⟩ (by decide) (by simp [tagBytes])
    rcases htype with rfl | rfl <;> rfl
  obtain ⟨more, hmore⟩ := trunkFrame_eq_append ([type, 0, epoch] ++ be16 2 ++ ([0, 0, 0] ++ tagBytes t)) 2
  rw [← hbytes] at hmore
  refine ⟨by omega, ?_⟩
  unfold receive
  rw [hwhole, hlength, hmore]
  simp only [be16, tagBytes, List.cons_append, List.nil_append, Bool.not_true, Bool.false_eq_true, if_false,
    tagOf_tagBytes]
  rcases htype with rfl | rfl <;> rfl

/-- What a frame of at least a unit that is read and not passed over has (R165, R204). -/
theorem receive_cons_taken {type station epoch lhi llo b5 b6 b7 : Byte} {rest : List Byte} {x : Received}
    (h : receive (type :: station :: epoch :: lhi :: llo :: b5 :: b6 :: b7 :: rest) = some x) (hx : x ≠ .other) :
    isWholeFrame (type :: station :: epoch :: lhi :: llo :: b5 :: b6 :: b7 :: rest) = true ∧
    (type = 0x71 ∧ b7.toNat + 10 ≤ rest.length + 8 ∨ type = 0x71 ∧ b7.toNat = 0 ∨ type = 0x72 ∨ type = 0x73) := by
  unfold receive at h
  simp only at h
  split at h
  · exact absurd h nofun
  · next hwhole =>
    refine ⟨by simpa using hwhole, ?_⟩
    split at h
    · next h71 =>
      split at h
      · exact absurd h nofun
      · next hlen =>
        simp only [List.length_cons] at hlen
        by_cases hzero : b7.toNat = 0
        · exact .inr (.inl ⟨h71, hzero⟩)
        · exact .inl ⟨h71, by omega⟩
    · split at h
      · split at h
        · next h72 => exact .inr (.inr (.inl h72))
        · split at h
          · next h73 => exact .inr (.inr (.inr h73))
          · exact absurd (Option.some.inj h).symm hx
      · exact absurd (Option.some.inj h).symm hx

/-- What makes a transmission one that the Trunk Port passes on (R165, R204). -/
theorem receive_taken {bytes : List Byte} {x : Received} (h : receive bytes = some x) (hx : x ≠ .other) :
    checkHolds bytes = true ∧ bytes.headD 0 ∈ [0x71, 0x72, 0x73] ∧
    bytes.length = word16 (bytes.getD 3 0) (bytes.getD 4 0) * 8 ∧ 16 ≤ bytes.length ∧
    (bytes.headD 0 ∈ [0x72, 0x73] → bytes.length = 16) ∧
    (bytes.headD 0 = 0x71 → (bytes.getD 7 0).toNat + 10 ≤ bytes.length) := by
  obtain ⟨type, station, epoch, lhi, llo, b5, b6, b7, rest, rfl⟩ : ∃ type station epoch lhi llo b5 b6 b7 rest,
      bytes = type :: station :: epoch :: lhi :: llo :: b5 :: b6 :: b7 :: rest := by
    unfold receive at h
    split at h
    · exact ⟨_, _, _, _, _, _, _, _, _, rfl⟩
    · exact absurd h nofun
  obtain ⟨hwhole, htype⟩ := receive_cons_taken h hx
  obtain ⟨least, most, hl, hleast, hmost, hlen, hcheck⟩ := isWholeFrame_iff.1 hwhole
  have hlength : (type :: station :: epoch :: lhi :: llo :: b5 :: b6 :: b7 :: rest).length = rest.length + 8 := rfl
  refine ⟨hcheck, ?_, hlen, ?_, ?_, ?_⟩
  · rcases htype with ⟨h71, -⟩ | ⟨h71, -⟩ | h72 | h73 <;> simp [*]
  · rcases htype with ⟨rfl, -⟩ | ⟨rfl, -⟩ | rfl | rfl <;> cases hl <;> omega
  · intro hmem
    rcases htype with ⟨rfl, -⟩ | ⟨rfl, -⟩ | rfl | rfl
    · exact absurd (show (0x71 : Byte) ∈ [0x72, 0x73] from hmem) (by decide)
    · exact absurd (show (0x71 : Byte) ∈ [0x72, 0x73] from hmem) (by decide)
    · cases hl; omega
    · cases hl; omega
  · intro h71
    have h71 : type = 0x71 := h71
    show b7.toNat + 10 ≤ _
    rcases htype with ⟨rfl, hb7⟩ | ⟨rfl, hb7⟩ | rfl | rfl
    · omega
    · cases hl; omega
    · exact absurd h71 (by decide)
    · exact absurd h71 (by decide)

/-! ### Transmissions (R165, R131) -/

/-- A transmission that is no burst pattern, of at most 8 units, is the frame that it is read as. -/
theorem exec_requestFrame_received {s : State} {bytes : List Byte} {x : Received}
    (hburst : bytes.head? ≠ some Config.burstByte) (hlen : bytes.length ≤ 64) (hx : receive bytes = some x) :
    exec (.requestFrame bytes) s = .next (s.takeFrame x).transmit := by
  show Host.Outcome.next (State.transmit (s.takeTransmission bytes)) = _
  unfold State.takeTransmission
  rw [if_neg hburst, if_neg (by simp only [Config.requestUnitsMax, Config.unitBytes]; omega), hx]
  rfl

/-- A station request's row is the request of its kind and body (entry 5). -/
theorem exec_stationRow (s : State) (number epoch : Byte) (seq : BitVec 4) (body : List Byte) :
    ∀ row ∈ stationRows number epoch seq body,
      exec row.2 s = outcome (requestBodyFits body) (s.stationFrame number epoch seq row.1.code body) := by
  unfold stationRows
  iterate 12 refine List.forall_mem_cons.2 ⟨rfl, ?_⟩
  nofun

/-- A body of at most 54 bytes fits a REQUEST frame (R203). -/
theorem requestBodyFits_of {body : List Byte} (h : body.length ≤ 54) : requestBodyFits body = true := by
  simp [requestBodyFits, Config.requestBodyMax, h]

/-- A REQUEST frame is the request that it carries (R165). -/
theorem exec_requestFrameBytes (s : State) (number epoch : Byte) (seq : BitVec 4) (kind : Byte) {body : List Byte}
    (hb : body.length ≤ 54) : exec (.requestFrame (requestFrameBytes number epoch seq kind body)) s =
      .next (s.stationFrame number epoch seq kind body).transmit := by
  obtain ⟨hlen, hreceive⟩ := receive_requestFrame number epoch seq kind hb
  refine exec_requestFrame_received ?_ hlen hreceive
  obtain ⟨more, hmore⟩ := trunkFrame_eq_append
    ([0x71, number, epoch] ++ be16 (max 2 ((body.length + 17) / 8)) ++ [byteOf seq.toNat, kind, byteOf body.length] ++ body)
    (max 2 ((body.length + 17) / 8))
  unfold requestFrameBytes
  rw [hmore]
  exact fun h => absurd (Option.some.inj h) (by decide)

/-- A JOIN or ROLL_ANSWER frame opens no burst pattern (R131). -/
theorem tagFrame_head {type : Byte} (h : type ≠ Config.burstByte) (epoch : Byte) (t : Tag) :
    (tagFrameBytes type epoch t).head? ≠ some Config.burstByte := fun h' => h (Option.some.inj h')

/-- The units of a burst pattern that a transmission opens with (R131). -/
theorem burstUnitsIn_eq {units : Nat} {rest : List Byte} (h : ¬ List.replicate 8 0xF0 <+: rest) :
    burstUnitsIn (List.replicate (units * 8) 0xF0 ++ rest) = units := by
  have hsplit : (List.replicate (units * 8) (0xF0 : Byte) ++ rest).takeWhile (fun b => b == Config.burstByte) =
      List.replicate (units * 8) 0xF0 ++ rest.takeWhile (fun b => b == Config.burstByte) :=
    List.takeWhile_append_of_pos (fun b hb => by rw [List.eq_of_mem_replicate hb]; rfl)
  obtain ⟨run, hrun⟩ : ∃ run, run = rest.takeWhile (fun b => b == Config.burstByte) := ⟨_, rfl⟩
  have hall : run = List.replicate run.length 0xF0 :=
    List.eq_replicate_of_mem (fun b hb => eq_of_beq (List.mem_takeWhile_imp (p := (· == Config.burstByte)) (hrun ▸ hb)))
  have hshort : run.length < 8 := by
    by_contra hlong
    have hprefix : List.replicate 8 (0xF0 : Byte) <+: List.replicate run.length 0xF0 :=
      ⟨List.replicate (run.length - 8) 0xF0, by rw [List.replicate_append_replicate]; congr 1; omega⟩
    rw [← hall, hrun] at hprefix
    exact h (hprefix.trans (List.takeWhile_prefix _))
  unfold burstUnitsIn
  rw [hsplit, ← hrun]
  simp only [List.length_append, List.length_replicate, Config.unitBytes]
  omega

/-- Settles O49: a sealed frame is read back, `receive_taken` for what is not, and the pattern's units. -/
theorem requestFrameIsItsRow : Obligations.RequestFrameIsItsRow := by
  refine ⟨fun s number epoch seq body hb row hrow => ?_, fun s t epoch => ⟨?_, ?_⟩, fun s bytes hburst hbad => ?_,
    fun s units rest hrest => ?_⟩
  · rw [exec_requestFrameBytes s number epoch seq row.1.code hb, exec_stationRow s number epoch seq body row hrow,
      requestBodyFits_of hb]
    rfl
  · obtain ⟨hlen, hreceive⟩ := receive_tagFrame (.inl rfl) epoch t
    exact exec_requestFrame_received (tagFrame_head (by decide) epoch t) hlen hreceive
  · obtain ⟨hlen, hreceive⟩ := receive_tagFrame (.inr rfl) epoch t
    exact exec_requestFrame_received (tagFrame_head (by decide) epoch t) hlen hreceive
  · have hnot : s.takeTransmission bytes = s := by
      unfold State.takeTransmission
      rw [if_neg (show ¬ bytes.head? = some Config.burstByte from hburst)]
      split
      · rfl
      · next hlen =>
        cases hx : receive bytes with
        | none => rfl
        | some x =>
          by_cases hother : x = .other
          · rw [hother]; rfl
          · obtain ⟨hcheck, hhead, hunits, hleast, htag, hbody⟩ := receive_taken hx hother
            exfalso
            rcases hbad with h | h | h | h | h | ⟨h, h'⟩ | ⟨h, h'⟩
            · exact hlen h
            · exact h (by simpa [checkHolds] using hcheck)
            · exact h hhead
            · exact h hunits
            · omega
            · exact h' (htag h)
            · have := hbody h; omega
    show Host.Outcome.next (State.transmit (s.takeTransmission bytes)) = _
    rw [hnot]
  · intro bytes hhead
    have htaken : s.takeTransmission bytes =
        if s.csq.partState.watchesBurst then s.burstQuiet.takeBurst units true else s := by
      unfold State.takeTransmission
      rw [if_pos (show bytes.head? = some Config.burstByte from hhead), State.takePattern, burstUnitsIn_eq hrest]
    have hwatch : s.csq.partState.watchesBurst = true ↔ s.csq.partState = .starting ∨ s.csq.partState = .running := by
      simp [PartState.watchesBurst]
    have hexec : exec (.requestFrame bytes) s = .next (State.transmit (s.takeTransmission bytes)) := rfl
    rw [htaken] at hexec
    split
    · next h => rw [if_pos (hwatch.2 h)] at hexec; exact hexec
    · next h => rw [if_neg (fun hw => h (hwatch.1 hw))] at hexec; exact hexec

/-! ### Requests that are not executed (R165 to R170) -/

/-- A request from no PRESENT station, of another epoch, or at a full queue, is dropped (R166, R169). -/
theorem State.takeRequest_dropped {s : State} {number epoch : Byte} (seq : BitVec 4) (kind : Byte) (body : List Byte)
    (h : (∀ e ∈ s.rst.stations, e.number = number.toNat → e.state ≠ .present) ∨ epoch ≠ s.rst.epoch ∨
      32 ≤ s.tpt.outbound.length) : s.takeRequest number epoch seq kind body = s := by
  unfold State.takeRequest
  split
  · rfl
  · next e he =>
    obtain ⟨hmem, hnum⟩ := Roster.byNumber_some he
    refine if_pos ?_
    rcases h with h | h | h
    · simp [Station.isPresent, h e hmem hnum]
    · simp [h]
    · simp [TrunkPort.hasRoom, Config.outboundRoom, Nat.not_lt.2 h]

/-- A repeat of the last sequence gets a copy of the cached reply (R167). -/
theorem State.takeRequest_repeated {s : State} {number : Byte} {seq : BitVec 4} (kind : Byte) (body : List Byte)
    (hn : (s.rst.stations.map Station.number).Nodup) {e : Station} (he : e ∈ s.rst.stations)
    (hnum : e.number = number.toNat) (hpresent : e.state = .present) (hroom : s.tpt.outbound.length < 32)
    (hseq : e.lastSeq = some seq) {f : OutFrame} (hf : e.cachedReply = some f) :
    s.takeRequest number s.rst.epoch seq kind body = s.pushFrame f := by
  have hby : s.rst.byNumber number.toNat = some e := hnum ▸ Roster.byNumber_of_mem hn he
  have hroom' : s.tpt.hasRoom = true := decide_eq_true hroom
  unfold State.takeRequest
  rw [hby]
  simp [Station.isPresent, hpresent, hroom', hseq, State.repeatReply, hf]

/-- What a REQUEST that its owner does not see leaves: the reply queued and remembered (R168, R170). -/
theorem State.stationFrame_answered_only {s : State} {number epoch : Byte} {seq : BitVec 4} {e : Station}
    (h : s.StationFresh number epoch seq e) {kind : Byte} {body : List Byte} {r : Reply}
    (hreach : s.enterPortion.reachesOwner e kind body = false)
    (hexec : s.enterPortion.executeStation e kind body = (s.enterPortion, r)) :
    s.stationFrame number epoch seq kind body = s.withStationReply e seq kind r := by
  rw [State.stationFrame_fresh h, hreach, Bool.and_false, if_neg Bool.false_ne_true, State.answerStation_of hexec]
  rfl

/-- A station's catalogue holds exactly the kinds that have an owner for stations (9.2). -/
theorem mem_stationRows_or (k : Kind) (number epoch : Byte) (seq : BitVec 4) (body : List Byte) :
    (∃ row ∈ stationRows number epoch seq body, row.1 = k) ∨ ∀ e b s, stationOwner k e b s = none := by
  cases k with
  | leave | exchangeUnits | exchangeChannels | ledgerRead | admitStream | retire | resize | suspend | resume | withdraw
  | streamRead | reclaim => exact .inl (by simp [stationRows])
  | _ => exact .inr (fun _ _ _ => rfl)

/-- A kind byte of no station request has no owner (R170). -/
theorem stationOwner_unknown {number epoch : Byte} {seq : BitVec 4} {kind : Byte} {body : List Byte}
    (h : ∀ row ∈ stationRows number epoch seq body, row.1.code ≠ kind) (e : Station) (s : State) :
    (Kind.ofCode kind).bind (fun k => stationOwner k e body s) = none := by
  cases hk : Kind.ofCode kind with
  | none => rfl
  | some k =>
    have hcode : k.code = kind := by simpa using List.find?_some hk
    rcases mem_stationRows_or k number epoch seq body with ⟨row, hrow, rfl⟩ | hnone
    · exact absurd hcode (h row hrow)
    · exact hnone e body s

/-- Each kind of a station's catalogue has an owner (9.2). -/
theorem stationOwner_isSome (number epoch : Byte) (seq : BitVec 4) (body : List Byte) (e : Station) (s : State) :
    ∀ row ∈ stationRows number epoch seq body, (stationOwner row.1 e body s).isSome = true := by
  unfold stationRows
  iterate 12 refine List.forall_mem_cons.2 ⟨rfl, ?_⟩
  nofun

/-- When the station portion is in progress (R21, R165; entries 24, 42). -/
theorem State.stationPortion_iff (s : State) : s.stationPortion = true ↔ s.csq.partState = .running ∧
    (s.tpt.edge = true ∨ s.tpt.share = none ∧
      (s.csq.phase = .window ∨ s.csq.phase = .slots ∧ (∀ x ∈ s.svw, x.seen ≠ .pending) ∧ s.tpt.outbound = [])) := by
  unfold State.stationPortion State.portionOpen
  simp only [Bool.or_eq_true, Bool.and_eq_true, beq_iff_eq, Option.isNone_iff_eq_none, State.slotsObserved_iff,
    List.isEmpty_iff]
  constructor
  · rintro (⟨⟨hrun, hshare⟩, hwindow | ⟨⟨hslots, hseen⟩, hout⟩⟩ | ⟨hrun, hedge⟩)
    · exact ⟨hrun, .inr ⟨hshare, .inl hwindow⟩⟩
    · exact ⟨hrun, .inr ⟨hshare, .inr ⟨hslots, hseen, hout⟩⟩⟩
    · exact ⟨hrun, .inl hedge⟩
  · rintro ⟨hrun, hedge | ⟨hshare, hwindow | ⟨hslots, hseen, hout⟩⟩⟩
    · exact .inr ⟨hrun, hedge⟩
    · exact .inl ⟨⟨hrun, hshare⟩, .inl hwindow⟩
    · exact .inl ⟨⟨hrun, hshare⟩, .inr ⟨⟨hslots, hseen⟩, hout⟩⟩

/-- Settles O50: the checks of `State.takeRequest`, the two answers that reach no block, and a pending RESET. -/
theorem requestsNotExecuted : Obligations.RequestsNotExecuted := by
  refine ⟨fun s number epoch seq body hkeyed hb row hrow => ?_, fun s number epoch seq kind body e hfresh hb => ?_,
    fun s number epoch seq body e hfresh hb hreset row hrow hon => ?_, State.stationPortion_iff⟩
  · intro leads heard
    have hexec : exec row.2 s = .next (State.transmit (s.stationFrame number epoch seq row.1.code body)) := by
      rw [exec_stationRow s number epoch seq body row hrow, requestBodyFits_of hb]; rfl
    unfold State.stationFrame at hexec
    split
    · next hclosed => rw [if_neg (by simp [hclosed])] at hexec; exact hexec
    · next hopen =>
      rw [if_pos (by simpa using hopen)] at hexec
      split
      · next hdrop => rw [State.takeRequest_dropped (s := s.enterPortion) seq _ body hdrop] at hexec; exact hexec
      · next htake =>
        intro e he hnum hseq f hf
        rw [not_or, not_or, not_not, Nat.not_le] at htake
        obtain ⟨hpresent, rfl, hroom⟩ := htake
        push Not at hpresent
        obtain ⟨x, hx, hxnum, hxp⟩ := hpresent
        obtain ⟨-, -, -, hn, -⟩ := hkeyed
        obtain rfl := List.inj_on_of_nodup_map hn hx he (hxnum.trans hnum.symm)
        exact hexec.trans (congrArg (fun u : State => Host.Outcome.next u.transmit)
          (State.takeRequest_repeated (s := s.enterPortion) _ body hn hx hnum hxp hroom hseq hf))
  · intro c
    have hexec := exec_requestFrameBytes s number epoch seq kind hb
    constructor
    · intro hoff hkind
      have hoff' : s.enterPortion.cfg.remoteRequests = false := hoff
      have hne : ¬ kind = Kind.leave.code := hkind
      rw [hexec, State.stationFrame_answered_only hfresh (r := ⟨.notPermitted, []⟩)]
      · unfold State.reachesOwner
        rw [hoff', Bool.false_or, beq_false_of_ne hne]
        rfl
      · exact if_pos ⟨hoff', hne⟩
    · intro hon hunknown
      have hnone := stationOwner_unknown hunknown e s.enterPortion
      rw [hexec, State.stationFrame_answered_only hfresh (r := ⟨.unknownKind, [kind]⟩)]
      · simp only [State.reachesOwner, hnone, Option.isSome_none, Bool.and_false]
      · have hon' : ¬ (s.enterPortion.cfg.remoteRequests = false ∧ kind ≠ Kind.leave.code) := by
          rintro ⟨hoff, -⟩
          exact absurd (hon.symm.trans hoff) nofun
        unfold State.executeStation
        rw [if_neg hon', hnone]
        rfl
  · rw [exec_stationRow s number epoch seq body row hrow, requestBodyFits_of hb]
    have hreach : s.enterPortion.reachesOwner e row.1.code body = true := by
      have howner := stationOwner_isSome number epoch seq body e s.enterPortion row hrow
      have hallowed : (s.enterPortion.cfg.remoteRequests || row.1.code == Kind.leave.code) = true := by
        rcases hon with hon | hon
        · exact Bool.or_eq_true_iff.2 (.inl hon)
        · rw [hon]; simp
      unfold State.reachesOwner
      rw [hallowed, Kind.ofCode_code, Option.bind_some, howner]
      rfl
    rw [State.stationFrame_fresh hfresh, hreach, hreset]
    rfl

end Sys2Proof.Machine
end

section
/-! SUPPORT. What the operations on a stream record leave where ids are unique, and the commit of an edit (5.3). -/

namespace Sys2Proof.Machine

/-! ### Records (chapter 4) -/

/-- With unique ids, replacing a record is replacing the record of its id. -/
theorem State.putStream_eq {s : State} (h : (s.streams.map StreamRecord.id).Nodup) (r : StreamRecord) :
    s.putStream r = { s with streams := s.streams.map (fun x => if x.id = r.id then r else x) } := by
  unfold State.putStream
  rw [updateFirst_key StreamRecord.id _ _ _ h]

/-- A tag is PRESENT where a PRESENT entry has it (R141). -/
theorem Roster.isPresent_iff (r : Roster) (t : Tag) :
    r.isPresent t = true ↔ ∃ e ∈ r.stations, e.tag = t ∧ e.state = .present := by
  simp [Roster.isPresent, Station.isPresent]

/-- Two changes of the first match are one, where the first keeps it a match. -/
theorem updateFirst_updateFirst {α : Type} (p : α → Bool) (f g : α → α) (h : ∀ a, p a = true → p (f a) = true)
    (l : List α) : updateFirst p g (updateFirst p f l) = updateFirst p (fun a => g (f a)) l := by
  induction l with
  | nil => rfl
  | cons a l ih =>
    by_cases hp : p a = true
    · simp [updateFirst_cons, hp, h a hp]
    · simp [updateFirst_cons, hp, ih]

/-- Two changes of an account are one. -/
theorem Ledger.update_update (l : Ledger) (p : Party) (f g : Account → Account) :
    (l.update p f).update p g = l.update p (fun a => g (f a)) := by
  cases p with
  | host => rfl
  | station t => exact congrArg (fun x => { l with claims := x }) (updateFirst_updateFirst (fun c => c.tag == t)
    (fun c => { c with account := f c.account }) (fun c => { c with account := g c.account }) (fun _ h => h) l.claims)

/-- What freeing a record leaves of the ledger (R54, R56). -/
theorem Ledger.freeStream_eq (l : Ledger) (r : StreamRecord) : l.freeStream r = match r.isHeld, r.owner with
    | true, .station t => l.dropHeld t r.id
    | _, _ => l.update r.owner (fun a => { a with
        committed := a.committed - max r.units (r.pendingResize.getD 0)
        bound := a.bound.filter (fun b => b.1 != r.channel) }) := by
  have hfree : (l.uncharge r.owner r.charge).unbind r.owner r.channel = l.update r.owner (fun a => { a with
      committed := a.committed - max r.units (r.pendingResize.getD 0)
      bound := a.bound.filter (fun b => b.1 != r.channel) }) := Ledger.update_update _ _ _ _
  unfold Ledger.freeStream StreamRecord.isHeld
  cases hs : r.state <;> cases ho : r.owner <;> simp only [ho] at hfree ⊢ <;> exact hfree

/-- What the removal of a record leaves (R77). -/
theorem State.removeRecord_eq {s : State} (h : (s.streams.map StreamRecord.id).Nodup) {r : StreamRecord}
    (hr : r ∈ s.streams) : s.removeRecord r.id = { s with
      streams := s.streams.filter (fun x => x.id != r.id)
      stg := { s.stg with edits := s.stg.edits.filter (fun e => e.stream != r.id) }
      lgr := s.lgr.freeStream r } := by
  unfold State.removeRecord
  rw [State.stream?_of_mem h hr, eraseP_eq_filter StreamRecord.id _ _ h]

/-! ### The commit of an edit (R100, R101) -/

/-- The start rule by cases of the start cycle (R68). -/
theorem startRule_eq (start : Option Cycle) (n : Cycle) : startRule start n = match start with
    | none => (.live none, false)
    | some c => if c = n then (.live none, false) else if (c - n).toNat ≤ 32767 then (.waitingStart, false)
        else (.live none, true) := by
  cases start with
  | none => rfl
  | some c =>
    have hzero : forwardDistance n c = 0 ↔ c = n := by
      unfold forwardDistance
      constructor
      · intro h
        exact sub_eq_zero.1 (BitVec.eq_of_toNat_eq (by simpa using h))
      · rintro rfl; simp
    simp only [startRule, hzero]
    rfl

/-- The edit's record decides what its commit does (R100, R101). -/
theorem State.commitEdit_of_found {s : State} {e : Edit} {r : StreamRecord} (h : s.stream? e.stream = some r) (n : Cycle) :
    s.commitEdit n e = match e.op with
      | .admitStream _ =>
        if r.state = .staged then
          (s.putStream { r with state := (s.enterService r n).1 }, lateOutcome (s.enterService r n).2)
        else (s, .stale)
      | .retire => if r.inService then (s.removeRecord r.id, .applied) else (s, .stale)
      | .resize units direction =>
        if r.inService then
          let s1 := s.putStream { r with units := units, pendingResize := none }
          (if direction = .down then { s1 with lgr := s1.lgr.uncharge r.owner (r.units - units) } else s1, .applied)
        else (s, .stale)
      | .suspend =>
        if r.inService then (s.putStream { r with state := .suspended .owner, restoreMark := false }, .applied)
        else (s, .stale)
      | .resume =>
        match r.state with
        | .suspended _ =>
          if s.rst.isPresent r.talker then
            (s.putStream { r with state := (startRule r.start n).1, vacantRun := 0, overlongRun := 0 },
              lateOutcome (startRule r.start n).2)
          else (s.putStream { r with state := .suspended .absent }, .applied)
        | _ => (s, .stale) := by
  unfold State.commitEdit
  rw [h] <;> rfl

/-- A stream in service is not HELD. -/
theorem StreamRecord.isHeld_of_inService {r : StreamRecord} (h : r.inService = true) : r.isHeld = false := by
  unfold StreamRecord.inService at h
  unfold StreamRecord.isHeld
  split at h <;> simp_all

/-- Settles O28: the cases of `State.commitEdit_of_found`, with the record replaced or removed. -/
theorem editCommitted : Obligations.EditCommitted := by
  intro s n e r hpos hr hid leads stale talkerPresent entered inService
  have hn : (s.streams.map StreamRecord.id).Nodup := hpos.nodup
  have hcommit := State.commitEdit_of_found (hid ▸ State.stream?_of_mem hn hr : s.stream? e.stream = some r) n
  have hput : ∀ q : StreamRecord, q.id = r.id →
      s.putStream q = { s with streams := s.streams.map (fun x => if x.id = r.id then q else x) } :=
    fun q hq => hq ▸ State.putStream_eq hn q
  have hpresent : talkerPresent ↔ s.rst.isPresent r.talker = true := (s.rst.isPresent_iff r.talker).symm
  have hservice : inService = r.inService := rfl
  have henter : ∀ q : StreamRecord, q.id = r.id → s.commitEdit n e = (s.putStream { q with state := (startRule r.start n).1 },
      lateOutcome (startRule r.start n).2) → entered q := by
    intro q hq h
    rw [hput { q with state := (startRule r.start n).1 } hq, startRule_eq] at h
    show match r.start with
      | none => _
      | some c => _
    cases hstart : r.start with
    | none => rw [hstart] at h; exact h
    | some c =>
      rw [hstart] at h
      simp only at h ⊢
      split
      · next hc => rw [if_pos hc] at h; exact h
      · next hc =>
        rw [if_neg hc] at h
        split
        · next hd => rw [if_pos hd] at h; exact h
        · next hd => rw [if_neg hd] at h; exact h
  refine ⟨fun a hop hstaged => ⟨fun hp => ?_, fun hp => ?_⟩, fun hop => ?_, fun units d hop => ?_, fun hop => ?_, fun hop => ?_⟩
  · refine henter r rfl ?_
    rw [hcommit, hop]
    simp only [hstaged, if_true, State.enterService, hpresent.1 hp]
  · rw [hpresent, Bool.not_eq_true] at hp
    show s.commitEdit n e = _
    rw [hcommit, hop]
    simp only [hstaged, if_true, State.enterService, hp, Bool.false_eq_true, if_false]
    rw [hput { r with state := .suspended .absent } rfl]
    rfl
  · rw [hservice]
    rw [hop] at hcommit
    split
    · next hserv =>
      rw [hcommit]
      simp only [hserv, if_true]
      rw [State.removeRecord_eq hn hr, Ledger.freeStream_eq, StreamRecord.isHeld_of_inService hserv]
      rfl
    · next hserv => exact hcommit.trans (if_neg hserv)
  · rw [hservice]
    rw [hop] at hcommit
    split
    · next hserv =>
      rw [hcommit]
      simp only [hserv, if_true]
      rw [hput { r with units := units, pendingResize := none } rfl]
      cases d <;> rfl
    · next hserv => exact hcommit.trans (if_neg hserv)
  · rw [hservice]
    rw [hop] at hcommit
    split
    · next hserv =>
      show s.commitEdit n e = _
      rw [hcommit]
      simp only [hserv, if_true]
      rw [hput { r with state := .suspended .owner, restoreMark := false } rfl]
    · next hserv => exact hcommit.trans (if_neg hserv)
  · rw [hop] at hcommit
    split
    · next c hs =>
      rw [hs] at hcommit
      refine ⟨fun hp => ?_, fun hp => ?_⟩
      · exact henter { r with vacantRun := 0, overlongRun := 0 } rfl (hcommit.trans (if_pos (hpresent.1 hp)))
      · show s.commitEdit n e = _
        rw [hpresent] at hp
        refine (hcommit.trans (if_neg hp)).trans ?_
        rw [hput { r with state := .suspended .absent } rfl]
    · next hs =>
      cases hs' : r.state with
      | suspended c => exact absurd hs' (hs c)
      | _ => rw [hs'] at hcommit; exact hcommit

end Sys2Proof.Machine
end

section
/-! SUPPORT. The commit of a boundary (5.3). -/

namespace Sys2Proof.Machine

/-- An edit as reports list it (R102, R109; Table 12-1). -/
theorem Edit.entry_eq (e : Edit) : e.entry = e.listed := by
  unfold Edit.entry Edit.listed
  cases e.op <;> rfl

/-- A removal keeps the list of edits of other streams. -/
theorem State.removeRecord_stg {s : State} {id : Nat} (h : ∀ x ∈ s.stg.edits, x.stream ≠ id) :
    (s.removeRecord id).stg = s.stg := by
  unfold State.removeRecord
  split
  · rfl
  · have hall : s.stg.edits.filter (fun e => e.stream != id) = s.stg.edits :=
      List.filter_eq_self.2 (fun x hx => by simpa using h x hx)
    exact congrArg (fun l => { s.stg with edits := l }) hall

/-- The commit of an edit keeps a list in which no edit of its stream stands (R88). -/
theorem State.commitEdit_stg {s : State} {e : Edit} (h : ∀ x ∈ s.stg.edits, x.stream ≠ e.stream) (n : Cycle) :
    (s.commitEdit n e).1.stg = s.stg := by
  cases hr : s.stream? e.stream with
  | none => unfold State.commitEdit; rw [hr]
  | some r =>
    rw [State.commitEdit_of_found hr]
    cases e.op with
    | admitStream a => simp only; split <;> rfl
    | retire =>
      simp only
      split
      · exact State.removeRecord_stg ((State.stream?_some hr).2 ▸ h)
      · rfl
    | resize units d => cases d <;> (simp only; split <;> rfl)
    | suspend => simp only; split <;> rfl
    | resume =>
      simp only
      split
      · split <;> rfl
      · rfl

/-- A notice leaves the staging list. -/
theorem State.tellOutcome_stg (s : State) (t : Option Tag) (e : Edit) (o : EditOutcome) :
    (s.tellOutcome t e o).stg = s.stg := by simp

/-- The head of the list leaves it, and no other edit does. -/
theorem State.commitHead_stg {s : State} {e : Edit} {rest : List Edit} (hs : s.stg.edits = e :: rest)
    (h : (s.stg.edits.map Edit.stream).Nodup) (n : Cycle) : (s.commitHead n e rest).1.stg = { s.stg with edits := rest } := by
  rw [hs, List.map_cons, List.nodup_cons] at h
  unfold State.commitHead
  exact (State.tellOutcome_stg _ _ _ _).trans
    (State.commitEdit_stg (s := { s with stg := { s.stg with edits := rest } })
      (fun x hx hxe => h.1 (hxe ▸ List.mem_map_of_mem hx)) n)

/-- A commit takes the edits at the head of the list, in order (R99). -/
theorem State.commitUpTo_taken (n : Cycle) (k : Nat) : ∀ s : State, (s.stg.edits.map Edit.stream).Nodup →
    (State.commitUpTo n k s).1.stg = { s.stg with edits := s.stg.edits.drop k } ∧
    (State.commitUpTo n k s).2.map Prod.fst = s.stg.edits.take k := by
  induction k with
  | zero => exact fun s _ => ⟨rfl, rfl⟩
  | succ k ih =>
    intro s h
    unfold State.commitUpTo
    split
    · next hnil => exact ⟨by rw [hnil]; exact congrArg (fun l => { s.stg with edits := l }) hnil, by rw [hnil]; rfl⟩
    · next e rest hs =>
      have hstg := State.commitHead_stg hs h n
      rw [hs, List.map_cons, List.nodup_cons] at h
      obtain ⟨hrest, htaken⟩ := ih (s.commitHead n e rest).1 (by rw [hstg]; exact h.2)
      rw [hstg] at hrest htaken
      rw [hs]
      exact ⟨hrest, congrArg (e :: ·) htaken⟩

/-- What an unfrozen commit is (R99, R102). -/
theorem State.commit_of_unfrozen {s : State} (h : s.stg.frozen = false) (n : Cycle) :
    s.commit n = if (State.commitUpTo n s.cfg.commitLimit s).2 = [] then (State.commitUpTo n s.cfg.commitLimit s).1
      else (State.commitUpTo n s.cfg.commitLimit s).1.offer .planCommitted
        (planCommittedBody n (State.commitUpTo n s.cfg.commitLimit s).2
          (State.commitUpTo n s.cfg.commitLimit s).1.stg.edits.length
          (State.commitUpTo n s.cfg.commitLimit s).1.stg.frozen) := by
  unfold State.commit
  rw [h]
  simp only [Bool.false_eq_true, if_false, List.isEmpty_iff]

/-- Settles O29: `State.commitUpTo_taken` for the list, the recipient by submitter and owner, and the report. -/
theorem commitTakesFromTheHead : Obligations.CommitTakesFromTheHead := by
  intro s n hfrozen hedits
  obtain ⟨-, hstreams, -⟩ := hedits
  obtain ⟨hstg, htaken⟩ := State.commitUpTo_taken n s.cfg.commitLimit s hstreams
  have hcommit := State.commit_of_unfrozen hfrozen n
  refine ⟨?_, fun hnil => ?_, fun e rest hs => ?_, fun hne hlimit => ?_⟩
  · rw [hcommit]
    split
    · exact hstg
    · exact hstg
  · have hnone : State.commitUpTo n s.cfg.commitLimit s = (s, []) := by
      cases s.cfg.commitLimit with
      | zero => rfl
      | succ k => unfold State.commitUpTo; rw [hnil]
    rw [hcommit, hnone, if_pos rfl]
  · intro r told
    have htold : ∀ t, editRecipient e.submitter (s.editOwner e) = some t → told t := by
      intro t ht
      show s.commitHead n e rest = _
      unfold State.commitHead
      rw [ht]
      rfl
    refine ⟨fun t ht => htold t (by rw [ht]; rfl), fun x hx hxe hn hhost => ?_, fun k => ?_⟩
    · have howner : s.editOwner e = some x.owner := by
        unfold State.editOwner
        rw [← hxe, State.stream?_of_mem hn hx]
        rfl
      refine ⟨fun t ht => htold t (by rw [hhost, howner, ht]; rfl), fun ht => ?_⟩
      show s.commitHead n e rest = _
      unfold State.commitHead
      rw [hhost, howner, ht]
      rfl
    · conv_lhs => unfold State.commitUpTo
      rw [hs]
  · intro taken
    refine ⟨htaken, ?_⟩
    have hsome : taken ≠ [] := by
      intro hnil
      have : s.stg.edits.take s.cfg.commitLimit = [] := by rw [← htaken]; exact congrArg _ hnil
      rcases List.take_eq_nil_iff.1 this with h | h
      · omega
      · exact hne h
    rw [hcommit, if_neg hsome, hstg]
    unfold planCommittedBody countedList
    simp only [Edit.entry_eq, hfrozen]
    simp [taken, flag]

end Sys2Proof.Machine
end

section
/-! SUPPORT. The boundary (2.4, 4.8): its steps, the slot list and the header; the instants that raise it. -/

namespace Sys2Proof.Machine

/-! ### What a step makes of a record (R83) -/

/-- What the restoration of a marked record is (R81). -/
theorem State.restore_of_mark {r : StreamRecord} (n : Cycle) (h : r.restoreMark = true) (s : State) :
    State.restore n r s = if r.isLive = true ∨ r.state = .waitingStart then
        s.changeState { r with restoreMark := false } (s.enterService r n).1 .restored (s.enterService r n).2
      else s.changeState { r with restoreMark := false } r.state .restored false := by
  unfold State.restore
  rw [if_pos h]
  obtain ⟨id, owner, talker, channel, units, period, phase, start, stop, state, pending, mark, done, run, total, overlong⟩ := r
  cases state <;> rfl

/-- Settles O32: each step's definition, case by case of the record's state. -/
theorem boundaryWorkOnARecord : Obligations.BoundaryWorkOnARecord := by
  refine ⟨fun s n marks => ?_, fun s n departed r => ?_⟩
  · cases marks <;> rfl
  intro present entered changed plain
  have hentered : startRule r.start n = entered := startRule_eq r.start n
  have henter : ∀ q : StreamRecord, q.talker = r.talker → q.start = r.start →
      s.enterService q n = if present then entered else (.suspended .absent, false) := by
    intro q ht hstart
    unfold State.enterService
    rw [ht, hstart, hentered]
  refine ⟨fun c hc => ?_, fun hc => ?_, ?_, fun m hm => ?_, fun hl => ?_, ?_, ?_, ?_⟩
  · unfold State.removeRetiring
    rw [hc]
    cases c <;> rfl
  · unfold State.removeRetiring
    split
    · next c h => exact absurd h (hc c)
    · rfl
  · unfold State.suspendDeparted
    by_cases howner : r.owner = .host ∧ r.talker ∈ departed
    · rw [if_pos (by simpa using howner)]
      cases hs : r.state <;> simp [howner, StreamRecord.isLive, hs] <;> rfl
    · rw [if_neg (by simpa using howner), if_neg (fun h => howner ⟨h.1, h.2.1⟩)]
  · unfold State.applyMark
    rw [hm]
    by_cases hover : m = some .overlong
    · rw [if_pos hover, hover]
      rfl
    · have hmark : reevaluate s.cfg.vacancyLimit r.vacantRun m =
          if s.cfg.vacancyLimit ≠ 0 ∧ s.cfg.vacancyLimit ≤ r.vacantRun then some .vacancy else none := by
        cases m with
        | none => rfl
        | some m =>
          cases m with
          | vacancy => rfl
          | overlong => exact absurd rfl hover
      simp only [hmark]
      rw [if_neg hover]
      by_cases hv : s.cfg.vacancyLimit ≠ 0 ∧ s.cfg.vacancyLimit ≤ r.vacantRun
      · rw [if_pos hv, if_pos hv]
        rfl
      · rw [if_neg hv, if_neg hv]
  · unfold State.applyMark
    split
    · next m h => simp [StreamRecord.isLive, h] at hl
    · rfl
  · cases hm : r.restoreMark with
    | false => unfold State.restore; rw [hm]; rfl
    | true =>
      rw [State.restore_of_mark n hm, if_neg (show ¬ true = false by decide)]
      have hserved : ∀ x : StreamState × Bool, x = (if present then entered else (.suspended .absent, false)) →
          s.changeState plain x.1 .restored x.2 = if present then changed plain entered.1 .restored entered.2
            else changed plain (.suspended .absent) .restored false := by
        rintro x rfl
        split <;> rfl
      split
      · exact hserved _ (henter r rfl rfl)
      · rfl
  · rfl
  · unfold State.returnTalker
    rw [hentered]
    rfl

/-! ### The slot list (R20, R113) -/

/-- Insertion sorts by an order that the test decides (R113). -/
theorem sortBy_pairwise {α : Type} (before : α → α → Bool) (r : α → α → Prop) (l : List α)
    (hlt : ∀ a x, before a x = true → r a x) (hge : ∀ a x, before a x = false → r x a)
    (ht : ∀ a b c, r a b → r b c → r a c) : (sortBy before l).Pairwise r := by
  have h : ∀ (l acc : List α), acc.Pairwise r → (l.foldl (fun acc x => insertBy before x acc) acc).Pairwise r := by
    intro l
    induction l with
    | nil => exact fun acc hacc => hacc
    | cons a l ih =>
      exact fun acc hacc => ih _ (insertBy_pairwise before r a acc (fun b => hlt b a) (fun b => hge b a) (ht a) hacc)
  exact h l [] List.Pairwise.nil

/-- What lies at each place of a layout (R20). -/
theorem layOut_getElem? (r : Roster) (l : List StreamRecord) : ∀ (pos i : Nat) (x : StreamRecord), l[i]? = some x →
    (layOut r pos l)[i]? = some ⟨x.id, x.channel, (r.presentNumber x.talker).getD 0,
      pos + ((l.take i).map StreamRecord.units).sum, x.units⟩ := by
  induction l with
  | nil => intro pos i x h; simp at h
  | cons a l ih =>
    intro pos i x h
    cases i with
    | zero =>
      obtain rfl := Option.some.inj h
      rfl
    | succ i =>
      have := ih (pos + a.units) i x h
      simp only [layOut, List.getElem?_cons_succ, List.take_succ_cons, List.map_cons, List.sum_cons]
      rw [this, Nat.add_assoc]

theorem layOut_length (r : Roster) (l : List StreamRecord) : ∀ pos, (layOut r pos l).length = l.length := by
  induction l with
  | nil => exact fun _ => rfl
  | cons a l ih => exact fun pos => congrArg (· + 1) (ih (pos + a.units))

/-- Settles O33: the due streams sorted in plan order, which distinct channels make strict, and laid out. -/
theorem slotsLieEndToEnd : Obligations.SlotsLieEndToEnd := by
  intro s n _ happart due
  have hperm : (s.dueStreams n).Perm due := sortBy_perm _ _
  have hchannels : ((s.dueStreams n).map StreamRecord.channel).Nodup :=
    (hperm.map _).nodup_iff.2 (happart.sublist (List.filter_sublist.map _))
  have hsorted : (s.dueStreams n).Pairwise (fun a b => a.period < b.period ∨ a.period = b.period ∧ a.channel ≤ b.channel) := by
    refine sortBy_pairwise planBefore _ _ (fun a x h => ?_) (fun a x h => ?_) (fun a b c h h' => by omega)
    · simp [planBefore] at h; omega
    · simp [planBefore] at h; omega
  refine ⟨s.dueStreams n, hperm, ?_, layOut_length _ _ _, fun i r hr => layOut_getElem? _ _ _ i r hr⟩
  refine (hsorted.and (List.pairwise_map.1 hchannels)).imp (fun h => ?_)
  omega

/-! ### The boundary and the instants (R23 to R29) -/

/-- When the plan stands as its basis has it (R25). -/
theorem planChanged_iff (old new : List BasisEntry) :
    planChanged old new = false ↔ (∀ b ∈ new, b ∈ old) ∧ ∀ b ∈ old, b ∈ new := by
  simp [planChanged]

/-- The state that the plan of boundary n is formed of: behind the commit, the boundary work and the countdown (R24). -/
def State.workedAt (s : State) (n : Cycle) : State :=
  ((State.commit { s with csq := { s.csq with lastCycle := some n } } n).boundaryWork n true).countDown

/-- The state that the next boundary's plan is formed of. -/
def State.worked (s : State) : State := s.workedAt s.csq.nextCycle

/-- What the work of a boundary leaves alone (R24). -/
theorem State.worked_frame (s : State) : s.worked.csq = { s.csq with lastCycle := some s.csq.nextCycle } ∧
    s.worked.cfg = s.cfg ∧ s.worked.hlk = s.hlk ∧ s.worked.rst.epoch = s.rst.epoch ∧ s.worked.pending = s.pending := by
  simp [State.worked, State.workedAt]

/-- What a boundary leaves, of the state behind its work (R24, R25, R19, R114). -/
theorem State.boundary_eq (s : State) (timing : Timing) (stretch : Nat) : s.boundary timing stretch =
    { s.worked with
      csq := { s.worked.csq with
        generation := if (∀ b ∈ s.worked.basisNow, b ∈ s.csq.basis) ∧ ∀ b ∈ s.csq.basis, b ∈ s.worked.basisNow
          then s.csq.generation else s.csq.generation + 1
        basis := s.worked.basisNow, plan := s.worked.slotList s.csq.nextCycle, phase := .slots }
      svw := (s.worked.slotList s.csq.nextCycle).map (fun e => ⟨e, .pending⟩)
      tpt := { s.worked.tpt with
        share := none, edge := false
        sending := some (.header ⟨s.rst.epoch, s.csq.nextCycle,
          if (∀ b ∈ s.worked.basisNow, b ∈ s.csq.basis) ∧ ∀ b ∈ s.csq.basis, b ∈ s.worked.basisNow
            then s.csq.generation else s.csq.generation + 1,
          s.worked.slotList s.csq.nextCycle, windowOffset (s.worked.slotList s.csq.nextCycle), timing, stretch,
          s.csq.lateRun⟩) } } := by
  obtain ⟨hcsq, -, -, hepoch, -⟩ := s.worked_frame
  have hform : s.boundary timing stretch = s.worked.formPlan s.csq.nextCycle timing stretch := rfl
  have hgeneration : (if planChanged s.csq.basis s.worked.basisNow then s.csq.generation + 1 else s.csq.generation) =
      if (∀ b ∈ s.worked.basisNow, b ∈ s.csq.basis) ∧ ∀ b ∈ s.csq.basis, b ∈ s.worked.basisNow
        then s.csq.generation else s.csq.generation + 1 := by
    by_cases h : planChanged s.csq.basis s.worked.basisNow = false
    · rw [if_neg (by simp [h]), if_pos ((planChanged_iff _ _).1 h)]
    · rw [if_pos (by simpa using h), if_neg (fun h' => h ((planChanged_iff _ _).2 h'))]
  rw [hform, ← hgeneration]
  unfold State.formPlan State.headerOf
  generalize s.worked = w at *
  rw [hcsq, hepoch]

/-- `State.boundary_eq`, the cycle number and the state behind the work given apart. -/
theorem State.boundary_of_worked {s w : State} {n : Cycle} (timing : Timing) (stretch : Nat) (hn : n = s.csq.nextCycle)
    (hw : w = s.worked) : w.csq = { s.csq with lastCycle := some n } ∧ s.boundary timing stretch =
    { w with
      csq := { w.csq with
        generation := if (∀ b ∈ w.basisNow, b ∈ s.csq.basis) ∧ ∀ b ∈ s.csq.basis, b ∈ w.basisNow
          then s.csq.generation else s.csq.generation + 1
        basis := w.basisNow, plan := w.slotList n, phase := .slots }
      svw := (w.slotList n).map (fun e => ⟨e, .pending⟩)
      tpt := { w.tpt with
        share := none, edge := false
        sending := some (.header ⟨s.rst.epoch, n,
          if (∀ b ∈ w.basisNow, b ∈ s.csq.basis) ∧ ∀ b ∈ s.csq.basis, b ∈ w.basisNow
            then s.csq.generation else s.csq.generation + 1,
          w.slotList n, windowOffset (w.slotList n), timing, stretch, s.csq.lateRun⟩) } } := by
  rw [hw, hn]
  exact ⟨s.worked_frame.1, s.boundary_eq timing stretch⟩

/-- What stands in the plan, the observation list and the header behind a boundary (R25, R114, R19). -/
theorem State.boundary_plan (s : State) (timing : Timing) (stretch : Nat) {b : State} (hb : b = s.boundary timing stretch) :
    b.csq.basis = b.basisNow ∧
    b.csq.generation = (if (∀ x ∈ b.basisNow, x ∈ s.csq.basis) ∧ ∀ x ∈ s.csq.basis, x ∈ b.basisNow
      then s.csq.generation else s.csq.generation + 1) ∧
    b.csq.plan = b.slotList s.csq.nextCycle ∧ b.svw = b.csq.plan.map (fun e => ⟨e, .pending⟩) ∧
    b.tpt.sending = some (.header ⟨s.rst.epoch, s.csq.nextCycle, b.csq.generation, b.csq.plan, windowOffset b.csq.plan,
      timing, stretch, s.csq.lateRun⟩) ∧ b.tpt.share = none := by
  rw [State.boundary_eq] at hb
  generalize s.worked = w at hb
  subst hb
  exact ⟨rfl, rfl, rfl, rfl, rfl, rfl⟩

/-- A header's bytes are its fields (R203, R205). -/
theorem Header.bytes_eq (h : Header) : h.bytes = h.onLine := by
  obtain ⟨epoch, cycle, generation, entries, offset, timing, stretch, late⟩ := h
  cases timing <;> rfl

/-- Settles O34: `State.boundary_eq`, and the nominal instant's cases. -/
theorem nominalInstant : Obligations.NominalInstant := by
  refine ⟨fun s timing stretch => ?_, fun s hrun hphase hhalt => ?_,
    fun s busy => ?_, fun s h hs => ?_⟩
  · intro n w entries live generation
    have hn : n = s.csq.nextCycle := rfl
    have hw : w = s.worked := congrArg s.workedAt hn
    exact State.boundary_of_worked timing stretch hn hw
  · have hpending : s.csq.haltPending = false := by simp [Sequencer.haltPending, hhalt]
    obtain ⟨b, hb⟩ : ∃ b, b = (s.setLateRun 0).boundary .onTime 0 := ⟨_, rfl⟩
    have hinstant : s.nominalInstant false = b.setEdge s.portionOpen := by
      rw [hb]
      unfold State.nominalInstant
      rw [if_pos ⟨hrun, hphase⟩, hpending]
      rfl
    refine ⟨b.setEdge s.portionOpen, ?_, ?_⟩
    · show Host.Outcome.next (State.transmit (s.nominalInstant false)) = _
      rw [hinstant]
    intro opened heardNow
    have hframe := (s.setLateRun 0).boundary_frame .onTime 0
    rw [← hb] at hframe
    obtain ⟨hcfg, hlink, hpend, hepoch, -, hpart, hlate, hstart, hwaiters, hlast, hslots⟩ := hframe
    obtain ⟨hbasis, hgeneration, hplan, hseen, hsending, hshare⟩ := State.boundary_plan _ _ _ hb
    have hopened : opened = b := hb ▸ congrArg (fun u : State => u.boundary .onTime 0) rfl
    have hheard : s.portionOpen = heardNow := by
      unfold State.portionOpen
      rw [hrun]
      rfl
    clear_value opened heardNow
    refine ⟨by rw [hheard, hopened]; rfl, ?_⟩
    intro n live
    exact ⟨hpart.trans hrun, hlast, hlate, hslots, hbasis, hgeneration, hplan, hseen, hsending, hshare, hstart,
      hwaiters.trans hhalt, hcfg, hlink, hepoch, hpend⟩
  · intro leads
    have hexec : exec (.nominalInstant busy) s = .next (State.transmit (s.nominalInstant busy)) := rfl
    unfold State.nominalInstant at hexec
    split
    · next h =>
      have hnot : ¬ (s.csq.partState = .running ∧ s.csq.phase ≠ .stretch) := fun ⟨hr, hp⟩ => h.elim (· hr) hp
      rw [if_neg hnot] at hexec
      exact hexec
    · next h =>
      rw [not_or, not_not] at h
      rw [if_pos (show s.csq.partState = .running ∧ s.csq.phase ≠ .stretch from h)] at hexec
      split
      · next hhalt => rw [if_pos ((Sequencer.haltPending_iff _).2 hhalt)] at hexec; exact hexec
      · next hhalt =>
        intro hbusy
        rw [if_neg (fun hp => hhalt ((Sequencer.haltPending_iff _).1 hp)), if_pos hbusy] at hexec
        exact hexec
  · refine ⟨by simp [State.trkDir, hs], ?_⟩
    rw [State.trkBytes, hs, ← Header.bytes_eq]
    rfl

/-- Settles O35: the stretch's end, by the late run. -/
theorem stretchEnds : Obligations.StretchEnds := by
  intro s quietAt hfits hhalt leads timing units next
  have hcause : s.takeCause .trunkFault = s.trunkReset .trunkFault := by
    rw [State.takeCause_eq, if_pos hhalt]
  have hend : exec (.stretchEnd quietAt) s = .next (State.transmit (s.stretchEnd quietAt)) := by
    show outcome (stretchFits quietAt) _ = _
    rw [hfits]; rfl
  have hfault : exec .trunkFault s = .next (State.transmit s.trunkFault) := rfl
  have hstretching : s.stretching = true ↔ ¬ (s.csq.partState ≠ .running ∨ s.csq.phase ≠ .stretch) := by
    simp [State.stretching]
  unfold State.stretchEnd at hend
  unfold State.trunkFault at hfault
  split
  · next h =>
    have hnot : ¬ s.stretching = true := fun h' => hstretching.1 h' h
    rw [if_neg hnot] at hend
    rw [if_neg (fun h' => hnot h'.1)] at hfault
    exact ⟨hend, hfault⟩
  · next h =>
    rw [if_pos (hstretching.2 h)] at hend
    split
    · next hlate =>
      have hlimit : Config.lateLimit ≤ s.csq.lateRun + 1 := Nat.succ_le_succ hlate
      rw [if_pos hlimit, hcause] at hend
      rw [if_pos ⟨hstretching.2 h, hlimit⟩, hcause] at hfault
      exact ⟨hend, hfault⟩
    · next hlate =>
      have hlimit : ¬ Config.lateLimit ≤ s.csq.lateRun + 1 := fun h' => hlate (Nat.le_of_succ_le_succ h')
      rw [if_neg hlimit] at hend
      rw [if_neg (fun h' => hlimit h'.2)] at hfault
      refine ⟨hfault, ?_⟩
      cases quietAt with
      | none => exact hend
      | some t => exact hend

end Sys2Proof.Machine
end

section
/-! SUPPORT. Removals at a boundary (4.6, 5.5) and the completion of a departure (7.3). -/

namespace Sys2Proof.Machine

/-! ### Acting on the records of the table in turn (R83) -/

/-- A search that passes over whatever is erased finds what it found before. -/
theorem find?_eraseP_of_apart {α : Type} {p q : α → Bool} (h : ∀ a, p a = true → q a = false) (l : List α) :
    (l.eraseP p).find? q = l.find? q := by
  induction l with
  | nil => rfl
  | cons a l ih =>
    by_cases hp : p a = true
    · rw [List.eraseP_cons_of_pos hp, List.find?_cons_of_neg (by simp [h a hp])]
    · rw [List.eraseP_cons_of_neg hp, List.find?_cons, List.find?_cons, ih]

/-- A removal leaves the other positions (R77). -/
theorem State.removeRecord_stream? (s : State) {id k : Nat} (h : k ≠ id) : (s.removeRecord id).stream? k = s.stream? k := by
  unfold State.removeRecord
  split
  · rfl
  · exact find?_eraseP_of_apart (fun r hr => by simp at hr ⊢; omega) s.streams

/-- Records that stand as they were when their turns come are acted on in one pass (R83). -/
theorem State.eachStream_eq_foldl {f : StreamRecord → State → State}
    (hf : ∀ (r : StreamRecord) (u : State) (k : Nat), k ≠ r.id → (f r u).stream? k = u.stream? k)
    {s : State} (h : (s.streams.map StreamRecord.id).Nodup) :
    s.eachStream f = s.streams.foldl (fun u r => f r u) s := by
  have hfold : ∀ (l : List StreamRecord) (u : State), (l.map StreamRecord.id).Nodup → (∀ r ∈ l, u.stream? r.id = some r) →
      (l.map StreamRecord.id).foldl (fun u id => match u.stream? id with
        | some r => f r u
        | none => u) u = l.foldl (fun u r => f r u) u := by
    intro l
    induction l with
    | nil => exact fun _ _ _ => rfl
    | cons a l ih =>
      intro u hn hu
      rw [List.map_cons, List.nodup_cons] at hn
      rw [List.map_cons, List.foldl_cons, List.foldl_cons, hu a (List.mem_cons_self ..)]
      refine ih _ hn.2 (fun r hr => ?_)
      rw [hf a u r.id (fun he => hn.1 (he ▸ List.mem_map_of_mem hr))]
      exact hu r (List.mem_cons_of_mem _ hr)
  exact hfold s.streams s h (fun r hr => State.stream?_of_mem h hr)

/-! ### Removals of a boundary (R75, R83, R111) -/

theorem State.removeRetiring_of_not {r : StreamRecord} (h : r.isRetiring = false) (s : State) :
    State.removeRetiring r s = s := by
  unfold State.removeRetiring
  unfold StreamRecord.isRetiring at h
  split
  · next c hc => rw [hc] at h; exact absurd h nofun
  · rfl

/-- What the removal of a RETIRING record leaves of the table and of the list (R75, R77). -/
theorem State.removeRetiring_of {r : StreamRecord} (h : r.isRetiring = true) (s : State) :
    (State.removeRetiring r s).streams = (s.removeRecord r.id).streams ∧
    (State.removeRetiring r s).stg = (s.removeRecord r.id).stg := by
  unfold State.removeRetiring
  unfold StreamRecord.isRetiring at h
  split
  · simp
  · next hs =>
    split at h
    · next c hc => exact absurd hc (hs c)
    · exact absurd h nofun

theorem State.removeRetiring_stream? (r : StreamRecord) (s : State) (k : Nat) (h : k ≠ r.id) :
    (State.removeRetiring r s).stream? k = s.stream? k := by
  cases hr : r.isRetiring with
  | false => rw [State.removeRetiring_of_not hr]
  | true =>
    unfold State.stream?
    rw [(State.removeRetiring_of hr s).1]
    exact State.removeRecord_stream? s h

/-- The RETIRING records go one by one (R75). -/
theorem State.eachStream_removeRetiring {s : State} (h : (s.streams.map StreamRecord.id).Nodup) :
    s.eachStream State.removeRetiring =
      (s.streams.filter StreamRecord.isRetiring).foldl (fun u r => State.removeRetiring r u) s := by
  rw [State.eachStream_eq_foldl State.removeRetiring_stream? h, List.foldl_filter]
  congr 1
  funext u r
  cases hr : r.isRetiring with
  | false => rw [State.removeRetiring_of_not hr]; rfl
  | true => rfl

/-- What a run of removals leaves of the table and of the list (R75, R77). -/
theorem State.removeRetiringFold_eq (l : List StreamRecord) : ∀ u : State, (u.streams.map StreamRecord.id).Nodup →
    (l.map StreamRecord.id).Nodup → (∀ r ∈ l, r ∈ u.streams ∧ r.isRetiring = true) →
    (l.foldl (fun u r => State.removeRetiring r u) u).streams =
      u.streams.filter (fun x => !(l.map StreamRecord.id).contains x.id) ∧
    (l.foldl (fun u r => State.removeRetiring r u) u).stg =
      { u.stg with edits := u.stg.edits.filter (fun e => !(l.map StreamRecord.id).contains e.stream) } := by
  induction l with
  | nil => exact fun u _ _ _ => by simp
  | cons a l ih =>
    intro u hn hl hmem
    obtain ⟨ha, hretiring⟩ := hmem a (List.mem_cons_self ..)
    rw [List.map_cons, List.nodup_cons] at hl
    obtain ⟨hstreams, hstg⟩ := State.removeRetiring_of hretiring u
    rw [State.removeRecord_eq hn ha] at hstreams hstg
    have hstep := ih (State.removeRetiring a u) (by rw [hstreams]; exact hn.sublist (List.filter_sublist.map _)) hl.2
      (fun r hr => by
        obtain ⟨hru, hr'⟩ := hmem r (List.mem_cons_of_mem _ hr)
        rw [hstreams]
        have hne : r.id ≠ a.id := fun he => hl.1 (he ▸ List.mem_map_of_mem hr)
        exact ⟨List.mem_filter.2 ⟨hru, by simpa using hne⟩, hr'⟩)
    obtain ⟨h1, h2⟩ := hstep
    rw [hstreams, List.filter_filter] at h1
    rw [hstg] at h2
    simp only [List.filter_filter] at h2
    refine ⟨h1.trans (List.filter_congr (fun x _ => ?_)), h2.trans ?_⟩
    · rw [List.map_cons, List.contains_cons, Bool.not_or, Bool.and_comm]; rfl
    · congr 1
      refine List.filter_congr (fun x _ => ?_)
      rw [List.map_cons, List.contains_cons, Bool.not_or, Bool.and_comm]; rfl

/-- With unique ids, the record of an id is RETIRING just where one of the table with that id is. -/
theorem State.stream?_any {s : State} (h : (s.streams.map StreamRecord.id).Nodup) (p : StreamRecord → Bool) (id : Nat) :
    (s.stream? id).any p = s.streams.any (fun r => r.id == id && p r) := by
  rw [Bool.eq_iff_iff, List.any_eq_true]
  constructor
  · intro hp
    cases hr : s.stream? id with
    | none => rw [hr] at hp; exact absurd hp nofun
    | some r =>
      obtain ⟨hmem, hid⟩ := State.stream?_some hr
      rw [hr] at hp
      exact ⟨r, hmem, by simpa [hid] using hp⟩
  · rintro ⟨r, hr, hp⟩
    rw [Bool.and_eq_true, beq_iff_eq] at hp
    rw [← hp.1, State.stream?_of_mem h hr]
    exact hp.2

/-- Which ids the records with a property have. -/
theorem contains_filter_ids {l : List StreamRecord} (p : StreamRecord → Bool) (id : Nat) :
    ((l.filter p).map StreamRecord.id).contains id = l.any (fun r => r.id == id && p r) := by
  rw [Bool.eq_iff_iff]
  simp only [List.contains_iff_mem, List.mem_map, List.mem_filter, List.any_eq_true, Bool.and_eq_true, beq_iff_eq]
  constructor
  · rintro ⟨r, ⟨hr, hp⟩, hid⟩; exact ⟨r, hr, hid, hp⟩
  · rintro ⟨r, hr, hid, hp⟩; exact ⟨r, ⟨hr, hp⟩, hid⟩

/-- With unique ids, the table tells a record's property by its id. -/
theorem any_ids_of_mem {l : List StreamRecord} (h : (l.map StreamRecord.id).Nodup) (p : StreamRecord → Bool)
    {r : StreamRecord} (hr : r ∈ l) : l.any (fun x => x.id == r.id && p x) = p r := by
  rw [Bool.eq_iff_iff, List.any_eq_true]
  constructor
  · rintro ⟨x, hx, hp⟩
    rw [Bool.and_eq_true, beq_iff_eq] at hp
    obtain rfl := List.inj_on_of_nodup_map h hx hr hp.1
    exact hp.2
  · exact fun hp => ⟨r, hr, by simpa using hp⟩

/-- Settles O31: a removal's account and edits, an announcement's recipient, and the run of removals. -/
theorem recordRemovedAndAnnounced : Obligations.RecordRemovedAndAnnounced := by
  refine ⟨fun s r hpos hr => ?_, fun s r new cause late => ?_, fun s r cause late => ?_, fun s hpos => ?_⟩
  · rw [State.removeRecord_eq hpos.nodup hr, Ledger.freeStream_eq] <;> rfl
  · rfl
  · have hbody : streamChangedBody r none cause late = byteOf r.id :: partyBytes r.owner ++ [byteOf r.channel]
        ++ [Config.removedStateCode, 0, 0, cause.code, flag late] := by
      simp [streamChangedBody, newStateBytes, presence, byteOf]
    unfold State.announce
    rw [hbody]
    rfl
  · intro retiring stranded removed reported told
    have hn : (s.streams.map StreamRecord.id).Nodup := hpos.nodup
    have hretiring : ∀ e : Edit, (s.stream? e.stream).any StreamRecord.isRetiring = retiring e :=
      fun e => State.stream?_any hn _ _
    have hstranded : s.strandedEdits = stranded.map (fun e => (e, editRecipient e.submitter (s.editOwner e))) := by
      unfold State.strandedEdits
      rw [List.filter_congr (fun e _ => hretiring e)]
    have hfst : s.strandedEdits.map Prod.fst = stranded := by
      rw [hstranded, List.map_map]
      exact List.map_id _
    have hremoved : s.eachStream State.removeRetiring = removed := State.eachStream_removeRetiring hn
    have hreported : removed.reportDiscards .removal stranded = reported := by
      unfold State.reportDiscards
      simp only [List.isEmpty_iff, reported]
      split
      · rfl
      · unfold editsDiscardedBody countedList
        rw [List.map_congr_left (fun e _ => Edit.entry_eq e)]
        rfl
    have htold : reported.tellDiscards s.strandedEdits = told := by
      unfold State.tellDiscards
      rw [hstranded, List.foldl_map]
      refine congrArg (fun f => stranded.foldl f reported) ?_
      funext u e
      unfold State.editOwner State.stream?
      cases e.submitter with
      | station t => rfl
      | host =>
        cases (s.streams.find? (fun r => r.id == e.stream)).map StreamRecord.owner with
        | none => rfl
        | some p => cases p <;> rfl
    have hfold := State.removeRetiringFold_eq (s.streams.filter StreamRecord.isRetiring) s hn
      (hn.sublist (List.filter_sublist.map _)) (fun r hr => List.mem_filter.1 hr)
    refine ⟨?_, hfold.1.trans (List.filter_congr (fun r hr => ?_)), hfold.2.trans ?_⟩
    · rw [← State.completeDepartures_eq, ← htold, ← hreported, ← hremoved, ← hfst]
      rfl
    · rw [contains_filter_ids, any_ids_of_mem hn _ hr]
    · have hleft : s.stg.edits.filter
          (fun e => !((s.streams.filter StreamRecord.isRetiring).map StreamRecord.id).contains e.stream) =
          s.stg.edits.filter (fun e => !retiring e) :=
        List.filter_congr (fun e _ => by rw [contains_filter_ids])
      exact congrArg (fun l => { s.stg with edits := l }) hleft

/-! ### The completion of a departure (R145) -/

/-- With unique keys, the elements of a key are the one found by it. -/
theorem filter_key_eq {α β : Type} [DecidableEq β] (key : α → β) (k : β) (l : List α) (h : (l.map key).Nodup) :
    l.filter (fun a => key a == k) = (l.find? (fun a => key a == k)).toList := by
  induction l with
  | nil => rfl
  | cons a l ih =>
    rw [List.map_cons, List.nodup_cons] at h
    by_cases hk : key a = k
    · have hn : l.filter (fun a => key a == k) = [] :=
        List.filter_eq_nil_iff.2 (fun b hb hb' => h.1 (hk ▸ (by simpa using hb') ▸ List.mem_map_of_mem hb))
      rw [List.filter_cons_of_pos (by simp [hk]), hn, List.find?_cons_of_pos (by simp [hk])]
      rfl
    · rw [List.filter_cons_of_neg (by simp [hk]), List.find?_cons_of_neg (by simp [hk]), ih h.2]

/-- A tag that is touched goes to the recent end (R142). -/
theorem Roster.touch_eq {r : Roster} (h : (r.known.map Known.tag).Nodup) (t : Tag) :
    r.touch t = { r with known := r.knownRecent t none } := by
  unfold Roster.touch Roster.knownRecent Roster.knownOf
  rw [filter_key_eq Known.tag t r.known h, eraseP_eq_filter Known.tag t _ h]
  cases hk : r.known.find? (fun k => k.tag == t) with
  | none =>
    have hall : r.known.filter (fun k => k.tag != t) = r.known :=
      List.filter_eq_self.2 (fun k hk' => by simpa using List.find?_eq_none.1 hk k hk')
    simp [hall]
  | some k => rfl

/-- A tag's claim record is released whole (R57). -/
theorem Ledger.releaseClaim_eq {l : Ledger} (h : (l.claims.map StationClaim.tag).Nodup) (t : Tag) :
    l.releaseClaim t = { l with
      freeUnits := l.freeUnits + (l.account (.station t)).claimed
      freeChannels := l.freeChannels ||| (l.account (.station t)).held
      claims := l.claims.filter (fun c => c.tag != t)
      revision := if l.claims.any (fun c => c.tag == t) then l.revision + 1 else l.revision } := by
  have hsome : l.claims.any (fun c => c.tag == t) = (l.account? (.station t)).isSome := by
    rw [Bool.eq_iff_iff, Ledger.account?_station_isSome, List.any_eq_true]
    simp only [beq_iff_eq]
  unfold Ledger.releaseClaim Ledger.account
  rw [hsome, ← eraseP_eq_filter StationClaim.tag t _ h]
  cases ha : l.account? (.station t) with
  | none =>
    have hnone : ∀ c ∈ l.claims, ¬ (c.tag == t) = true := by
      rw [ha] at hsome
      simpa using hsome
    have herase : l.claims.eraseP (fun c => c.tag == t) = l.claims := List.eraseP_of_forall_not hnone
    simp [herase, Account.empty]
  | some a => rfl

/-- Settles O42: the claim record released, the entry gone, the tag touched. -/
theorem departureCompletes : Obligations.DepartureCompletes := by
  intro s e cause count hkeyed he hdeparting a claimed
  obtain ⟨hclaims, -, -, hnumbers, hknown, -⟩ := hkeyed
  unfold State.completeDeparture
  rw [hdeparting]
  simp only
  rw [Ledger.releaseClaim_eq hclaims]
  unfold State.removeEntry
  simp only
  rw [Roster.touch_eq (r := { s.rst with stations := s.rst.stations.eraseP (fun x => x.number == e.number) }) hknown,
    eraseP_eq_filter Station.number e.number _ hnumbers]
  cases cause <;> rfl

end Sys2Proof.Machine
end

section
/-! SUPPORT. What the owners of requests and the work of a boundary do not look at: the Host Link, where the cycle in
progress stands, and what the Trunk Port is sending. A request finds these changed by its own taking (10.3, 9.2). -/

namespace Sys2Proof.Machine

/-- The state with another Host Link, and another place in the cycle and on the trunk. -/
def State.amid (s : State) (h : HostLink) (p : CyclePhase) (x : Option TrunkSending) (b : Bool) : State :=
  { s with hlk := h, csq := { s.csq with phase := p }, tpt := { s.tpt with sending := x, edge := b } }

/-- A host request's entry is made ahead of what its owner does (R183). -/
theorem State.withHostWaiting_eq (s : State) (kind : Kind) (tag : Byte) (body : List Byte) :
    s.withHostWaiting kind tag body = s.amid (s.withHostWaiting kind tag body).hlk s.csq.phase s.tpt.sending s.tpt.edge :=
  rfl

/-- A frame of the station portion is heard ahead of what its owner does (entries 24, 42). -/
theorem State.enterPortion_eq (s : State) : s.enterPortion =
    s.amid s.hlk s.heard.csq.phase s.heard.tpt.sending false := rfl

section
variable (s : State) (h : HostLink) (p : CyclePhase) (x : Option TrunkSending) (b : Bool)

@[simp] theorem State.amid_streams : (s.amid h p x b).streams = s.streams := rfl
@[simp] theorem State.amid_stg : (s.amid h p x b).stg = s.stg := rfl
@[simp] theorem State.amid_lgr : (s.amid h p x b).lgr = s.lgr := rfl
@[simp] theorem State.amid_rst : (s.amid h p x b).rst = s.rst := rfl
@[simp] theorem State.amid_cfg : (s.amid h p x b).cfg = s.cfg := rfl
@[simp] theorem State.amid_rcu : (s.amid h p x b).rcu = s.rcu := rfl

/-- Steps that each leave these alone leave them alone one after another. -/
theorem State.foldl_amid {α : Type} (f : State → α → State)
    (hf : ∀ (s : State) (a : α), f (s.amid h p x b) a = (f s a).amid h p x b) (l : List α) :
    l.foldl f (s.amid h p x b) = (l.foldl f s).amid h p x b := by
  induction l generalizing s with
  | nil => rfl
  | cons a l ih => rw [List.foldl_cons, hf, ih, List.foldl_cons]

theorem State.joinNotice_amid (number : Nat) (n : Notice) :
    (s.amid h p x b).joinNotice number n = (s.joinNotice number n).amid h p x b := by
  unfold State.joinNotice
  rw [State.amid_rst]
  cases s.rst.byNumber number <;> rfl

theorem State.parkNotice_amid (number : Nat) (n : Notice) :
    (s.amid h p x b).parkNotice number n = (s.parkNotice number n).amid h p x b := by
  unfold State.parkNotice
  have hparked : (s.amid h p x b).tpt.parked = s.tpt.parked := rfl
  simp only [hparked]
  split <;> rfl

theorem State.handNotice_amid (number : Nat) (kind : NoticeKind) (body : List Byte) :
    (s.amid h p x b).handNotice number kind body = (s.handNotice number kind body).amid h p x b := by
  unfold State.handNotice
  have hroom : (s.amid h p x b).tpt.hasRoom = s.tpt.hasRoom := rfl
  rw [State.amid_rst, hroom, State.joinNotice_amid, State.parkNotice_amid]
  cases s.rst.byNumber number with
  | none => rfl
  | some e => simp only; split <;> rfl

theorem State.noticeIfPresent_amid (t : Tag) (kind : NoticeKind) (body : List Byte) :
    (s.amid h p x b).noticeIfPresent t kind body = (s.noticeIfPresent t kind body).amid h p x b := by
  unfold State.noticeIfPresent
  rw [State.amid_rst]
  cases s.rst.presentNumber t with
  | none => rfl
  | some n => exact State.handNotice_amid ..

theorem State.tellOutcome_amid (t : Option Tag) (e : Edit) (o : EditOutcome) :
    (s.amid h p x b).tellOutcome t e o = (s.tellOutcome t e o).amid h p x b := by
  cases t with
  | none => rfl
  | some t => exact State.noticeIfPresent_amid ..

theorem State.offer_amid (k : ReportKind) (body : List Byte) :
    (s.amid h p x b).offer k body = (s.offer k body).amid h p x b := rfl

theorem State.announce_amid (r : StreamRecord) (new : Option StreamState) (cause : ChangeCause) (late : Bool) :
    (s.amid h p x b).announce r new cause late = (s.announce r new cause late).amid h p x b := by
  unfold State.announce
  rw [State.offer_amid]
  cases r.owner with
  | host => rfl
  | station t => exact State.noticeIfPresent_amid ..

theorem State.changeState_amid (r : StreamRecord) (new : StreamState) (cause : ChangeCause) (late : Bool) :
    (s.amid h p x b).changeState r new cause late = (s.changeState r new cause late).amid h p x b :=
  State.announce_amid (s.putStream { r with state := new }) h p x b r (some new) cause late

theorem State.removeRecord_amid (id : Nat) :
    (s.amid h p x b).removeRecord id = (s.removeRecord id).amid h p x b := by
  unfold State.removeRecord
  have hfound : (s.amid h p x b).stream? id = s.stream? id := rfl
  rw [hfound]
  cases s.stream? id <;> rfl

theorem State.removeRecords_amid (ids : List Nat) :
    (s.amid h p x b).removeRecords ids = (s.removeRecords ids).amid h p x b :=
  State.foldl_amid s h p x b State.removeRecord (fun s => s.removeRecord_amid h p x b) ids

theorem State.endHolding_amid (k : Holding) : (s.amid h p x b).endHolding k = (s.endHolding k).amid h p x b := by
  unfold State.endHolding
  rw [State.removeRecords_amid]
  rfl

theorem State.closeIfEmptied_amid : (s.amid h p x b).closeIfEmptied = s.closeIfEmptied.amid h p x b := by
  unfold State.closeIfEmptied
  rw [State.amid_rcu, State.amid_lgr]
  split <;> rfl

theorem State.discardHolding_amid (k : Holding) (cause : ReleaseCause) :
    (s.amid h p x b).discardHolding k cause = (s.discardHolding k cause).amid h p x b := by
  unfold State.discardHolding
  simp only [State.endHolding_amid, State.offer_amid, State.amid_rst]
  cases ((s.endHolding k).offer .holdingReleased (holdingReleasedBody cause k)).rst.byTag k.tag with
  | none => exact State.closeIfEmptied_amid ..
  | some e => simp only [State.handNotice_amid, State.closeIfEmptied_amid]

theorem State.undoEdit_amid (e : Edit) : (s.amid h p x b).undoEdit e = (s.undoEdit e).amid h p x b := by
  unfold State.undoEdit
  have hfound : (s.amid h p x b).stream? e.stream = s.stream? e.stream := rfl
  rw [hfound]
  cases e.op with
  | admitStream a =>
    cases s.stream? e.stream with
    | none => rfl
    | some r => exact State.removeRecord_amid ..
  | resize units d =>
    cases s.stream? e.stream with
    | none => rfl
    | some r => cases d <;> rfl
  | _ => rfl

theorem State.dropEdit_amid (e : Edit) : (s.amid h p x b).dropEdit e = (s.dropEdit e).amid h p x b :=
  State.undoEdit_amid { s with stg := { s.stg with edits := s.stg.edits.filter (fun y => y.number != e.number) } } h p x b e

theorem State.dropEdits_amid (l : List Edit) : (s.amid h p x b).dropEdits l = (s.dropEdits l).amid h p x b :=
  State.foldl_amid s h p x b State.dropEdit (fun s => s.dropEdit_amid h p x b) l

theorem State.reportDiscards_amid (why : DiscardReason) (l : List Edit) :
    (s.amid h p x b).reportDiscards why l = (s.reportDiscards why l).amid h p x b := by
  unfold State.reportDiscards
  split <;> rfl

theorem State.beginDeparture_amid (e : Station) (cause : DepartCause) :
    (s.amid h p x b).beginDeparture e cause = (s.beginDeparture e cause).amid h p x b := by
  obtain ⟨edits, hedits⟩ : ∃ edits, edits = s.stg.edits.filter (fun y => s.editOwnedBy y (.station e.tag)) := ⟨_, rfl⟩
  obtain ⟨u, hu⟩ : ∃ u : State, u = { s with
      rst := s.rst.update e.number (fun y => { y with state := .departing cause (s.departingStreams e.tag) }) } := ⟨_, rfl⟩
  have hleft : s.beginDeparture e cause = State.reportDiscards { u.dropEdits edits with
      streams := (u.dropEdits edits).streams.map (fun r => r.depart e.tag) } (.departure e.tag) edits := by
    rw [hu, hedits]; rfl
  have hright : (s.amid h p x b).beginDeparture e cause = State.reportDiscards { (u.amid h p x b).dropEdits edits with
      streams := ((u.amid h p x b).dropEdits edits).streams.map (fun r => r.depart e.tag) } (.departure e.tag) edits := by
    rw [hu, hedits]; rfl
  rw [hleft, hright, State.dropEdits_amid]
  exact State.reportDiscards_amid { u.dropEdits edits with
    streams := (u.dropEdits edits).streams.map (fun r => r.depart e.tag) } h p x b _ _

theorem State.evictPresent_amid (e : Station) : (s.amid h p x b).evictPresent e = (s.evictPresent e).amid h p x b := by
  have hcount : (s.amid h p x b).departingStreams e.tag = s.departingStreams e.tag := rfl
  unfold State.evictPresent
  simp only [hcount, State.amid_lgr, State.handNotice_amid, State.beginDeparture_amid]

/-! ### The work of a boundary -/

theorem State.eachStream_amid (f : StreamRecord → State → State)
    (hf : ∀ (r : StreamRecord) (s : State), f r (s.amid h p x b) = (f r s).amid h p x b) :
    (s.amid h p x b).eachStream f = (s.eachStream f).amid h p x b := by
  refine State.foldl_amid s h p x b _ (fun s id => ?_) _
  have hfound : (s.amid h p x b).stream? id = s.stream? id := rfl
  rw [hfound]
  cases s.stream? id with
  | none => rfl
  | some r => exact hf r s

theorem State.removeRetiring_amid (r : StreamRecord) :
    State.removeRetiring r (s.amid h p x b) = (State.removeRetiring r s).amid h p x b := by
  unfold State.removeRetiring
  split
  · rw [State.removeRecord_amid, State.announce_amid]
  · rfl

theorem State.completeDeparture_amid (e : Station) :
    (s.amid h p x b).completeDeparture e = (s.completeDeparture e).amid h p x b := by
  unfold State.completeDeparture
  split <;> rfl

theorem State.removals_amid : (s.amid h p x b).removals = s.removals.amid h p x b := by
  have hstranded : (s.amid h p x b).strandedEdits = s.strandedEdits := rfl
  unfold State.removals
  rw [hstranded, State.eachStream_amid s h p x b State.removeRetiring (fun r s => s.removeRetiring_amid h p x b r)]
  simp only [State.reportDiscards_amid]
  unfold State.tellDiscards State.completeDepartures
  rw [State.foldl_amid _ h p x b _ (fun s y => s.tellOutcome_amid h p x b y.2 y.1 .discarded), State.amid_rst,
    State.foldl_amid _ h p x b _ (fun s e => s.completeDeparture_amid h p x b e)]

theorem State.suspendDeparted_amid (departed : List Tag) (r : StreamRecord) :
    State.suspendDeparted departed r (s.amid h p x b) = (State.suspendDeparted departed r s).amid h p x b := by
  unfold State.suspendDeparted
  split
  · split
    · exact State.changeState_amid ..
    · exact State.changeState_amid ..
    · rfl
  · rfl

theorem State.applyMark_amid (r : StreamRecord) :
    State.applyMark r (s.amid h p x b) = (State.applyMark r s).amid h p x b := by
  unfold State.applyMark
  rw [State.amid_cfg]
  split
  · split
    · exact State.changeState_amid ..
    · rfl
  · rfl

theorem State.restore_amid (n : Cycle) (r : StreamRecord) :
    State.restore n r (s.amid h p x b) = (State.restore n r s).amid h p x b := by
  have henter : (s.amid h p x b).enterService r n = s.enterService r n := rfl
  unfold State.restore
  rw [henter]
  split
  · split <;> exact State.changeState_amid ..
  · rfl

theorem State.activate_amid (n : Cycle) (r : StreamRecord) :
    State.activate n r (s.amid h p x b) = (State.activate n r s).amid h p x b := by
  unfold State.activate
  rw [State.amid_rst]
  split
  · exact State.changeState_amid ..
  · rfl

theorem State.returnTalker_amid (n : Cycle) (r : StreamRecord) :
    State.returnTalker n r (s.amid h p x b) = (State.returnTalker n r s).amid h p x b := by
  unfold State.returnTalker
  rw [State.amid_rst]
  split
  · exact State.changeState_amid ..
  · rfl

theorem State.boundaryWork_amid (n : Cycle) (marks : Bool) :
    (s.amid h p x b).boundaryWork n marks = (s.boundaryWork n marks).amid h p x b := by
  have hmark := fun u : State => u.eachStream_amid h p x b State.applyMark (fun r s => s.applyMark_amid h p x b r)
  have hrestore := fun u : State => u.eachStream_amid h p x b (State.restore n) (fun r s => s.restore_amid h p x b n r)
  have hactivate := fun u : State => u.eachStream_amid h p x b (State.activate n) (fun r s => s.activate_amid h p x b n r)
  have hreturn := fun u : State =>
    u.eachStream_amid h p x b (State.returnTalker n) (fun r s => s.returnTalker_amid h p x b n r)
  have hdeparted := fun u : State => u.eachStream_amid h p x b (State.suspendDeparted s.rst.departing)
    (fun r v => v.suspendDeparted_amid h p x b s.rst.departing r)
  unfold State.boundaryWork
  simp only [State.amid_rst, State.removals_amid, hdeparted]
  cases marks <;> simp only [Bool.false_eq_true, if_false, if_true, hmark, hrestore, hactivate, hreturn]

/-- A projection looks at none of these (R116). -/
theorem State.project_amid (marks : Bool) (n : Cycle) (k : Nat) :
    (s.amid h p x b).project marks n k = s.project marks n k := by
  induction k generalizing s marks n with
  | zero =>
    unfold State.project
    rw [State.boundaryWork_amid]
    rfl
  | succ k ih =>
    unfold State.project
    rw [State.boundaryWork_amid]
    exact ih { s.boundaryWork n marks with
      streams := (s.boundaryWork n marks).streams.map (StreamRecord.projectService n) } false (n + 1)

end

end Sys2Proof.Machine
end

section
/-! SUPPORT. The plan read ahead (6.2) and the slots observed (6.3, 6.4). -/

namespace Sys2Proof.Machine

/-! ### PLAN_READ (R115 to R117) -/

/-- A projected service of a record (R116). -/
theorem StreamRecord.projectService_eq (n : Cycle) (r : StreamRecord) : r.projectService n =
    if r.isLive = true ∧ (n - BitVec.ofNat 16 r.phase).toNat % r.period = 0 then
      { r with
        servicesDone := min 65535 (r.servicesDone + 1)
        state := if r.stop = some (min 65535 (r.servicesDone + 1)) then .retiring .stopCount else r.state }
    else r := by
  have hdue : (r.isLive && r.dueIn n) = true ↔
      r.isLive = true ∧ (n - BitVec.ofNat 16 r.phase).toNat % r.period = 0 := by
    simp [StreamRecord.dueIn]
  unfold StreamRecord.projectService
  by_cases h : r.isLive = true ∧ (n - BitVec.ofNat 16 r.phase).toNat % r.period = 0
  · rw [if_pos (hdue.2 h), if_pos h]
    simp only
    split <;> rfl
  · rw [if_neg (fun h' => h (hdue.1 h')), if_neg h]

/-- The list that is read, and what of it is shown (R115, R117). -/
theorem State.planReply_eq (s : State) (offset first : Nat) : s.planReply offset first =
    if (s.planLines offset).1.length < first then ⟨.badValue, [byteOf (s.planLines offset).1.length]⟩
    else ⟨.done, [(if offset = 0 then 0 else 1), presence [(s.csq.target offset).isSome]]
      ++ be16 ((s.csq.target offset).getD 0).toNat
      ++ [s.csq.partState.code, s.csq.generation, byteOf (s.planLines offset).1.length,
        byteOf (headerUnits (s.planLines offset).1.length), byteOf (((s.planLines offset).2.drop first).take 24).length]
      ++ (((s.planLines offset).2.drop first).take 24).flatten
      ++ [flag (first + (((s.planLines offset).2.drop first).take 24).length < (s.planLines offset).1.length)]
      ++ be16 (windowOffset (s.planLines offset).1) ++ [byteOf s.stg.edits.length, flag s.stg.frozen]⟩ := rfl

/-- A reading of the plan looks at nothing that the request's taking changes (R115). -/
theorem State.planReply_waiting (s : State) (kind : Kind) (tag : Byte) (body : List Byte) (offset first : Nat) :
    (s.withHostWaiting kind tag body).planReply offset first = s.planReply offset first := by
  have hprojected : (s.withHostWaiting kind tag body).projected offset = s.projected offset := by
    unfold State.projected
    rw [State.withHostWaiting_eq, State.project_amid]
    rfl
  have hlines : (s.withHostWaiting kind tag body).planLines offset = s.planLines offset := by
    unfold State.planLines
    rw [hprojected]
    rfl
  rw [State.planReply_eq, State.planReply_eq, hlines]
  rfl

/-- Settles O37: the projection's step, and the reply by offset. -/
theorem planRead : Obligations.PlanRead := by
  refine ⟨fun s marks n => ?_, fun s tag offset first h => ?_⟩
  · refine ⟨rfl, fun k => ?_⟩
    have hstep : StreamRecord.projectService n = fun r =>
        if r.isLive = true ∧ (n - BitVec.ofNat 16 r.phase).toNat % r.period = 0 then
          { r with
            servicesDone := min 65535 (r.servicesDone + 1)
            state := if r.stop = some (min 65535 (r.servicesDone + 1)) then .retiring .stopCount else r.state }
        else r := funext (StreamRecord.projectService_eq n)
    conv_lhs => unfold State.project
    rw [hstep]
  · intro leads next entries line lines page target
    have hleads : leads (if 15 < offset.toNat then ⟨.badValue, [1]⟩ else s.planReply offset.toNat first.toNat) := by
      refine exec_read .planRead [offset, first] h rfl (by simp) ?_
      have hreply : takePlanRead [offset, first] (s.withHostWaiting .planRead tag [offset, first]) =
          if 15 < offset.toNat then ⟨.badValue, [1]⟩ else s.planReply offset.toNat first.toNat := by
        rw [← State.planReply_waiting s .planRead tag [offset, first]]
        rfl
      exact congrArg (fun r => some (s.withHostWaiting .planRead tag [offset, first], some r)) hreply
    have hzero : offset.toNat = 0 ↔ offset = 0 :=
      ⟨fun h => BitVec.eq_of_toNat_eq h, fun h => congrArg BitVec.toNat h⟩
    have hentries : (s.planLines offset.toNat).1 = entries := by
      unfold State.planLines
      simp only [hzero, entries]
      split <;> rfl
    have hlines : (s.planLines offset.toNat).2 = lines := by
      unfold State.planLines
      simp only [hzero, lines, entries]
      split <;> rfl
    have htarget : s.csq.target offset.toNat = target := by
      unfold Sequencer.target
      simp only [hzero, target]
      rfl
    have hpresence : presence [target.isSome] = flag target.isSome := by cases target.isSome <;> rfl
    rw [State.planReply_eq, hentries, hlines, htarget, hpresence] at hleads
    simp only [hzero] at hleads
    split
    · next hbig => rw [if_pos hbig] at hleads; exact hleads
    · next hbig =>
      rw [if_neg hbig] at hleads
      split
      · next hlong => rw [if_pos hlong] at hleads; exact hleads
      · next hlong => rw [if_neg hlong] at hleads; exact hleads

/-! ### Slot observations (R118 to R124) -/

/-- The outcome of a slot, by what was seen in it (R118, R204). -/
theorem SlotEntry.judge_eq (e : SlotEntry) (seen : SlotSeen) : e.judge seen = match seen with
    | .transmission (type :: sender :: channel :: hi :: lo :: rest) busyAtEnd =>
      let bytes := type :: sender :: channel :: hi :: lo :: rest
      let units := word16 hi lo
      if bytes.length < 8 ∨ type ≠ 0x66 ∨ sender.toNat ≠ e.talker ∨ channel.toNat ≠ e.channel then .vacant
      else if busyAtEnd then .overlong
      else if (1 ≤ units ∧ units ≤ 512) ∧ bytes.length = units * 8 ∧
          bytes.drop (bytes.length - 2) = checkBytes (frameCheck (bytes.take (bytes.length - 2))) then .served
      else .vacant
    | _ => .vacant := by
  cases seen with
  | nothing => rfl
  | transmission bytes busy =>
    match bytes with
    | type :: sender :: channel :: hi :: lo :: b5 :: b6 :: b7 :: rest =>
      by_cases htype : type = 0x66
      · subst htype
        have hopening : slotOpening (0x66 :: sender :: channel :: hi :: lo :: b5 :: b6 :: b7 :: rest) =
            some (sender, channel) := rfl
        have hwhole : isWholeFrame (0x66 :: sender :: channel :: hi :: lo :: b5 :: b6 :: b7 :: rest) = true ↔
            (1 ≤ word16 hi lo ∧ word16 hi lo ≤ 512) ∧
            (0x66 :: sender :: channel :: hi :: lo :: b5 :: b6 :: b7 :: rest).length = word16 hi lo * 8 ∧
            checkHolds (0x66 :: sender :: channel :: hi :: lo :: b5 :: b6 :: b7 :: rest) = true := by
          rw [isWholeFrame_iff]
          constructor
          · rintro ⟨least, most, hl, hleast, hmost, hlen, hcheck⟩
            cases hl
            exact ⟨⟨hleast, hmost⟩, hlen, hcheck⟩
          · rintro ⟨⟨hleast, hmost⟩, hlen, hcheck⟩
            exact ⟨1, 512, rfl, hleast, hmost, hlen, hcheck⟩
        unfold checkHolds at hwhole
        rw [beq_iff_eq] at hwhole
        simp only [SlotEntry.judge]
        rw [hopening]
        simp only [hwhole]
        by_cases hname : sender.toNat = e.talker ∧ channel.toNat = e.channel
        · have hnamed : ¬ ((0x66 :: sender :: channel :: hi :: lo :: b5 :: b6 :: b7 :: rest).length < 8 ∨
              (0x66 : Byte) ≠ 0x66 ∨ sender.toNat ≠ e.talker ∨ channel.toNat ≠ e.channel) := by
            rintro (h | h | h | h)
            · simp only [List.length_cons] at h; omega
            · exact h rfl
            · exact h hname.1
            · exact h hname.2
          rw [if_pos hname, if_neg hnamed]
        · have hother : (0x66 :: sender :: channel :: hi :: lo :: b5 :: b6 :: b7 :: rest).length < 8 ∨
              (0x66 : Byte) ≠ 0x66 ∨ sender.toNat ≠ e.talker ∨ channel.toNat ≠ e.channel := by
            simp only [List.length_cons]; omega
          rw [if_neg hname, if_pos hother]
      · have hopening : slotOpening (type :: sender :: channel :: hi :: lo :: b5 :: b6 :: b7 :: rest) = none :=
          if_neg htype
        simp only [SlotEntry.judge]
        rw [hopening]
        exact (if_pos (.inr (.inl htype))).symm
    | [_, _, _, _, _] | [_, _, _, _, _, _] | [_, _, _, _, _, _, _] => rfl
    | [] | [_] | [_, _] | [_, _, _] | [_, _, _, _] => rfl

/-- What a counted observation makes of a LIVE stream (R122 to R124). -/
theorem StreamRecord.count_eq (r : StreamRecord) (limit : Nat) {o : Observation}
    (h : o = .served ∨ o = .vacant ∨ o = .overlong) :
    let services := min 65535 (r.servicesDone + 1)
    let run := if o = .vacant then min 255 (r.vacantRun + 1) else 0
    let total := if o = .vacant then min 65535 (r.vacantTotal + 1) else r.vacantTotal
    let late := if o = .vacant then r.overlongRun else if o = .overlong then min 3 (r.overlongRun + 1) else 0
    r.count limit o = { r with
      servicesDone := services, vacantRun := run, vacantTotal := total, overlongRun := late
      state := if r.stop = some services then .retiring .stopCount
        else if o = .vacant ∧ limit ≠ 0 ∧ limit ≤ run then .live (some .vacancy)
        else if o = .overlong ∧ late = 3 then .live (some .overlong)
        else r.state } := by
  intro services run total late
  have htally : ∀ q : StreamRecord, q = r.tally o → r.count limit o =
      if q.stop = some q.servicesDone then q.stopCount else q.markAfter limit o := by
    rintro q rfl
    rfl
  by_cases hstop : r.stop = some services
  · rcases h with rfl | rfl | rfl <;>
      exact (htally _ rfl).trans ((if_pos hstop).trans (by rw [if_pos hstop]; rfl))
  rw [if_neg hstop]
  rcases h with rfl | rfl | rfl
  · exact (htally _ rfl).trans (if_neg hstop)
  · refine (htally _ rfl).trans ((if_neg hstop).trans ?_)
    by_cases hmark : Observation.vacant = .vacant ∧ limit ≠ 0 ∧ limit ≤ run
    · rw [if_pos hmark]; exact if_pos hmark
    · rw [if_neg hmark]; exact if_neg hmark
  · refine (htally _ rfl).trans ((if_neg hstop).trans ?_)
    have hnot : ¬ (Observation.overlong = .vacant ∧ limit ≠ 0 ∧ limit ≤ run) := fun h => absurd h.1 nofun
    rw [if_neg hnot]
    refine (if_neg (fun h => absurd h.1 nofun)).trans ?_
    by_cases hmark : Observation.overlong = .overlong ∧ late = 3
    · rw [if_pos hmark]; exact if_pos hmark
    · rw [if_neg hmark]; exact if_neg hmark

/-- What was seen in a slot is judged served, vacant or overlong (R118). -/
theorem SlotEntry.judge_cases (e : SlotEntry) (seen : SlotSeen) :
    e.judge seen = .served ∨ e.judge seen = .vacant ∨ e.judge seen = .overlong := by
  cases seen with
  | nothing => exact .inr (.inl rfl)
  | transmission bytes busy =>
    unfold SlotEntry.judge
    simp only
    split
    · simp
    · split
      · split
        · simp
        · split <;> simp
      · simp

/-- A slot's observation: of a stream that is LIVE it is judged and counted, of any other it is UNCOUNTED (R118, R121). -/
theorem State.observeSlot_eq {s : State} {before after : List ObsEntry} {x : ObsEntry} (hs : s.svw = before ++ x :: after)
    (hbefore : ∀ y ∈ before, y.seen ≠ .pending) (hx : x.seen = .pending) (seen : SlotSeen) :
    s.observeSlot seen = match (s.stream? x.slot.stream).filter StreamRecord.isLive with
      | some r => { s.putStream (r.count s.cfg.vacancyLimit (x.slot.judge seen)) with
          svw := before ++ ⟨x.slot, x.slot.judge seen⟩ :: after, tpt := { s.tpt with sending := none, edge := false } }
      | none => { s with
          svw := before ++ ⟨x.slot, .uncounted⟩ :: after, tpt := { s.tpt with sending := none, edge := false } } := by
  have hfound : s.svw.find? (fun y => y.seen == .pending) = some x := by
    rw [hs]
    exact find?_append_cons (fun y hy => by simpa using hbefore y hy) (by simp [hx])
  have hcomplete : ∀ o, completeNext o s.svw = before ++ ⟨x.slot, o⟩ :: after := by
    intro o
    rw [hs]
    exact updateFirst_split _ _ before x after (fun y hy => by simpa using hbefore y hy) (by simp [hx])
  unfold State.observeSlot
  rw [hfound]
  simp only
  cases (s.stream? x.slot.stream).filter StreamRecord.isLive with
  | none => simp only [hcomplete]
  | some r =>
    have hput : ∀ q, (s.putStream q).svw = s.svw := fun _ => rfl
    simp only [hput, hcomplete]
    rfl

/-- Settles O36: `State.observeSlot_eq` with the outcome judged and counted, and the stop count by itself. -/
theorem slotsObservedAndCounted : Obligations.SlotsObservedAndCounted := by
  refine ⟨fun s seen before x after hrun hphase hs hbefore hx hpos => ?_, fun s id hpos => ?_⟩
  · intro leads judged
    have hn : (s.streams.map StreamRecord.id).Nodup := hpos.nodup
    have hjudged : x.slot.judge seen = judged := SlotEntry.judge_eq x.slot seen
    have hexec : exec (.slotObservation seen) s = .next (State.transmit (s.observeSlot seen)) := by
      have hwatching : s.watching = true := by simp [State.watching, hrun, hphase]
      show Host.Outcome.next (State.transmit (takeSlotObservation seen s)) = _
      unfold takeSlotObservation
      rw [if_pos hwatching]
    rw [State.observeSlot_eq hs hbefore hx] at hexec
    refine ⟨fun hnot => ?_, fun r hr hid hlive => ?_⟩
    · have hnone : (s.stream? x.slot.stream).filter StreamRecord.isLive = none := by
        cases hfound : s.stream? x.slot.stream with
        | none => rfl
        | some r =>
          obtain ⟨hr, hid⟩ := State.stream?_some hfound
          simp [hnot r hr hid]
      rw [hnone] at hexec
      exact hexec
    · have hsome : (s.stream? x.slot.stream).filter StreamRecord.isLive = some r := by
        rw [← hid, State.stream?_of_mem hn hr]
        simp [hlive]
      rw [hsome, hjudged] at hexec
      intro services run total late state
      have hcount : r.count s.cfg.vacancyLimit judged = { r with
          servicesDone := services, vacantRun := run, vacantTotal := total, overlongRun := late, state := state } :=
        r.count_eq s.cfg.vacancyLimit (hjudged ▸ x.slot.judge_cases seen)
      have hput : (s.putStream (r.count s.cfg.vacancyLimit judged)).streams =
          s.streams.map (fun y => if y.id = r.id then r.count s.cfg.vacancyLimit judged else y) := by
        rw [State.putStream_eq hn, show (r.count s.cfg.vacancyLimit judged).id = r.id from (congrArg StreamRecord.id hcount).trans rfl]
      rw [hcount] at hput
      exact hexec.trans (congrArg (fun l => Host.Outcome.next (State.transmit { s with
        svw := before ++ ⟨x.slot, judged⟩ :: after, streams := l, tpt := { s.tpt with sending := none, edge := false } }))
        (hcount ▸ hput))
  · have hn : (s.streams.map StreamRecord.id).Nodup := hpos.nodup
    have hexec : exec (.stopCountReached id) s = .next (State.transmit (takeStopCount id s)) := rfl
    unfold takeStopCount at hexec
    refine ⟨fun r hr hid hlive hstop => ?_, fun hnot => ?_⟩
    · rw [← hid, State.stream?_of_mem hn hr] at hexec
      simp only [hlive, hstop, beq_self_eq_true, Bool.and_self, if_true] at hexec
      rw [← hid, hexec, State.putStream_eq hn]
      have hmap : s.streams.map (fun y => if y.id = r.stopCount.id then r.stopCount else y) =
          s.streams.map (fun y => if y.id = r.id then { y with state := .retiring .stopCount } else y) := by
        refine List.map_congr_left (fun y hy => ?_)
        by_cases hy' : y.id = r.id
        · obtain rfl := List.inj_on_of_nodup_map hn hy hr hy'
          rfl
        · rw [if_neg hy', if_neg (show ¬ y.id = r.stopCount.id from hy')]
      rw [hmap]
    · cases hfound : s.stream? id with
      | none => rw [hfound] at hexec; exact hexec
      | some r =>
        obtain ⟨hr, hid⟩ := State.stream?_some hfound
        rw [hfound] at hexec
        simp only at hexec
        rw [if_neg (by simpa using hnot r hr hid)] at hexec
        exact hexec

end Sys2Proof.Machine
end

section
/-! SUPPORT. Requests whose owner changes other blocks than those that their taking changes; the requests that only read. -/

namespace Sys2Proof.Machine

/-! ### What a taken request leaves -/

/-- The blocks that the taking of a request changes stand as they did (10.3, 9.2). -/
structure State.Beside (s u : State) : Prop where
  link : u.hlk = s.hlk
  phase : u.csq.phase = s.csq.phase
  sending : u.tpt.sending = s.tpt.sending
  edge : u.tpt.edge = s.tpt.edge
  epoch : u.rst.epoch = s.rst.epoch

theorem State.Beside.rfl {s : State} : s.Beside s := ⟨Eq.refl _, Eq.refl _, Eq.refl _, Eq.refl _, Eq.refl _⟩

/-- A host request whose owner does not look at what its taking changes leaves what the owner makes of the state before,
with the reply (R182, R183). -/
theorem exec_hostBeside {c : Instr} {s u : State} {tag : Byte} (kind : Kind) (body : List Byte) {r : Reply}
    (h : s.HostReady tag) (hc : exec c s = outcome (hostBodyFits body) (s.hostRequest kind tag body))
    (hb : body.length ≤ 248) (hu : s.Beside u)
    (ho : ∀ h p x b, hostOwner kind tag body (s.amid h p x b) = some (u.amid h p x b, some r)) :
    exec c s = .next (State.transmit (u.withHostReply kind tag body r)) := by
  obtain ⟨hlink, hphase, hsending, hedge, -⟩ := hu
  refine exec_answered kind body h hc hb (ho (s.withHostWaiting kind tag body).hlk s.csq.phase s.tpt.sending s.tpt.edge)
    rfl ?_
  unfold State.amid State.withHostReply
  rw [← hlink, ← hphase, ← hsending, ← hedge]

/-- The same of a station's request (R165 to R169). -/
theorem State.stationFrame_beside {s u : State} {number epoch : Byte} {seq : BitVec 4} {e : Station}
    (h : s.StationReady number epoch seq e) {kind : Byte} {body : List Byte} {r : Reply} (hu : s.Beside u)
    (ho : s.enterPortion.executeStation e kind body = (u.amid s.hlk s.heard.csq.phase s.heard.tpt.sending false, r)) :
    s.stationFrame number epoch seq kind body = u.withStationReply e seq kind r := by
  obtain ⟨hlink, hphase, hsending, hedge, hepoch⟩ := hu
  rw [State.stationFrame_taken h, State.answerStation_of ho]
  unfold State.withStationReply State.amid State.heard
  rw [← hlink, ← hphase, ← hsending, ← hedge, ← hepoch]

/-- The same of a request that both may send; a station's leaves the roster as it is (R40). -/
theorem State.request_beside {s u : State} {sender : Sender} {p : Party} {kind : Kind} {body : List Byte} {r : Reply}
    (h : s.SenderReady sender p) (hu : s.Beside u) (hr : p ≠ .host → u.rst = s.rst)
    (ho : ∀ h q x b, partyRequest kind p body (s.amid h q x b) = some (u.amid h q x b, r)) :
    s.request sender kind body = u.withReply sender kind body r := by
  cases sender with
  | host tag =>
    obtain ⟨hready, rfl⟩ := h
    obtain ⟨hlink, hphase, hsending, hedge, -⟩ := hu
    have hparty := ho (s.withHostWaiting kind tag body).hlk s.csq.phase s.tpt.sending s.tpt.edge
    have howner := hostOwner_eq_partyRequest tag (Option.isSome_of_eq_some hparty)
    rw [hparty] at howner
    refine (State.hostRequest_answered hready howner rfl).trans ?_
    show State.amid _ _ _ _ _ = State.withHostReply _ _ _ _ _
    unfold State.amid State.withHostReply
    rw [← hlink, ← hphase, ← hsending, ← hedge]
  | station number epoch seq =>
    obtain ⟨e, hready, hremote, rfl⟩ := h
    have ⟨⟨_, hentry, _⟩, _⟩ := hready
    have hparty := ho s.hlk s.heard.csq.phase s.heard.tpt.sending false
    have howner := stationOwner_eq_partyRequest (Option.isSome_of_eq_some hparty)
    have hexec := State.executeStation_owner (s := s.enterPortion) hremote (howner.trans hparty)
    have hframe := State.stationFrame_beside hready hu hexec
    simp only [State.withReply, hr nofun, hentry]
    exact hframe

/-- What a request that both may send leaves, as its row. -/
theorem exec_request {c : Instr} {s u : State} {sender : Sender} {p : Party} (kind : Kind) (body : List Byte) {r : Reply}
    (h : s.SenderReady sender p) (hc : exec c s = outcome (bodyFits sender body) (s.request sender kind body))
    (hb : body.length ≤ 54) (hu : s.Beside u) (hr : p ≠ .host → u.rst = s.rst)
    (ho : ∀ h q x b, partyRequest kind p body (s.amid h q x b) = some (u.amid h q x b, r)) :
    exec c s = .next (State.transmit (u.withReply sender kind body r)) := by
  have hfits : bodyFits sender body = true := by
    cases sender with
    | host tag => exact hostBodyFits_of (by omega)
    | station number epoch seq => exact requestBodyFits_of hb
  rw [hc, hfits, State.request_beside h hu hr ho]
  rfl

/-! ### LEDGER_READ and CLAIM_LIST (3.7) -/

/-- The parts of the ledger that a party is shown (R48). -/
theorem Ledger.readBody_eq (l : Ledger) (budget : Nat) (rights : Rights) (p : Party) :
    let sees := p = .host ∨ rights.query = true
    let holding : Option Holding := match p with
      | .host => none
      | .station t => l.holdings.find? (fun h => h.tag = t)
    l.readBody budget rights p =
      [byteOf ((if sees then 3 else 0) + (if (l.account? p).isSome then 4 else 0) + (if holding.isSome then 8 else 0)
        + (if p = .host then 16 else 0))]
      ++ (if sees then be16 l.freeUnits ++ setBytes l.freeChannels else List.replicate 8 0)
      ++ (match l.account? p with
          | some a => partyBytes p ++ be16 a.claimed ++ be16 a.committed ++ setBytes a.held
              ++ countedList (fun b => [byteOf b.1, byteOf b.2]) a.bound
          | none => List.replicate 18 0)
      ++ (match holding with
          | some h => be16 h.units ++ setBytes h.channels ++ [byteOf h.streams.length, h.epoch]
          | none => List.replicate 10 0)
      ++ (if p = .host then
          be16 (l.host.claimed + (l.claims.map (fun c => c.account.claimed)).sum)
          ++ be16 (l.host.committed + (l.claims.map (fun c => c.account.committed)).sum)
          ++ be16 (l.holdings.map Holding.units).sum ++ [byteOf (l.claims.length + 1), byteOf l.holdings.length]
         else List.replicate 8 0)
      ++ be16 budget := by
  cases p with
  | host => rfl
  | station t =>
    obtain ⟨claim, stream, query⟩ := rights
    intro sees holding
    have hholding : l.holding? t = holding := rfl
    unfold Ledger.readBody
    simp only [hholding]
    clear_value holding
    generalize l.account? (.station t) = account
    cases query <;> cases account <;> cases holding <;> rfl

/-- The entries of a page: as many as the number and the room allow, and no fewer (12, R201). -/
theorem wholeEntries_spec (most : Nat) : ∀ (room : Nat) (l : List (List Byte)), ∃ k ≤ min most l.length,
    wholeEntries most room l = l.take k ∧ (l.take k).flatten.length ≤ room ∧
    (k < min most l.length → room < (l.take (k + 1)).flatten.length) := by
  induction most with
  | zero => exact fun room l => ⟨0, Nat.zero_le _, rfl, Nat.zero_le _, fun h => by omega⟩
  | succ most ih =>
    intro room l
    cases l with
    | nil => exact ⟨0, Nat.zero_le _, rfl, Nat.zero_le _, fun h => by simp at h⟩
    | cons e l =>
      by_cases he : e.length ≤ room
      · obtain ⟨k, hk, hwhole, hroom, hnext⟩ := ih (room - e.length) l
        refine ⟨k + 1, by simp; omega, ?_, ?_, fun hlt => ?_⟩
        · simp only [wholeEntries, he, if_true, hwhole, List.take_succ_cons]
        · simp only [List.take_succ_cons, List.flatten_cons, List.length_append]; omega
        · have := hnext (by simp at hlt; omega)
          simp only [List.take_succ_cons, List.flatten_cons, List.length_append] at this ⊢
          omega
      · refine ⟨0, Nat.zero_le _, ?_, Nat.zero_le _, fun _ => ?_⟩
        · simp only [wholeEntries, he, if_false, List.take_zero]
        · simpa using he

/-- The saved state of a stream as a holding's entry carries it (R64, R201). -/
theorem State.savedByte_eq (s : State) (id : Nat) :
    optionalCode SavedState.code ((s.stream? id).bind (fun r => r.state.saved?)) = s.savedByte id := by
  unfold State.savedByte State.stream?
  cases s.streams.find? (fun r => r.id == id) with
  | none => rfl
  | some r =>
    show optionalCode SavedState.code r.state.saved? = _
    simp only [Option.map_some]
    cases r.state with
    | held v => cases v <;> rfl
    | _ => rfl

/-- The combined list of claim records and holdings (R50). -/
theorem State.claimEntries_eq (s : State) : s.claimEntries =
    ([0] ++ partyBytes .host ++ be16 s.lgr.host.claimed ++ be16 s.lgr.host.committed ++ setBytes s.lgr.host.held
        ++ byteOf s.lgr.host.bound.length :: (s.lgr.host.bound.map (fun b => [byteOf b.1, byteOf b.2])).flatten)
      :: s.lgr.claims.map (fun c => [0] ++ partyBytes (.station c.tag) ++ be16 c.account.claimed
        ++ be16 c.account.committed ++ setBytes c.account.held
        ++ byteOf c.account.bound.length :: (c.account.bound.map (fun b => [byteOf b.1, byteOf b.2])).flatten)
      ++ s.lgr.holdings.map (fun h => [1] ++ tagBytes h.tag ++ be16 h.units ++ setBytes h.channels ++ [h.epoch]
        ++ byteOf h.streams.length
          :: (h.streams.map (fun x => [byteOf x.id] ++ be16 x.charge ++ [s.savedByte x.id])).flatten) := by
  unfold State.claimEntries claimEntry State.holdingEntry countedList
  simp only [State.savedByte_eq, List.cons_append, List.nil_append]

/-- Settles O22: the parts shown, the page cut, and the accounts of a ledger with unique records. -/
theorem ledgerReads : Obligations.LedgerReads := by
  refine ⟨fun s sender p h => ?_, fun s tag first h => ?_, fun l t f hn => ?_⟩
  · intro l sees holding
    have hexec := exec_request (c := .ledgerRead sender []) (u := s) (r := ⟨.done, s.lgr.readBody s.cfg.budget (s.rst.rightsOf p) p⟩)
      .ledgerRead [] h rfl (Nat.zero_le _) .rfl (fun _ => rfl) (fun _ _ _ _ => rfl)
    rw [Ledger.readBody_eq] at hexec
    exact hexec
  · intro leads claimLine holdingLine entries rest
    have hentries : s.claimEntries = entries := s.claimEntries_eq
    have hexec : leads (s.claimListReply first.toNat) := exec_read .claimList [first] h rfl (by simp) rfl
    unfold State.claimListReply at hexec
    rw [hentries] at hexec
    simp only at hexec
    split
    · next hlong => rw [if_pos hlong] at hexec; exact hexec
    · next hlong =>
      rw [if_neg hlong] at hexec
      obtain ⟨k, hk, hwhole, hroom, hnext⟩ := wholeEntries_spec 16 243 rest
      refine ⟨k, hk, hroom, hnext, ?_⟩
      have hlength : (rest.take k).length = k := by rw [List.length_take]; omega
      have hmore : flag (first.toNat + k < entries.length) = flag (k < rest.length) := by
        have : rest.length = entries.length - first.toNat := List.length_drop
        exact congrArg flag (decide_eq_decide.2 (by omega))
      rw [show wholeEntries 16 243 (entries.drop first.toNat) = rest.take k from hwhole, hlength, hmore] at hexec
      exact hexec
  · refine ⟨⟨rfl, rfl, rfl⟩, fun c hc ht => ?_, fun hnone => ?_, ?_⟩
    · have := Ledger.account?_of_mem hn hc
      rw [ht] at this
      exact ⟨by simp [Ledger.account, this], this⟩
    · have hfound : l.account? (.station t) = none := by
        have := Ledger.account?_station_isSome l t
        cases ha : l.account? (.station t) with
        | none => rfl
        | some a =>
          rw [ha] at this
          obtain ⟨c, hc, hct⟩ := this.1 rfl
          exact absurd hct (hnone c hc)
      exact ⟨Ledger.account_of_none hfound, hfound⟩
    · exact congrArg (fun x => { l with claims := x }) (updateFirst_key StationClaim.tag _ t l.claims hn)

/-! ### STREAM_READ, STREAM_LIST and ROSTER_READ (4.10, 7.3) -/

/-- A presence byte of seven parts (entry 10). -/
theorem presence_seven : ∀ b0 b1 b2 b3 b4 b5 b6 : Bool, presence [b0, b1, b2, b3, b4, b5, b6] =
    byteOf ((List.range 7).map (fun i => if [b0, b1, b2, b3, b4, b5, b6].getD i false then 2 ^ i else 0)).sum := by
  decide

/-- An optional number's bytes (R201). -/
theorem optional16_eq (n : Option Nat) : optional16 n = be16 (n.getD 0) := by
  cases n <;> rfl

/-- The 39 bytes of a record, part by part (R64, R201; 12, STREAM_READ). -/
theorem StreamRecord.readBody_eq (r : StreamRecord) :
    let optional (n : Option Nat) : List Byte := be16 (n.getD 0)
    let cause (c : Option SuspendCause) : Byte := match c with
      | none | some .owner => 0
      | some .vacancy => 1
      | some .overlong => 2
      | some .absent => 3
    let suspend : Option SuspendCause := match r.state with
      | .suspended c => some c
      | _ => none
    let saved : Option SavedState := match r.state with
      | .held v => some v
      | _ => none
    let retire : Option RetireCause := match r.state with
      | .retiring c => some c
      | _ => none
    let mark : Option Mark := match r.state with
      | .live m => m
      | _ => none
    let present := [r.start.isSome, r.stop.isSome, suspend.isSome, saved.isSome, retire.isSome,
      r.pendingResize.isSome, mark.isSome]
    r.readBody =
      [byteOf r.id, (match r.state with
        | .staged => 0 | .waitingStart => 1 | .live _ => 2 | .suspended _ => 3 | .held _ => 4 | .retiring _ => 5),
        byteOf ((List.range 7).map (fun i => if present.getD i false then 2 ^ i else 0)).sum]
      ++ partyBytes r.owner ++ tagBytes r.talker ++ [byteOf r.channel] ++ be16 r.units
      ++ [byteOf r.period, byteOf r.phase] ++ optional (r.start.map BitVec.toNat) ++ optional r.stop
      ++ [cause suspend,
          (match saved with | none => 0 | some .waitingStart => 1 | some .live => 2 | some (.suspended _) => 3),
          (match saved with | some (.suspended c) => cause (some c) | _ => 0),
          (match retire with | some .departure => 1 | _ => 0)]
      ++ optional r.pendingResize ++ [(match mark with | some .overlong => 1 | _ => 0), flag r.restoreMark]
      ++ be16 r.servicesDone ++ [byteOf r.vacantRun] ++ be16 r.vacantTotal ++ [byteOf r.overlongRun] := by
  obtain ⟨id, owner, talker, channel, units, period, phase, start, stop, state, pending, restored, done, run, total,
    overlong⟩ := r
  unfold StreamRecord.readBody
  rw [presence_seven, optional16_eq, optional16_eq, optional16_eq]
  cases state with
  | live m =>
    cases m with
    | none => rfl
    | some m => cases m <;> rfl
  | suspended c => cases c <;> rfl
  | held v =>
    cases v with
    | suspended c => cases c <;> rfl
    | _ => rfl
  | retiring c => cases c <;> rfl
  | _ => rfl

/-- Settles O30: the replies of `streamReadReply`, `streamListReply` and `rosterPage`. -/
theorem streamsAndRosterRead : Obligations.StreamsAndRosterRead := by
  refine ⟨⟨fun s sender p id h hpos => ?_, fun s tag h => ?_⟩, fun s tag first known h => ?_⟩
  · intro leads query
    have hexec : leads (s.streamReadReply p id.toNat) := exec_request .streamRead [id] h rfl (by simp) .rfl
      (fun _ => rfl) (fun _ _ _ _ => rfl)
    unfold State.streamReadReply at hexec
    split
    · next hbig => rw [if_pos (show Config.streamPositions ≤ id.toNat from hbig)] at hexec; exact hexec
    · next hbig =>
      rw [if_neg (show ¬ Config.streamPositions ≤ id.toNat from hbig)] at hexec
      split
      · next hnone =>
        have hfound : s.stream? id.toNat = none := List.find?_eq_none.2 (fun r hr => by simpa using hnone r hr)
        rw [hfound] at hexec
        simp only at hexec
        split
        · next hq => rw [if_pos hq] at hexec; exact hexec
        · next hq => rw [if_neg hq] at hexec; exact hexec
      · intro r hr hid optional cause suspend saved retire mark present body
        have hbyte : byteOf r.id = id := by
          rw [hid]
          exact BitVec.eq_of_toNat_eq (byteOf_toNat _ id.isLt)
        have hread := r.readBody_eq
        rw [hbyte] at hread
        have hbody : r.readBody = body := hread
        rw [← hid, State.stream?_of_mem hpos.nodup hr] at hexec
        simp only [Bool.or_eq_true, beq_iff_eq] at hexec
        rw [hbody] at hexec
        split
        · next hq => rw [if_pos hq] at hexec; exact hexec
        · next hq => rw [if_neg hq] at hexec; exact hexec
  · have hexec : exec (.streamList tag []) s = .next (State.transmit (s.withHostReply .streamList tag [] s.streamListReply)) :=
      exec_read .streamList [] h rfl (Nat.zero_le _) rfl
    have hline : ∀ r : StreamRecord, r.listLine = [byteOf r.id, r.state.code,
        (match r.owner with | .host => 0 | .station _ => 1), byteOf r.channel] := by
      intro r
      unfold StreamRecord.listLine
      cases r.owner <;> rfl
    unfold State.streamListReply countedList at hexec
    rw [List.map_congr_left (fun r _ => hline r)] at hexec
    exact hexec
  · intro body leads lines page
    have hexec : leads (s.rosterPage (if known then s.rst.known.map s.rst.knownLine else s.rst.stations.map s.rosterLine)
        first.toNat) := by
      refine exec_read .rosterRead body h rfl (by simp [body]) ?_
      cases known <;> rfl
    have hlines : (if known then s.rst.known.map s.rst.knownLine else s.rst.stations.map s.rosterLine) = lines := by
      simp only [lines]
      cases known with
      | true =>
        refine List.map_congr_left (fun k _ => ?_)
        unfold Roster.knownLine
        cases k.last <;> rfl
      | false =>
        refine List.map_congr_left (fun e _ => ?_)
        unfold State.rosterLine Station.isPresent Station.cause?
        cases e.state with
        | present => rfl
        | departing c n => cases c <;> rfl
    rw [hlines] at hexec
    unfold State.rosterPage at hexec
    split
    · next hlong => rw [if_pos hlong] at hexec; exact hexec
    · next hlong => rw [if_neg hlong] at hexec; exact hexec

end Sys2Proof.Machine
end

section
/-! SUPPORT. The end of a holding (3.8, 8.4): by the host's act, by EVICT and by the window's expiry. -/

namespace Sys2Proof.Machine

/-- What leaves the changed blocks to a request's taking changes nothing in them itself. -/
theorem State.Beside.of_amid {s u : State} (h : u = u.amid s.hlk s.csq.phase s.tpt.sending s.tpt.edge)
    (he : u.rst.epoch = s.rst.epoch) : s.Beside u :=
  ⟨(congrArg State.hlk h).trans (Eq.refl _), (congrArg (fun v : State => v.csq.phase) h).trans (Eq.refl _),
    (congrArg (fun v : State => v.tpt.sending) h).trans (Eq.refl _), (congrArg (fun v : State => v.tpt.edge) h).trans (Eq.refl _), he⟩

/-! ### Notices (R174, R175) -/

/-- What a notice makes of queue and roster follows from queue and roster alone. -/
theorem State.handNotice_congr {s t : State} (hr : s.rst = t.rst) (ht : s.tpt = t.tpt) (number : Nat)
    (kind : NoticeKind) (body : List Byte) : (s.handNotice number kind body).rst = (t.handNotice number kind body).rst ∧
      (s.handNotice number kind body).tpt = (t.handNotice number kind body).tpt := by
  unfold State.handNotice State.joinNotice State.parkNotice State.pushFrame
  simp only [hr, ht]
  cases t.rst.byNumber number with
  | none => exact ⟨hr, ht⟩
  | some e =>
    simp only
    split
    · exact ⟨rfl, rfl⟩
    · split <;> exact ⟨rfl, rfl⟩

theorem State.noticeIfPresent_congr {s t : State} (hr : s.rst = t.rst) (ht : s.tpt = t.tpt) (tag : Tag)
    (kind : NoticeKind) (body : List Byte) : (s.noticeIfPresent tag kind body).rst = (t.noticeIfPresent tag kind body).rst ∧
      (s.noticeIfPresent tag kind body).tpt = (t.noticeIfPresent tag kind body).tpt := by
  unfold State.noticeIfPresent
  rw [hr]
  cases t.rst.presentNumber tag with
  | none => exact ⟨hr, ht⟩
  | some n => exact State.handNotice_congr hr ht n kind body

/-! ### The end of a holding (R51, R82) -/

/-- A search by what a change of the first match keeps finds the changed element. -/
theorem find?_updateFirst {α : Type} (p : α → Bool) (f : α → α) (h : ∀ a, p a = true → p (f a) = true) (l : List α) :
    (updateFirst p f l).find? p = (l.find? p).map f := by
  induction l with
  | nil => rfl
  | cons a l ih =>
    by_cases hp : p a = true
    · simp [updateFirst_cons, hp, h a hp]
    · simp [updateFirst_cons, hp, ih]

/-- The removal of a tag's HELD streams touches its holding's list alone (R54, R56). -/
theorem State.removeRecords_held (t : Tag) (ids : List Nat) : ∀ s : State,
    (∀ r ∈ s.streams, r.id ∈ ids → r.owner = .station t ∧ r.isHeld = true) →
    ∃ f : Holding → Holding, (∀ h, (f h).tag = h.tag ∧ (f h).units = h.units ∧ (f h).channels = h.channels) ∧
      (s.removeRecords ids).lgr =
        { s.lgr with holdings := updateFirst (fun h => h.tag == t) f s.lgr.holdings } := by
  have hid : ∀ l : List Holding, updateFirst (fun h => h.tag == t) (fun h => h) l = l := by
    intro l
    induction l with
    | nil => rfl
    | cons a l ih => rw [updateFirst_cons, ih]; split <;> rfl
  induction ids with
  | nil =>
    exact fun s _ => ⟨fun h => h, fun h => ⟨rfl, rfl, rfl⟩, (congrArg (fun l => { s.lgr with holdings := l }) (hid _)).symm⟩
  | cons id ids ih =>
    intro s hs
    obtain ⟨f, hf, hlgr⟩ := ih (s.removeRecord id)
      (fun r hr hmem => hs r (s.removeRecord_subset id hr) (List.mem_cons_of_mem _ hmem))
    show ∃ f : Holding → Holding, _ ∧ ((s.removeRecord id).removeRecords ids).lgr = _
    cases hfound : s.stream? id with
    | none =>
      have hsame : s.removeRecord id = s := by unfold State.removeRecord; rw [hfound]
      rw [hsame] at hlgr ⊢
      exact ⟨f, hf, hlgr⟩
    | some r =>
      obtain ⟨hr, hrid⟩ := State.stream?_some hfound
      obtain ⟨howner, hheld⟩ := hs r hr (hrid ▸ List.mem_cons_self ..)
      have hone : (s.removeRecord id).lgr = s.lgr.dropHeld t r.id := by
        unfold State.removeRecord
        rw [hfound]
        simp only
        rw [Ledger.freeStream_eq, hheld, howner]
      refine ⟨fun h => f { h with streams := h.streams.filter (fun x => x.id != r.id) }, fun h => hf _, ?_⟩
      rw [hlgr, hone]
      exact congrArg (fun l => { s.lgr with holdings := l })
        (updateFirst_updateFirst (fun h => h.tag == t)
          (fun h => { h with streams := h.streams.filter (fun x => x.id != r.id) }) f (fun h hh => hh) s.lgr.holdings)

/-- With unique ids and holdings in place, the records that a holding lists are its tag's and HELD (R38). -/
theorem State.heldInPlace.owner {s : State} (hn : (s.streams.map StreamRecord.id).Nodup) (hheld : s.heldInPlace)
    {h : Holding} (hh : h ∈ s.lgr.holdings) : ∀ r ∈ s.streams, r.id ∈ h.streams.map HeldStream.id →
      r.owner = .station h.tag ∧ r.isHeld = true := by
  intro r hr hid
  obtain ⟨x, hx, hxid⟩ := List.mem_map.1 hid
  obtain ⟨q, hq, hqid, howner, hqheld⟩ := hheld h hh x hx
  obtain rfl := List.inj_on_of_nodup_map hn hq hr (hqid.trans hxid)
  exact ⟨howner, hqheld⟩

/-- What a removal of records that stand leaves beside the ledger (R77). -/
theorem State.removeRecords_beside {s : State} (hn : (s.streams.map StreamRecord.id).Nodup) {ids : List Nat}
    (hids : ∀ id ∈ ids, (s.stream? id).isSome = true) : s.removeRecords ids = { s with
      lgr := (s.removeRecords ids).lgr
      streams := s.streams.filter (fun r => !ids.contains r.id)
      stg := { s.stg with edits := s.stg.edits.filter (fun e => !ids.contains e.stream) } } := by
  have hstreams := State.removeRecords_streams hn ids
  have hedits : (s.removeRecords ids).stg.edits = s.stg.edits.filter (fun e => !ids.contains e.stream) := by
    rw [State.removeRecords_edits hn ids]
    refine List.filter_congr (fun e _ => ?_)
    cases hc : ids.contains e.stream with
    | false => rfl
    | true => rw [hids _ (by simpa using hc)]; rfl
  have hframe : ∀ (ids : List Nat) (u : State), u.removeRecords ids = { u with
      lgr := (u.removeRecords ids).lgr, streams := (u.removeRecords ids).streams
      stg := { u.stg with edits := (u.removeRecords ids).stg.edits } } := by
    intro ids
    induction ids with
    | nil => exact fun _ => rfl
    | cons id ids ih =>
      intro u
      have hone : u.removeRecord id = { u with
          lgr := (u.removeRecord id).lgr, streams := (u.removeRecord id).streams
          stg := { u.stg with edits := (u.removeRecord id).stg.edits } } := by
        unfold State.removeRecord
        split <;> rfl
      have hrest := ih (u.removeRecord id)
      obtain ⟨v, hv⟩ : ∃ v, v = (u.removeRecord id).removeRecords ids := ⟨_, rfl⟩
      show (u.removeRecord id).removeRecords ids = { u with
        lgr := ((u.removeRecord id).removeRecords ids).lgr, streams := ((u.removeRecord id).removeRecords ids).streams
        stg := { u.stg with edits := ((u.removeRecord id).removeRecords ids).stg.edits } }
      rw [← hv] at hrest ⊢
      rw [hone] at hrest
      exact hrest
  have h := hframe ids s
  rw [hedits, hstreams] at h
  exact h

/-- A holding's end: its streams and the edits for them go, its units and channels are free (R51, R82). -/
theorem State.endHolding_eq {s : State} (hn : (s.streams.map StreamRecord.id).Nodup)
    (hkeys : (s.lgr.holdings.map Holding.tag).Nodup) (hheld : s.heldInPlace) {h : Holding} (hh : h ∈ s.lgr.holdings) :
    s.endHolding h = { s with
      lgr := { s.lgr with
        freeUnits := s.lgr.freeUnits + h.units, freeChannels := s.lgr.freeChannels ||| h.channels
        holdings := s.lgr.holdings.filter (fun x => x.tag != h.tag), revision := s.lgr.revision + 1 }
      streams := s.streams.filter (fun r => !(h.streams.map HeldStream.id).contains r.id)
      stg := { s.stg with
        edits := s.stg.edits.filter (fun e => !(h.streams.map HeldStream.id).contains e.stream) } } := by
  have hids : ∀ id ∈ h.streams.map HeldStream.id, (s.stream? id).isSome = true := by
    intro id hid
    obtain ⟨x, hx, rfl⟩ := List.mem_map.1 hid
    obtain ⟨q, hq, hqid, -⟩ := hheld h hh x hx
    exact State.stream?_isSome.2 ⟨q, hq, hqid⟩
  obtain ⟨f, hf, hlgr⟩ := State.removeRecords_held h.tag (h.streams.map HeldStream.id) s
    (State.heldInPlace.owner hn hheld hh)
  have hrelease : (s.removeRecords (h.streams.map HeldStream.id)).lgr.releaseHolding h.tag = { s.lgr with
      freeUnits := s.lgr.freeUnits + h.units, freeChannels := s.lgr.freeChannels ||| h.channels
      holdings := s.lgr.holdings.filter (fun x => x.tag != h.tag), revision := s.lgr.revision + 1 } := by
    have hkeep : ∀ a : Holding, (a.tag == h.tag) = true → ((f a).tag == h.tag) = true := by
      intro a ha
      rw [(hf a).1]
      exact ha
    have hfound : (s.removeRecords (h.streams.map HeldStream.id)).lgr.holding? h.tag = some (f h) := by
      rw [hlgr]
      exact (find?_updateFirst _ f hkeep _).trans (congrArg _ (find?_of_mem Holding.tag h _ hkeys hh))
    unfold Ledger.releaseHolding
    rw [hfound, hlgr]
    simp only [(hf h).2.1, (hf h).2.2, eraseP_updateFirst _ f hkeep, eraseP_eq_filter Holding.tag h.tag _ hkeys]
  unfold State.endHolding
  rw [State.removeRecords_beside hn hids]
  exact congrArg (fun l => { s with
      lgr := l
      streams := s.streams.filter (fun r => !(h.streams.map HeldStream.id).contains r.id)
      stg := { s.stg with
        edits := s.stg.edits.filter (fun e => !(h.streams.map HeldStream.id).contains e.stream) } }) hrelease

/-- No holding is left behind the end of one exactly if it was the only one. -/
theorem Ledger.holdings_emptied {l : Ledger} (hkeys : (l.holdings.map Holding.tag).Nodup) {h : Holding}
    (hh : h ∈ l.holdings) : l.holdings.filter (fun x => x.tag != h.tag) = [] ↔ l.holdings = [h] := by
  constructor
  · intro hnil
    have hall : ∀ x ∈ l.holdings, x = h := by
      intro x hx
      have : x.tag = h.tag := by
        by_contra hne
        have : x ∈ l.holdings.filter (fun x => x.tag != h.tag) := List.mem_filter.2 ⟨hx, by simpa using hne⟩
        rw [hnil] at this
        exact absurd this nofun
      exact List.inj_on_of_nodup_map hkeys hx hh this
    match hl : l.holdings with
    | [] => rw [hl] at hh; exact absurd hh nofun
    | [x] => rw [hall x (by rw [hl]; exact List.mem_cons_self ..)]
    | x :: y :: rest =>
      have hx := hall x (by rw [hl]; simp)
      have hy := hall y (by rw [hl]; simp)
      rw [hl, hx, hy] at hkeys
      simp at hkeys
  · intro hl
    rw [hl]
    simp

/-- A list of one-byte entries is the list of the bytes. -/
theorem flatten_map_singleton {α β : Type} (f : α → β) (l : List α) : (l.map (fun x => [f x])).flatten = l.map f := by
  induction l with
  | nil => rfl
  | cons a l ih => rw [List.map_cons, List.flatten_cons, ih]; rfl

/-- The state with a holding ended and its end reported, ahead of the notice (R51). -/
def State.ended (s : State) (h : Holding) (cause : ReleaseCause) : State :=
  (s.endHolding h).offer .holdingReleased (holdingReleasedBody cause h)

/-- A discard is the end of the holding, its station's notice, and the window's close (R51). -/
theorem State.discardHolding_eq (s : State) (h : Holding) (cause : ReleaseCause) :
    s.discardHolding h cause = State.closeIfEmptied (match s.rst.byTag h.tag with
      | some e => (s.ended h cause).handNotice e.number .claimReleased
          (claimReleasedBody 0 h.units h.channels h.streams.length)
      | none => s.ended h cause) := by
  have hrst : (s.ended h cause).rst = s.rst := by
    obtain ⟨-, -, -, hrst, -⟩ := s.endHolding_frame h
    exact hrst
  unfold State.discardHolding
  simp only
  show State.closeIfEmptied (match (s.ended h cause).rst.byTag h.tag with
    | some e => (s.ended h cause).handNotice e.number .claimReleased _
    | none => s.ended h cause) = _
  rw [hrst]

/-- A discard leaves what the statements on it say (R51, R82, R157), and the notice's queue and roster. -/
theorem State.discardHolding_ended {s : State} (hpos : s.positioned) (hkeyed : s.keyed) (hheld : s.heldInPlace)
    {h : Holding} (hh : h ∈ s.lgr.holdings) (cause : ReleaseCause) :
    s.holdingEnded h cause.code (s.discardHolding h cause) ∧
    (∀ e, s.rst.byTag h.tag = some e →
      (s.discardHolding h cause).tpt = (s.handNotice e.number .claimReleased
        (claimReleasedBody 0 h.units h.channels h.streams.length)).tpt ∧
      (s.discardHolding h cause).rst = (s.handNotice e.number .claimReleased
        (claimReleasedBody 0 h.units h.channels h.streams.length)).rst) ∧
    (s.rst.byTag h.tag = none → (s.discardHolding h cause).tpt = s.tpt ∧ (s.discardHolding h cause).rst = s.rst) := by
  obtain ⟨-, hkeys, -⟩ := hkeyed
  have hn := hpos.nodup
  have hended := State.endHolding_eq hn hkeys hheld hh
  obtain ⟨v, hv⟩ : ∃ v, v = (match s.rst.byTag h.tag with
      | some e => (s.ended h cause).handNotice e.number .claimReleased
          (claimReleasedBody 0 h.units h.channels h.streams.length)
      | none => s.ended h cause) := ⟨_, rfl⟩
  have hdiscard : s.discardHolding h cause = v.closeIfEmptied := by rw [hv]; exact s.discardHolding_eq h cause
  have hbase : (s.ended h cause).rst = s.rst ∧ (s.ended h cause).tpt = s.tpt ∧
      (s.ended h cause).rcu = s.rcu ∧ (s.ended h cause).csq = s.csq ∧ (s.ended h cause).cfg = s.cfg ∧
      (s.ended h cause).svw = s.svw ∧ (s.ended h cause).hlk = s.hlk ∧ (s.ended h cause).pending = s.pending := by
    unfold State.ended
    rw [hended]
    exact ⟨rfl, rfl, rfl, rfl, rfl, rfl, rfl, rfl⟩
  obtain ⟨hrst, htpt, hrcu, hcsq, hcfg, hsvw, hhlk, hpending⟩ := hbase
  have hvframe : v.lgr = (s.ended h cause).lgr ∧ v.streams = (s.ended h cause).streams ∧
      v.stg = (s.ended h cause).stg ∧ v.rpu = (s.ended h cause).rpu ∧ v.rcu = s.rcu ∧ v.csq = s.csq ∧
      v.cfg = s.cfg ∧ v.svw = s.svw ∧ v.hlk = s.hlk ∧ v.pending = s.pending ∧ v.rst.epoch = s.rst.epoch := by
    rw [hv]
    cases s.rst.byTag h.tag with
    | none => exact ⟨rfl, rfl, rfl, rfl, hrcu, hcsq, hcfg, hsvw, hhlk, hpending, congrArg Roster.epoch hrst⟩
    | some e =>
      obtain ⟨h1, h2, h3, h4, h5, h6, h7, h8, h9, h10, h11, -⟩ := (s.ended h cause).handNotice_frame e.number
        .claimReleased (claimReleasedBody 0 h.units h.channels h.streams.length)
      exact ⟨h3, h4, h5, h9, h7.trans hrcu, h1.trans hcsq, h2.trans hcfg, h6.trans hsvw, h8.trans hhlk,
        h10.trans hpending, h11.trans (congrArg Roster.epoch hrst)⟩
  obtain ⟨h1, h2, h3, h4, h5, h6, h7, h8, h9, h10, h11⟩ := hvframe
  obtain ⟨c1, c2, c3, c4, c5, c6, c7, c8, c9, c10⟩ := v.closeIfEmptied_frame
  rw [hdiscard]
  refine ⟨?_, fun e he => ?_, fun hnone => ?_⟩
  · have hcond : (v.rcu.isOpen && v.lgr.holdings.isEmpty) = true ↔ s.rcu.isOpen = true ∧ s.lgr.holdings = [h] := by
      rw [Bool.and_eq_true, List.isEmpty_iff, h1, h5, ← Ledger.holdings_emptied hkeys hh]
      unfold State.ended
      rw [hended]
      exact Iff.rfl
    have hrelease : (s.ended h cause).rpu = (s.offer .holdingReleased (cause.code :: tagBytes h.tag ++ be16 h.units
        ++ setBytes h.channels ++ byteOf (h.streams.map HeldStream.id).length
          :: (h.streams.map HeldStream.id).map byteOf)).rpu := by
      have hlist : countedList (fun x : HeldStream => [byteOf x.id]) h.streams =
          byteOf (h.streams.map HeldStream.id).length :: (h.streams.map HeldStream.id).map byteOf := by
        unfold countedList
        rw [flatten_map_singleton, List.length_map, List.map_map]
        rfl
      unfold State.ended holdingReleasedBody
      rw [hended, hlist]
      rfl
    refine ⟨?_, ?_, ?_, ?_, ?_, c1.trans h6, c2.trans h7, c6.trans h8, c9.trans h9, c10.trans h10⟩
    · rw [c3, h1]
      unfold State.ended
      rw [hended]
      rfl
    · rw [c4, h2]
      unfold State.ended
      rw [hended]
      rfl
    · unfold State.closeIfEmptied
      by_cases hc : s.rcu.isOpen = true ∧ s.lgr.holdings = [h]
      · rw [if_pos (hcond.2 hc), if_pos hc, ← h5]
        rfl
      · rw [if_neg (fun hc' => hc (hcond.1 hc')), if_neg hc, h5]
    · unfold State.closeIfEmptied
      by_cases hc : s.rcu.isOpen = true ∧ s.lgr.holdings = [h]
      · rw [if_pos (hcond.2 hc), if_pos hc]
        unfold State.offer
        rw [h4, hrelease, h6, h11]
        rfl
      · rw [if_neg (fun hc' => hc (hcond.1 hc')), if_neg hc, h4, hrelease]
    · rw [c5, h3]
      unfold State.ended
      rw [hended]
      rfl
  · rw [he] at hv
    obtain ⟨hr, ht⟩ := State.handNotice_congr hrst htpt e.number .claimReleased
      (claimReleasedBody 0 h.units h.channels h.streams.length)
    rw [c8, c7, hv]
    exact ⟨ht, hr⟩
  · rw [hnone] at hv
    rw [c8, c7, hv]
    exact ⟨htpt, hrst⟩

/-- Six bytes of a tag are read as the tag (R201). -/
theorem decodeTag_tagBytes (kind : Kind) (t : Tag) : decodeTag kind (tagBytes t) = .ok t :=
  congrArg Except.ok (tagOf_tagBytes t)

/-- Settles O23: `State.discardHolding_ended`, behind the search for the holding. -/
theorem holdingDiscarded : Obligations.HoldingDiscarded := by
  intro s tag t h hkeyed hpos hheld c
  obtain ⟨-, hkeys, htags, -⟩ := id hkeyed
  refine ⟨fun hnone => ?_, fun k hk hkt => ?_⟩
  · have hfound : s.lgr.holding? t = none := List.find?_eq_none.2 (fun k hk => by simpa using hnone k hk)
    refine exec_hostBeside .discardHolding (tagBytes t) h rfl (by simp [tagBytes]) .rfl (fun h' p x b => ?_)
    show (fun x : State × Reply => some (x.1, some x.2)) (takeDiscardHolding (tagBytes t) (s.amid h' p x b)) = _
    unfold takeDiscardHolding
    rw [decodeTag_tagBytes]
    simp only [State.amid_lgr, hfound]
  · have hfound : s.lgr.holding? t = some k := by
      have := find?_of_mem Holding.tag k s.lgr.holdings hkeys hk
      rw [hkt] at this
      exact this
    obtain ⟨hended, htold, hnot⟩ := State.discardHolding_ended hpos hkeyed hheld hk .discard
    obtain ⟨-, -, -, -, -, hepoch, -⟩ := s.discardHolding_frame k .discard
    refine ⟨s.discardHolding k .discard, ?_, hended, fun e he het => ?_, fun hnone => ?_⟩
    · refine exec_hostBeside .discardHolding (tagBytes t) h rfl (by simp [tagBytes])
        (.of_amid (s.discardHolding_amid s.hlk s.csq.phase s.tpt.sending s.tpt.edge k .discard) hepoch) (fun h' p x b => ?_)
      show (fun x : State × Reply => some (x.1, some x.2)) (takeDiscardHolding (tagBytes t) (s.amid h' p x b)) = _
      unfold takeDiscardHolding
      rw [decodeTag_tagBytes]
      simp only [State.amid_lgr, hfound, State.discardHolding_amid]
      rfl
    · exact htold e (by rw [hkt, ← het]; exact Roster.byTag_of_mem htags he)
    · exact hnot (Roster.byTag_none (fun e he => hkt ▸ hnone e he))

end Sys2Proof.Machine
end

section
/-! SUPPORT. The known-tag list (7.3): SET_RIGHTS and EVICT. -/

namespace Sys2Proof.Machine

/-- With at most 24 stations, a full known-tag list has an entry to give up: the least recent whose tag is not in the
roster (R142). -/
theorem Roster.evictable_of_full {r : Roster} (hn : (r.known.map Known.tag).Nodup) (hst : r.stations.length ≤ 24)
    (hfull : 32 ≤ r.known.length) : ∃ v before after, r.evictable = some v ∧ r.known = before ++ v :: after ∧
      ∀ k ∈ before, r.holds k.tag = true := by
  cases hv : r.evictable with
  | none =>
    exfalso
    have hall : ∀ k ∈ r.known, r.holds k.tag = true := by
      intro k hk
      simpa using List.find?_eq_none.1 hv k hk
    have hsub : r.known.map Known.tag ⊆ r.stations.map Station.tag := by
      intro t ht
      obtain ⟨k, hk, rfl⟩ := List.mem_map.1 ht
      have := hall k hk
      simp only [Roster.holds, List.any_eq_true, beq_iff_eq] at this
      obtain ⟨e, he, hek⟩ := this
      exact List.mem_map.2 ⟨e, he, hek⟩
    have hlen := (hn.subperm hsub).length_le
    simp only [List.length_map] at hlen
    omega
  | some v =>
    obtain ⟨-, before, after, hsplit, hbefore⟩ := List.find?_eq_some_iff_append.1 hv
    exact ⟨v, before, after, rfl, hsplit, fun k hk => by simpa using hbefore k hk⟩

/-- A new entry joins the known-tag list as R142 says. -/
theorem Roster.addKnown_eq {r : Roster} (hn : (r.known.map Known.tag).Nodup) (hst : r.stations.length ≤ 24) (k : Known) :
    r.addKnown k = ({ r with known := r.knownWith k },
      if r.known.length < 32 then none else (r.known.find? (fun k => !r.holds k.tag)).map Known.tag) := by
  unfold Roster.addKnown Roster.knownWith
  by_cases hroom : r.known.length < 32
  · rw [if_pos (show r.known.length < Config.knownRoom from hroom), if_pos hroom,
      if_pos (show r.known.length < Config.knownRoom from hroom)]
  · rw [if_neg (show ¬ r.known.length < Config.knownRoom from hroom), if_neg hroom,
      if_neg (show ¬ r.known.length < Config.knownRoom from hroom)]
    obtain ⟨v, before, after, hv, hsplit, hbefore⟩ := Roster.evictable_of_full hn hst (Nat.le_of_not_lt hroom)
    have hnot : r.holds v.tag = false := by simpa using List.find?_some hv
    have hapart : ∀ k ∈ before, (k.tag == v.tag) = false := by
      intro k hk
      rw [hsplit, List.map_append, List.map_cons] at hn
      have := (List.nodup_append.1 hn).2.2 _ (List.mem_map_of_mem hk) _ (List.mem_cons_self ..)
      simpa using this
    have hbytag : r.known.eraseP (fun x => x.tag == v.tag) = before ++ after := by
      rw [hsplit, List.eraseP_append_right _ (fun k hk => by simp [hapart k hk]), List.eraseP_cons_of_pos (by simp)]
    have hbyroster : r.known.eraseP (fun x => !r.stations.any (fun e => e.tag == x.tag)) = before ++ after := by
      rw [hsplit, List.eraseP_append_right _ (fun k hk => by simpa [Roster.holds] using hbefore k hk),
        List.eraseP_cons_of_pos (by simpa [Roster.holds] using hnot)]
    rw [hv]
    simp only [hbytag, hbyroster]
    rw [show r.known.find? (fun k => !r.holds k.tag) = some v from hv]
    rfl

/-- A tag is given rights in its entry's place, or in a new entry (R146, R147). -/
theorem Roster.giveRights_eq {r : Roster} (hn : (r.known.map Known.tag).Nodup) (hst : r.stations.length ≤ 24) (t : Tag)
    (rights : Rights) : r.giveRights t rights = (r.withRights t rights,
      if r.known.any (fun k => k.tag == t) = true ∨ r.known.length < 32 then none
      else (r.known.find? (fun k => !r.holds k.tag)).map Known.tag) := by
  have hany : r.known.any (fun k => k.tag == t) = (r.knownOf t).isSome := by
    unfold Roster.knownOf
    rw [Bool.eq_iff_iff, List.find?_isSome, List.any_eq_true]
  unfold Roster.giveRights Roster.withRights
  rw [hany]
  cases hk : r.knownOf t with
  | some k =>
    simp only [Option.isSome_some, if_true, true_or]
    unfold Roster.putRights
    rw [updateFirst_key Known.tag _ t _ hn]
  | none =>
    simp only [Option.isSome_none, Bool.false_eq_true, if_false, false_or]
    rw [Roster.addKnown_eq hn hst]

/-- A tag with an entry in the known-tag list. -/
theorem Roster.knownOf_of_mem {r : Roster} (hn : (r.known.map Known.tag).Nodup) {k : Known} (hk : k ∈ r.known) :
    r.knownOf k.tag = some k := find?_of_mem Known.tag k r.known hn hk

/-- The rights byte is read as the rights (R201). -/
theorem Rights.ofByte_byte (r : Rights) : Rights.ofByte r.byte = some r := by
  obtain ⟨c, s, q⟩ := r
  cases c <;> cases s <;> cases q <;> rfl

/-- A tag and a byte behind it are read as what they are (R201). -/
theorem decodeTagWith_bytes {α : Type} (kind : Kind) {take : Byte → Option α} {b : Byte} {v : α} (t : Tag)
    (h : take b = some v) : decodeTagWith kind take (tagBytes t ++ [b]) = .ok (t, v) := by
  simp only [tagBytes, List.cons_append, List.nil_append, decodeTagWith, h]
  exact congrArg (fun t => Except.ok (t, v)) (tagOf_tagBytes t)

theorem decodeSetRights_bytes (t : Tag) (rights : Rights) :
    decodeSetRights (tagBytes t ++ [rights.byte]) = .ok (t, rights) :=
  decodeTagWith_bytes _ t (Rights.ofByte_byte rights)

theorem flagOf_flag (b : Bool) : flagOf (flag b) = some b := by cases b <;> rfl

theorem decodeEvict_bytes (t : Tag) (bar : Bool) : decodeEvict (tagBytes t ++ [flag bar]) = .ok (t, bar) :=
  decodeTagWith_bytes _ t (flagOf_flag bar)

/-- Settles O45: `Roster.giveRights_eq` and the reply; the rights of a party by its entry. -/
theorem rightsSet : Obligations.RightsSet := by
  refine ⟨fun s tag t rights h hkeyed hroster hknown hst => ?_, fun r t hn => ⟨rfl, fun k hk ht => ?_, fun hnone => ?_,
    Roster.touch_eq hn t⟩⟩
  · intro body evicted
    obtain ⟨-, -, -, -, hn, -⟩ := hkeyed
    have hgive := Roster.giveRights_eq hn hst t rights
    have hlen : body.length ≤ 248 := by simp [body, tagBytes]
    refine exec_hostBeside (u := { s with rst := s.rst.withRights t rights }) .setRights body h rfl hlen
      (.of_amid rfl rfl) (fun h' p x b => ?_)
    show (fun x : State × Reply => some (x.1, some x.2)) (takeSetRights body (s.amid h' p x b)) = _
    unfold takeSetRights
    rw [decodeSetRights_bytes]
    simp only [State.amid_rst, hgive]
    refine congrArg some (Prod.ext rfl (congrArg (fun l => some (Reply.mk .done l)) ?_))
    show _ = (match s.rst.known.find? (fun k => k.tag == t) with
      | some k => [1, k.rights.byte] ++ tagBytes 0
      | none => [if evicted.isSome then 2 else 0, 0] ++ tagBytes (evicted.getD 0))
    have hany : s.rst.known.any (fun k => k.tag == t) = (s.rst.known.find? (fun k => k.tag == t)).isSome := by
      rw [Bool.eq_iff_iff, List.find?_isSome, List.any_eq_true]
    unfold Roster.knownOf
    have hevicted : (if s.rst.known.any (fun k => k.tag == t) = true ∨ s.rst.known.length < 32 then none
      else (s.rst.known.find? (fun k => !s.rst.holds k.tag)).map Known.tag) = evicted := rfl
    rw [hevicted]
    cases hk : s.rst.known.find? (fun k => k.tag == t) with
    | some k =>
      have : evicted = none := if_pos (.inl (by rw [hany, hk]; rfl))
      rw [this]
      rfl
    | none =>
      clear_value evicted
      cases evicted <;> rfl
  · show ((r.knownOf t).map Known.rights).getD .nothing = _
    rw [← ht, Roster.knownOf_of_mem hn hk]
    rfl
  · show ((r.knownOf t).map Known.rights).getD .nothing = _
    rw [Roster.knownOf_eq_none.2 hnone]
    rfl

/-! ### EVICT (R146) -/

/-- A change of one entry keeps the number of entries. -/
theorem Roster.update_length (r : Roster) (number : Nat) (f : Station → Station) :
    (r.update number f).stations.length = r.stations.length := updateFirst_length ..

theorem State.handNotice_stations (s : State) (number : Nat) (kind : NoticeKind) (body : List Byte) :
    (s.handNotice number kind body).rst.stations.length = s.rst.stations.length := by
  unfold State.handNotice State.joinNotice State.parkNotice
  cases s.rst.byNumber number with
  | none => rfl
  | some e =>
    simp only
    split
    · exact Roster.update_length ..
    · split
      · rfl
      · exact Roster.update_length ..

theorem State.dropEdits_roster (s : State) (l : List Edit) : (s.dropEdits l).rst = s.rst := by simp

theorem State.reportDiscards_roster (s : State) (why : DiscardReason) (l : List Edit) :
    (s.reportDiscards why l).rst = s.rst := by simp

/-- The beginning of a departure changes one entry (R144). -/
theorem State.beginDeparture_roster (s : State) (e : Station) (cause : DepartCause) : (s.beginDeparture e cause).rst =
    s.rst.update e.number (fun x => { x with state := .departing cause (s.departingStreams e.tag) }) := by
  unfold State.beginDeparture
  simp only
  rw [State.reportDiscards_roster]
  exact State.dropEdits_roster _ _

/-- What an EVICT leaves and answers, given what its action by the tag's standing leaves and answers (R146). -/
theorem exec_evict {s u : State} {tag : Byte} {t : Tag} {bar : Bool} {r : Reply} (h : s.HostReady tag)
    (hn : (u.rst.known.map Known.tag).Nodup) (hst : u.rst.stations.length ≤ 24) (hu : s.Beside u)
    (hevict : ∀ h p x b, (s.amid h p x b).evict t = (u.amid h p x b, r)) :
    exec (.evict tag (tagBytes t ++ [flag bar])) s = .next (State.transmit (State.withHostReply
      (if bar = true ∧ r.code = .done then { u with rst := u.rst.withRights t ⟨false, false, false⟩ } else u)
      .evict tag (tagBytes t ++ [flag bar]) r)) := by
  obtain ⟨hlink, hphase, hsending, hedge, hepoch⟩ := hu
  refine exec_hostBeside .evict _ h rfl (by simp [tagBytes]) ?_ (fun h' p x b => ?_)
  · split
    · exact ⟨hlink, hphase, hsending, hedge, hepoch⟩
    · exact ⟨hlink, hphase, hsending, hedge, hepoch⟩
  · show (fun x : State × Reply => some (x.1, some x.2)) (takeEvict _ (s.amid h' p x b)) = _
    unfold takeEvict
    rw [decodeEvict_bytes]
    simp only [hevict, State.amid_rst]
    rw [Roster.giveRights_eq hn hst]
    by_cases hbar : bar = true ∧ r.code = .done
    · rw [if_pos hbar, if_pos hbar]; rfl
    · rw [if_neg hbar, if_neg hbar]

/-- Settles O44: `exec_evict` with the action by the tag's standing. -/
theorem evictTaken : Obligations.EvictTaken := by
  intro s tag t bar h hkeyed hst body leads
  obtain ⟨-, hkeys, htags, -, hn, -⟩ := id hkeyed
  refine ⟨fun e he het => ⟨fun hpresent => ?_, fun hpresent => ?_⟩, fun hnone => ⟨fun k hk hkt => ?_,
    fun hpos hheld k hk hkt => ?_, fun hnohold => ?_⟩⟩
  · intro a
    have hby : s.rst.byTag t = some e := het ▸ Roster.byTag_of_mem htags he
    have hevicted : (s.handNotice e.number .claimReleased ([1] ++ be16 a.claimed ++ setBytes a.held
        ++ [byteOf (s.streams.filter (fun r => r.owner == .station t && (r.inService || r.state == .staged))).length])
        ).beginDeparture e .evict = s.evictPresent e := by
      unfold State.evictPresent
      rw [het]
      rfl
    rw [hevicted]
    obtain ⟨-, -, -, -, -, -, hepoch, hknown, -⟩ := s.evictPresent_frame e
    refine exec_evict h ?_ ?_ (.of_amid (s.evictPresent_amid _ _ _ _ e) hepoch) (fun h' p x b => ?_)
    · rw [hknown]; exact hn
    · unfold State.evictPresent
      simp only
      rw [State.beginDeparture_roster, Roster.update_length, State.handNotice_stations]
      exact hst
    · unfold State.evict
      rw [State.amid_rst, hby]
      simp only [Station.isPresent, hpresent, beq_self_eq_true, if_true, State.evictPresent_amid]
  · have hby : s.rst.byTag t = some e := het ▸ Roster.byTag_of_mem htags he
    refine exec_evict h hn hst (.of_amid rfl rfl) (fun h' p x b => ?_)
    unfold State.evict
    rw [State.amid_rst, hby]
    simp only [Station.isPresent, beq_false_of_ne hpresent, Bool.false_eq_true, if_false]
  · have hby : s.rst.byTag t = none := Roster.byTag_none hnone
    have hfound : s.lgr.holding? t = some k := hkt ▸ find?_of_mem Holding.tag k s.lgr.holdings hkeys hk
    have hrst : (s.discardHolding k .evict).rst = s.rst := by
      rw [State.discardHolding_eq, hkt, hby]
      obtain ⟨-, -, -, -, -, -, hclose, -⟩ := (s.ended k .evict).closeIfEmptied_frame
      obtain ⟨-, -, -, hend, -⟩ := s.endHolding_frame k
      exact hclose.trans hend
    refine exec_evict h (by rw [hrst]; exact hn) (by rw [hrst]; exact hst)
      (.of_amid (s.discardHolding_amid _ _ _ _ k .evict) (congrArg Roster.epoch hrst)) (fun h' p x b => ?_)
    unfold State.evict
    rw [State.amid_rst, hby]
    simp only [State.amid_lgr, hfound, State.discardHolding_amid]
    rfl
  · have hby : s.rst.byTag k.tag = none := hkt ▸ Roster.byTag_none hnone
    obtain ⟨hended, -, hnot⟩ := State.discardHolding_ended hpos hkeyed hheld hk .evict
    exact ⟨hended, hnot hby⟩
  · have hby : s.rst.byTag t = none := Roster.byTag_none hnone
    have hfound : s.lgr.holding? t = none := List.find?_eq_none.2 (fun k hk => by simpa using hnohold k hk)
    refine exec_evict h hn hst (.of_amid rfl rfl) (fun h' p x b => ?_)
    unfold State.evict
    rw [State.amid_rst, hby]
    simp only [State.amid_lgr, hfound]

end Sys2Proof.Machine
end

section
/-! SUPPORT. The reclaim window's countdown and close (8.4). -/

namespace Sys2Proof.Machine

/-- A PRESENT station is told that its holding ended with the window (R156). -/
def State.tellClosed (s : State) (h : Holding) : State :=
  s.noticeIfPresent h.tag .claimReleased (claimReleasedBody 2 h.units h.channels h.streams.length)

theorem State.tellClosed_eq (s : State) (h : Holding) :
    s.tellClosed h = { s with tpt := (s.tellClosed h).tpt, rst := (s.tellClosed h).rst } := by
  unfold State.tellClosed State.noticeIfPresent
  cases s.rst.presentNumber h.tag with
  | none => rfl
  | some n => exact s.handNotice_eq _ _ _

/-- What the notices make of queue and roster follows from queue and roster alone. -/
theorem tellClosed_congr (l : List Holding) : ∀ {s t : State}, s.rst = t.rst → s.tpt = t.tpt →
    (l.foldl State.tellClosed s).rst = (l.foldl State.tellClosed t).rst ∧
      (l.foldl State.tellClosed s).tpt = (l.foldl State.tellClosed t).tpt := by
  induction l with
  | nil => exact fun hr ht => ⟨hr, ht⟩
  | cons h l ih =>
    intro s t hr ht
    obtain ⟨hr', ht'⟩ := State.noticeIfPresent_congr hr ht h.tag .claimReleased
      (claimReleasedBody 2 h.units h.channels h.streams.length)
    exact ih hr' ht'

/-- Without an entry of a holding's tag nobody is told. -/
theorem tellClosed_of_absent (l : List Holding) (s : State) (h : ∀ k ∈ l, ∀ e ∈ s.rst.stations, e.tag ≠ k.tag) :
    l.foldl State.tellClosed s = s := by
  induction l with
  | nil => rfl
  | cons k l ih =>
    have hnone : s.tellClosed k = s := by
      unfold State.tellClosed State.noticeIfPresent
      rw [Roster.presentNumber_none (fun e he het => absurd het (h k (List.mem_cons_self ..) e he))]
    rw [List.foldl_cons, hnone]
    exact ih (fun x hx => h x (List.mem_cons_of_mem _ hx))

/-- The other holdings stay in place when one ends. -/
theorem State.heldInPlace.endHolding {s : State} (hn : (s.streams.map StreamRecord.id).Nodup)
    (hheld : s.heldInPlace) {h : Holding} (hh : h ∈ s.lgr.holdings) : ∀ k ∈ s.lgr.holdings, k.tag ≠ h.tag →
      ∀ x ∈ k.streams, ∃ r ∈ s.streams.filter (fun r => !(h.streams.map HeldStream.id).contains r.id),
        r.id = x.id ∧ r.owner = .station k.tag ∧ r.isHeld = true := by
  intro k hk hne x hx
  obtain ⟨r, hr, hrx, howner, hrheld⟩ := hheld k hk x hx
  refine ⟨r, List.mem_filter.2 ⟨hr, ?_⟩, hrx, howner, hrheld⟩
  have hout : r.id ∉ h.streams.map HeldStream.id := fun hin =>
    hne (by simpa [howner] using (State.heldInPlace.owner hn hheld hh r hr hin).1)
  simpa using hout

/-- The close of the window ends every holding, oldest first, and tells its station (R156). -/
theorem expireHoldings_eq (l : List Holding) : ∀ {s : State}, s.lgr.holdings = l →
    (s.streams.map StreamRecord.id).Nodup → (l.map Holding.tag).Nodup → s.heldInPlace →
    l.foldl State.expireHolding s = { s with
      lgr := { s.lgr with
        freeUnits := s.lgr.freeUnits + (l.map Holding.units).sum
        freeChannels := l.foldl (fun c h => c ||| h.channels) s.lgr.freeChannels
        holdings := [], revision := s.lgr.revision + BitVec.ofNat 8 l.length }
      streams := s.streams.filter
        (fun r => !((l.map (fun h => h.streams.map HeldStream.id)).flatten).contains r.id)
      stg := { s.stg with
        edits := s.stg.edits.filter (fun e => !((l.map (fun h => h.streams.map HeldStream.id)).flatten).contains e.stream) }
      tpt := (l.foldl State.tellClosed s).tpt
      rst := (l.foldl State.tellClosed s).rst } := by
  induction l with
  | nil =>
    intro s hl _ _ _
    have hs : s.lgr = { s.lgr with holdings := [] } := by rw [← hl]
    simp only [List.foldl_nil, List.map_nil, List.flatten_nil, List.sum_nil, List.length_nil, Nat.add_zero,
      BitVec.add_zero, ← hs, List.contains_nil, Bool.not_false, List.filter_true]
  | cons h l ih =>
    intro s hl hn hkeys hheld
    have hh : h ∈ s.lgr.holdings := hl ▸ List.mem_cons_self ..
    have hrest : s.lgr.holdings.filter (fun x => x.tag != h.tag) = l := by
      rw [hl, List.filter_cons_of_neg (by simp)]
      refine List.filter_eq_self.2 (fun k hk => ?_)
      have : h.tag ≠ k.tag := fun heq => (List.nodup_cons.1 hkeys).1 (heq ▸ List.mem_map_of_mem hk)
      simpa using this.symm
    have hended := State.endHolding_eq hn (hl ▸ hkeys) hheld hh
    obtain ⟨v, hv⟩ : ∃ v, v = s.expireHolding h := ⟨_, rfl⟩
    have hone : v = { s.endHolding h with tpt := v.tpt, rst := v.rst } :=
      hv ▸ State.tellClosed_eq (s.endHolding h) h
    have htold : v.rst = (s.tellClosed h).rst ∧ v.tpt = (s.tellClosed h).tpt := by
      rw [hv]
      exact State.noticeIfPresent_congr (by rw [hended]) (by rw [hended]) h.tag .claimReleased
        (claimReleasedBody 2 h.units h.channels h.streams.length)
    rw [hended] at hone
    have hvl : v.lgr.holdings = l := by rw [hone]; exact hrest
    have hvs : v.streams = s.streams.filter (fun r => !(h.streams.map HeldStream.id).contains r.id) := by rw [hone]
    have hvn : (v.streams.map StreamRecord.id).Nodup := by
      rw [hvs]
      exact hn.sublist ((List.filter_sublist ..).map _)
    have hvheld : v.heldInPlace := by
      intro k hk x hx
      rw [hvl, ← hrest] at hk
      rw [hvs]
      obtain ⟨hk, hne⟩ := List.mem_filter.1 hk
      exact State.heldInPlace.endHolding hn hheld hh k hk (by simpa using hne) x hx
    obtain ⟨hcr, hct⟩ := tellClosed_congr l htold.1 htold.2
    show l.foldl State.expireHolding (s.expireHolding h) = _
    rw [← hv, ih hvl hvn (List.nodup_cons.1 hkeys).2 hvheld]
    rw [hcr, hct, hone]
    simp only [List.filter_filter, List.map_cons, List.flatten_cons, List.sum_cons, List.foldl_cons, List.length_cons]
    congr 1
    · congr 1
      · omega
      · rw [add_assoc, BitVec.ofNat_add, add_comm (BitVec.ofNat 8 l.length)]
        rfl
    · refine List.filter_congr (fun r _ => ?_)
      rw [List.contains_eq_mem, List.contains_eq_mem, List.contains_eq_mem]
      simp [Bool.and_comm]
    · congr 1
      refine List.filter_congr (fun e _ => ?_)
      rw [List.contains_eq_mem, List.contains_eq_mem, List.contains_eq_mem]
      simp [Bool.and_comm]

/-- The state of a window closed by its count, its report apart from the cycle's place (R156). -/
theorem State.expireWindow_eq {s : State} (hn : (s.streams.map StreamRecord.id).Nodup)
    (hkeys : (s.lgr.holdings.map Holding.tag).Nodup) (hheld : s.heldInPlace) :
    s.expireWindow = { s with
      rcu := { s.rcu with isOpen := false, remaining := 0 }
      lgr := { s.lgr with
        freeUnits := s.lgr.freeUnits + (s.lgr.holdings.map Holding.units).sum
        freeChannels := s.lgr.holdings.foldl (fun c h => c ||| h.channels) s.lgr.freeChannels
        holdings := [], revision := s.lgr.revision + BitVec.ofNat 8 s.lgr.holdings.length }
      streams := s.streams.filter
        (fun r => !((s.lgr.holdings.map (fun h => h.streams.map HeldStream.id)).flatten).contains r.id)
      stg := { s.stg with
        edits := s.stg.edits.filter (fun e => !((s.lgr.holdings.map (fun h => h.streams.map HeldStream.id)).flatten).contains e.stream) }
      tpt := (s.lgr.holdings.foldl State.tellClosed s).tpt
      rst := (s.lgr.holdings.foldl State.tellClosed s).rst
      rpu := (s.offer .reclaimClosed (reclaimClosedBody 0 s.lgr.holdings)).rpu } := by
  obtain ⟨-, -, -, -, -, -, -, hepoch, -⟩ := s.expireHoldings_frame s.lgr.holdings
  have hall := expireHoldings_eq s.lgr.holdings rfl hn hkeys hheld
  have hoffer : ∀ (u : State) (b : List Byte), u.rpu = s.rpu → u.csq = s.csq → u.cfg = s.cfg →
      u.rst.epoch = s.rst.epoch →
      State.offer { u with rcu := { u.rcu with isOpen := false, remaining := 0 } } .reclaimClosed b =
        { u with
          rcu := { u.rcu with isOpen := false, remaining := 0 }
          rpu := (s.offer .reclaimClosed b).rpu } := by
    intro u b h1 h2 h3 h4
    unfold State.offer
    simp only [h1, h2, h4]
  unfold State.expireWindow
  simp only
  rw [hoffer _ _ (by rw [hall]) (by rw [hall]) (by rw [hall]) hepoch, hall]

/-- The window's close as the statement spells it out (R156). -/
theorem State.expireWindow_closed {s : State} (hpos : s.positioned) (hkeyed : s.keyed) (hheld : s.heldInPlace) {n : Nat} :
    let ids := (s.lgr.holdings.map (fun h => h.streams.map HeldStream.id)).flatten
    let u := State.expireWindow { s with rcu := { s.rcu with remaining := n } }
    u.rcu = { s.rcu with isOpen := false, remaining := 0 } ∧ u.lgr.holdings = [] ∧
      u.lgr.freeUnits = s.lgr.freeUnits + (s.lgr.holdings.map Holding.units).sum ∧
      u.lgr.freeChannels = s.lgr.holdings.foldl (fun c h => c ||| h.channels) s.lgr.freeChannels ∧
      u.lgr.claims = s.lgr.claims ∧ u.lgr.host = s.lgr.host ∧
      u.lgr.revision = s.lgr.revision + BitVec.ofNat 8 s.lgr.holdings.length ∧
      u.streams = s.streams.filter (fun r => !ids.contains r.id) ∧
      u.rpu = (s.offer .reclaimClosed (reclaimClosedBody 0 s.lgr.holdings)).rpu ∧
      (u.tpt = (s.lgr.holdings.foldl State.tellClosed s).tpt ∧
        u.rst = (s.lgr.holdings.foldl State.tellClosed s).rst) ∧
      ((∀ h ∈ s.lgr.holdings, ∀ e ∈ s.rst.stations, e.tag ≠ h.tag) → u.tpt = s.tpt ∧ u.rst = s.rst) ∧
      u.stg = { s.stg with edits := s.stg.edits.filter (fun e => !ids.contains e.stream) } ∧
      u.csq = s.csq ∧ u.cfg = s.cfg ∧ u.svw = s.svw ∧ u.hlk = s.hlk ∧ u.pending = s.pending := by
  intro ids u
  obtain ⟨-, hkeys, -⟩ := hkeyed
  obtain ⟨w, hw⟩ : ∃ w, w = { s with rcu := { s.rcu with remaining := n } } := ⟨_, rfl⟩
  have hclose : u = _ := State.expireWindow_eq (s := { s with rcu := { s.rcu with remaining := n } })
    hpos.nodup hkeys hheld
  obtain ⟨hr, ht⟩ := tellClosed_congr s.lgr.holdings
    (s := { s with rcu := { s.rcu with remaining := n } }) (t := s) rfl rfl
  simp only [hr, ht] at hclose
  clear_value u
  subst hclose
  exact ⟨rfl, rfl, rfl, rfl, rfl, rfl, rfl, rfl, rfl, ⟨rfl, rfl⟩,
    fun h => by rw [tellClosed_of_absent s.lgr.holdings s h]; exact ⟨rfl, rfl⟩, rfl, rfl, rfl, rfl, rfl, rfl⟩

/-- RECLAIM_CLOSED's body with the number of the streams' ids (R156). -/
theorem reclaimClosedBody_eq (cause : Byte) (l : List Holding) : reclaimClosedBody cause l =
    [cause, byteOf l.length] ++ be16 (l.map Holding.units).sum
      ++ [byteOf (l.map (fun h => channelCount h.channels)).sum,
        byteOf ((l.map (fun h => h.streams.map HeldStream.id)).flatten).length]
      ++ byteOf l.length :: (l.map (fun h => tagBytes h.tag)).flatten := by
  have hlen : (l.map (fun h => h.streams.length)).sum = ((l.map (fun h => h.streams.map HeldStream.id)).flatten).length := by
    rw [List.length_flatten, List.map_map]
    congr 2
    funext h
    simp
  unfold reclaimClosedBody countedList
  rw [hlen]

/-- Settles O48: the countdown by its count, and `State.expireWindow_closed`. -/
theorem reclaimWindowCloses : Obligations.ReclaimWindowCloses := by
  intro s hpos hkeyed hheld closed
  have hclosed : ∀ n, closed s (State.expireWindow { s with rcu := { s.rcu with remaining := n } }) := by
    intro n
    have h := State.expireWindow_closed (n := n) hpos hkeyed hheld
    rw [reclaimClosedBody_eq] at h
    exact h
  refine ⟨fun hopen => ?_, fun hopen h1 h0 => ?_, fun hopen h1 => ?_, ?_⟩
  · unfold State.countDown
    rw [hopen]
    rfl
  · have hne : s.rcu.remaining - 1 ≠ 0 := by omega
    unfold State.countDown
    rw [if_pos hopen]
    exact if_neg hne
  · have hcount : s.countDown = State.expireWindow { s with rcu := { s.rcu with remaining := 0 } } := by
      unfold State.countDown
      rw [if_pos hopen, h1]
      rfl
    rw [hcount]
    exact hclosed 0
  · by_cases hexpired : s.rcu.isOpen = true ∧ s.rcu.remaining = 0
    · rw [if_pos hexpired]
      refine ⟨s.expireWindow, ?_, ?_⟩
      · show outcome true s.windowExpiry = _
        unfold State.windowExpiry
        rw [if_pos hexpired]
        rfl
      · exact hclosed s.rcu.remaining
    · rw [if_neg hexpired]
      show outcome true s.windowExpiry = _
      unfold State.windowExpiry
      rw [if_neg hexpired]
      rfl

end Sys2Proof.Machine
end

section
/-! SUPPORT. The discard of edits (5.5): WITHDRAW, and the edits that go with a departure (R74, R106, R110). -/

namespace Sys2Proof.Machine

/-! ### Accounts -/

theorem Ledger.account_update_of_ne (l : Ledger) {p q : Party} (h : q ≠ p) (f : Account → Account) :
    (l.update p f).account q = l.account q := by
  unfold Ledger.account
  rw [l.account?_update_of_ne h]

/-- What an account's change keeps of the empty account it keeps of every account. -/
theorem Ledger.account_update_kept {α : Type} (l : Ledger) (p q : Party) (f : Account → Account) (g : Account → α)
    (h : ∀ a, g (f a) = g a) : g ((l.update p f).account q) = g (l.account q) := by
  by_cases hq : q = p
  · subst hq
    unfold Ledger.account
    rw [l.account?_update]
    cases l.account? q with
    | none => rfl
    | some a => exact h a
  · rw [l.account_update_of_ne hq]

/-- The other blocks of the ledger stay where charges and bindings of some parties change (3.9). -/
structure Ledger.Recharged (P : Party → Prop) (l l' : Ledger) : Prop where
  freeUnits : l'.freeUnits = l.freeUnits
  freeChannels : l'.freeChannels = l.freeChannels
  holdings : l'.holdings = l.holdings
  revision : l'.revision = l.revision
  tags : l'.claims.map StationClaim.tag = l.claims.map StationClaim.tag
  claimed : ∀ p, (l'.account p).claimed = (l.account p).claimed
  held : ∀ p, (l'.account p).held = (l.account p).held
  others : ∀ p, ¬ P p → l'.account p = l.account p

theorem Ledger.Recharged.rfl {P : Party → Prop} {l : Ledger} : l.Recharged P l :=
  ⟨Eq.refl _, Eq.refl _, Eq.refl _, Eq.refl _, Eq.refl _, fun _ => Eq.refl _, fun _ => Eq.refl _, fun _ _ => Eq.refl _⟩

theorem Ledger.Recharged.trans {P : Party → Prop} {l l' l'' : Ledger} (h : l.Recharged P l') (h' : l'.Recharged P l'') :
    l.Recharged P l'' where
  freeUnits := h'.freeUnits.trans h.freeUnits
  freeChannels := h'.freeChannels.trans h.freeChannels
  holdings := h'.holdings.trans h.holdings
  revision := h'.revision.trans h.revision
  tags := h'.tags.trans h.tags
  claimed p := (h'.claimed p).trans (h.claimed p)
  held p := (h'.held p).trans (h.held p)
  others p hp := (h'.others p hp).trans (h.others p hp)

/-- A change of one party's charge and bindings is one. -/
theorem Ledger.recharged_update {P : Party → Prop} (l : Ledger) {p : Party} (hp : P p) {f : Account → Account}
    (hf : ∀ a, (f a).claimed = a.claimed ∧ (f a).held = a.held) : l.Recharged P (l.update p f) where
  freeUnits := by cases p <;> rfl
  freeChannels := by cases p <;> rfl
  holdings := by cases p <;> rfl
  revision := by cases p <;> rfl
  tags := by
    cases p with
    | host => rfl
    | station t =>
      exact updateFirst_map StationClaim.tag (fun c => c.tag == t) (fun c => { c with account := f c.account })
        (fun _ _ => Eq.refl _) l.claims
  claimed q := l.account_update_kept p q f Account.claimed (fun a => (hf a).1)
  held q := l.account_update_kept p q f Account.held (fun a => (hf a).2)
  others q hq := l.account_update_of_ne (fun h => hq (by rw [h]; exact hp)) f

/-! ### One edit (R106) -/

/-- One of these edits is an ADMIT of the record. -/
def admits (l : List Edit) (r : StreamRecord) : Bool := l.any (fun e => e.stream == r.id && e.op.kind == .admitStream)

/-- The record without the pending units of these edits. -/
def StreamRecord.unsized (r : StreamRecord) (l : List Edit) : StreamRecord :=
  if l.any (fun e => e.stream == r.id && e.op.kind == .resize) then { r with pendingResize := none } else r

/-- The ledger without what the acceptance of an edit for this record laid (R106). -/
def Ledger.unlaid (l : Ledger) (r : StreamRecord) : EditOp → Ledger
  | .admitStream _ => l.update r.owner (fun a => { a with
      committed := a.committed - r.charge, bound := a.bound.filter (fun b => b.1 != r.channel) })
  | .resize units .up => l.update r.owner (fun a => { a with committed := a.committed - (units - r.units) })
  | _ => l

theorem Ledger.recharged_unlaid {P : Party → Prop} (l : Ledger) {r : StreamRecord} (hp : P r.owner) (op : EditOp) :
    l.Recharged P (l.unlaid r op) := by
  unfold Ledger.unlaid
  split
  · exact l.recharged_update hp (fun _ => ⟨rfl, rfl⟩)
  · exact l.recharged_update hp (fun _ => ⟨rfl, rfl⟩)
  · exact .rfl

/-- With a record each, an edit taken out of the list takes its stream's other edits with it: there are none. -/
theorem edits_apart {l : List Edit} (hn : (l.map Edit.number).Nodup) (hs : (l.map Edit.stream).Nodup) {e : Edit}
    (he : e ∈ l) : ∀ x ∈ l, x.stream = e.stream ↔ x.number = e.number :=
  fun _ hx => ⟨fun h => congrArg _ (List.inj_on_of_nodup_map hs hx he h), fun h => congrArg _ (List.inj_on_of_nodup_map hn hx he h)⟩

/-- What the discard of one edit leaves of the records: no record of an ADMIT, no pending units of a RESIZE (R106). -/
theorem undone_streams (l : List StreamRecord) (e : Edit) :
    (l.filter (fun x => !admits [e] x)).map (fun x => x.unsized [e]) = match e.op with
      | .admitStream _ => l.filter (fun x => x.id != e.stream)
      | .resize _ _ => l.map (fun x => if x.id = e.stream then { x with pendingResize := none } else x)
      | .retire | .suspend | .resume => l := by
  have hunsized (k : Kind) (hk : e.op.kind = k) (hne : k ≠ .resize) : (fun x : StreamRecord => x.unsized [e]) = id := by
    funext x
    simp [StreamRecord.unsized, hk, hne]
  have hkept (k : Kind) (hk : e.op.kind = k) (hne : k ≠ .admitStream) : l.filter (fun x => !admits [e] x) = l :=
    List.filter_eq_self.2 (fun x _ => by simp [admits, hk, hne])
  cases hop : e.op with
  | admitStream a =>
    have hkind : e.op.kind = .admitStream := by rw [hop]; rfl
    rw [hunsized _ hkind nofun, List.map_id]
    refine List.filter_congr (fun x _ => ?_)
    simp [admits, hkind, bne, Bool.beq_eq_decide_eq, eq_comm]
  | resize units direction =>
    have hkind : e.op.kind = .resize := by rw [hop]; rfl
    rw [hkept _ hkind nofun]
    refine List.map_congr_left (fun x _ => ?_)
    simp [StreamRecord.unsized, hkind, eq_comm (a := e.stream)]
  | retire =>
    have hkind : e.op.kind = .retire := by rw [hop]; rfl
    rw [hunsized _ hkind nofun, List.map_id, hkept _ hkind nofun]
  | suspend =>
    have hkind : e.op.kind = .suspend := by rw [hop]; rfl
    rw [hunsized _ hkind nofun, List.map_id, hkept _ hkind nofun]
  | resume =>
    have hkind : e.op.kind = .resume := by rw [hop]; rfl
    rw [hunsized _ hkind nofun, List.map_id, hkept _ hkind nofun]

/-- What the discard of an edit leaves (R106). -/
theorem State.dropEdit_eq {s : State} (hid : (s.streams.map StreamRecord.id).Nodup)
    (hn : (s.stg.edits.map Edit.number).Nodup) (hs : (s.stg.edits.map Edit.stream).Nodup) {e : Edit}
    (he : e ∈ s.stg.edits) {r : StreamRecord} (hr : r ∈ s.streams) (hre : r.id = e.stream)
    (hstaged : e.op.kind = .admitStream → r.isHeld = false) :
    s.dropEdit e = { s with
      stg := { s.stg with edits := s.stg.edits.filter (fun x => x.number != e.number) }
      streams := (s.streams.filter (fun x => !admits [e] x)).map (fun x => x.unsized [e])
      lgr := s.lgr.unlaid r e.op } := by
  have hfound : State.stream? { s with stg := { s.stg with
      edits := s.stg.edits.filter (fun x => x.number != e.number) } } e.stream = some r :=
    hre ▸ State.stream?_of_mem hid hr
  unfold State.dropEdit State.undoEdit
  rw [hfound, undone_streams]
  cases hop : e.op with
  | admitStream a =>
    have hone := State.removeRecord_eq (s := { s with stg := { s.stg with
      edits := s.stg.edits.filter (fun x => x.number != e.number) } }) hid hr
    have hedits : (s.stg.edits.filter (fun x => x.number != e.number)).filter (fun x => x.stream != r.id) =
        s.stg.edits.filter (fun x => x.number != e.number) := by
      refine List.filter_eq_self.2 (fun x hx => ?_)
      obtain ⟨hx, hne⟩ := List.mem_filter.1 hx
      have := (edits_apart hn hs he x hx).not.2 (by simpa using hne)
      simpa [hre] using this
    simp only
    rw [hone, hedits, hre]
    refine congrArg (fun l => { s with
      stg := { s.stg with edits := s.stg.edits.filter (fun x => x.number != e.number) }
      streams := s.streams.filter (fun x => x.id != e.stream)
      lgr := l }) ?_
    show s.lgr.freeStream r = _
    rw [Ledger.freeStream_eq, hstaged (by rw [hop]; rfl)]
    rfl
  | resize units direction =>
    have hput := State.putStream_eq (s := { s with stg := { s.stg with
      edits := s.stg.edits.filter (fun x => x.number != e.number) } }) hid { r with pendingResize := none }
    have hstreams : s.streams.map (fun x => if x.id = r.id then { r with pendingResize := none } else x) =
        s.streams.map (fun x => if x.id = e.stream then { x with pendingResize := none } else x) := by
      refine List.map_congr_left (fun x hx => ?_)
      rw [← hre]
      by_cases hxr : x.id = r.id
      · rw [List.inj_on_of_nodup_map hid hx hr hxr]
      · rw [if_neg hxr, if_neg hxr]
    simp only
    rw [hput, hstreams]
    cases direction <;> rfl
  | retire => rfl
  | suspend => rfl
  | resume => rfl

/-! ### Several edits (R110) -/

/-- What the discard of several edits leaves, each with a record of its own (R110). -/
theorem State.dropEdits_eq {P : Party → Prop} (L : List Edit) : ∀ {s : State},
    (s.streams.map StreamRecord.id).Nodup → (s.stg.edits.map Edit.number).Nodup →
    (s.stg.edits.map Edit.stream).Nodup → (∀ e ∈ L, e ∈ s.stg.edits) → (L.map Edit.number).Nodup →
    (∀ e ∈ L, ∃ r ∈ s.streams, r.id = e.stream ∧ P r.owner ∧ (e.op.kind = .admitStream → r.isHeld = false)) →
    s.dropEdits L = { s with
      stg := { s.stg with edits := s.stg.edits.filter (fun x => !L.any (fun e => e.number == x.number)) }
      streams := (s.streams.filter (fun x => !admits L x)).map (fun x => x.unsized L)
      lgr := (s.dropEdits L).lgr } ∧ s.lgr.Recharged P (s.dropEdits L).lgr := by
  induction L with
  | nil =>
    intro s _ _ _ _ _ _
    refine ⟨?_, .rfl⟩
    have : (fun x : StreamRecord => x.unsized []) = id := rfl
    rw [this, List.map_id]
    simp [State.dropEdits, admits]
  | cons e L ih =>
    intro s hid hn hs hmem hL hrec
    obtain ⟨hnew, hL⟩ := List.nodup_cons.1 hL
    have he := hmem e (List.mem_cons_self ..)
    obtain ⟨r, hr, hre, hP, hstaged⟩ := hrec e (List.mem_cons_self ..)
    have hone := State.dropEdit_eq hid hn hs he hr hre hstaged
    obtain ⟨v, hv⟩ : ∃ v, v = s.dropEdit e := ⟨_, rfl⟩
    rw [← hv] at hone
    have hedits : v.stg.edits = s.stg.edits.filter (fun x => x.number != e.number) := by rw [hone]
    have hstreams : v.streams = (s.streams.filter (fun x => !admits [e] x)).map (fun x => x.unsized [e]) := by rw [hone]
    have hkeep (x : StreamRecord) (l : List Edit) : (x.unsized l).id = x.id := by
      unfold StreamRecord.unsized
      split <;> rfl
    have hvid : (v.streams.map StreamRecord.id).Nodup := by
      rw [hstreams, List.map_map, show StreamRecord.id ∘ (fun x : StreamRecord => x.unsized [e]) = StreamRecord.id from
        funext (fun x => hkeep x [e])]
      exact hid.sublist (List.filter_sublist.map _)
    have hsub : v.stg.edits.Sublist s.stg.edits := hedits ▸ List.filter_sublist
    have hmem' : ∀ x ∈ L, x ∈ v.stg.edits := by
      intro x hx
      rw [hedits]
      refine List.mem_filter.2 ⟨hmem x (List.mem_cons_of_mem _ hx), ?_⟩
      have : x.number ≠ e.number := fun h => hnew (h ▸ List.mem_map_of_mem hx)
      simpa using this
    have hrec' : ∀ x ∈ L, ∃ q ∈ v.streams, q.id = x.stream ∧ P q.owner ∧ (x.op.kind = .admitStream → q.isHeld = false) := by
      intro x hx
      obtain ⟨q, hq, hqx, hqP, hqs⟩ := hrec x (List.mem_cons_of_mem _ hx)
      have hapart : ¬ e.stream = q.id := by
        intro h
        have : x.number = e.number := (edits_apart hn hs he x (hmem x (List.mem_cons_of_mem _ hx))).1 (hqx.symm.trans h.symm)
        exact hnew (this ▸ List.mem_map_of_mem hx)
      refine ⟨q, ?_, hqx, hqP, hqs⟩
      rw [hstreams]
      refine List.mem_map.2 ⟨q, List.mem_filter.2 ⟨hq, by simp [admits, hapart]⟩, ?_⟩
      simp [StreamRecord.unsized, hapart]
    obtain ⟨hrest, hledger⟩ := ih hvid (hn.sublist (hsub.map _)) (hs.sublist (hsub.map _)) hmem' hL hrec'
    show State.dropEdits (s.dropEdit e) L = _ ∧ s.lgr.Recharged P (State.dropEdits (s.dropEdit e) L).lgr
    rw [← hv]
    have hfirst : s.lgr.Recharged P v.lgr := by
      rw [hone]
      exact s.lgr.recharged_unlaid hP e.op
    refine ⟨?_, hfirst.trans hledger⟩
    have htail : (((s.streams.filter (fun x => !admits [e] x)).map (fun x => x.unsized [e])).filter
          (fun x => !admits L x)).map (fun x => x.unsized L) =
        (s.streams.filter (fun x => !admits (e :: L) x)).map (fun x => x.unsized (e :: L)) := by
      rw [List.filter_map, List.map_map, List.filter_filter]
      have hadmits (x : StreamRecord) : admits L (x.unsized [e]) = admits L x := by simp only [admits, hkeep]
      refine congr (congrArg List.map (funext fun x => ?_)) (List.filter_congr (fun x _ => ?_))
      · show (x.unsized [e]).unsized L = _
        have hsame : ∀ y : StreamRecord, y.id = x.id → y.unsized L =
            if L.any (fun e => e.stream == x.id && e.op.kind == .resize) then { y with pendingResize := none } else y :=
          fun y hy => by unfold StreamRecord.unsized; rw [hy]
        rw [hsame _ (hkeep x _)]
        unfold StreamRecord.unsized
        rw [List.any_cons, List.any_cons, List.any_nil, Bool.or_false]
        generalize (e.stream == x.id && e.op.kind == .resize) = a
        generalize L.any (fun e => e.stream == x.id && e.op.kind == .resize) = b
        cases a <;> cases b <;> rfl
      · show (!admits L (x.unsized [e]) && !admits [e] x) = !admits (e :: L) x
        rw [hadmits, Bool.and_comm]
        unfold admits
        rw [List.any_cons, List.any_cons, List.any_nil, Bool.or_false, Bool.not_or]
    have hleft : (s.stg.edits.filter (fun x => x.number != e.number)).filter
          (fun x => !L.any (fun e => e.number == x.number)) =
        s.stg.edits.filter (fun x => !(e :: L).any (fun e => e.number == x.number)) := by
      rw [List.filter_filter]
      refine List.filter_congr (fun x _ => ?_)
      rw [List.any_cons, Bool.not_or, Bool.and_comm, bne_comm]
      rfl
    have hlgr : (s.dropEdits (e :: L)).lgr = (v.dropEdits L).lgr := by rw [hv]; rfl
    rw [hlgr]
    obtain ⟨l, hl⟩ : ∃ l, l = (v.dropEdits L).lgr := ⟨_, rfl⟩
    rw [← hl] at hrest ⊢
    rw [hrest, hone]
    simp only [htail, hleft]

end Sys2Proof.Machine
end

section
/-! SUPPORT. WITHDRAW (R106, R107); the beginning of a departure and LEAVE (R74, R110, R144). -/

namespace Sys2Proof.Machine

/-! ### WITHDRAW -/

/-- The edit number that two bytes carry (R107). -/
def pairNumber (hi lo : Byte) : BitVec 16 := hi ++ lo

/-- A PRESENT station is told that the host has withdrawn its edit (R107). -/
def State.tellWithdrawn (s : State) (p submitter : Party) (body : List Byte) : State :=
  match p, submitter with
  | .host, .station t => s.noticeIfPresent t .editOutcome body
  | _, _ => s

theorem State.tellWithdrawn_of_station (s : State) {p : Party} (hp : p ≠ .host) (submitter : Party) (body : List Byte) :
    s.tellWithdrawn p submitter body = s := by
  cases p with
  | host => exact absurd rfl hp
  | station t => rfl

theorem State.tellWithdrawn_amid (s : State) (h : HostLink) (c : CyclePhase) (x : Option TrunkSending) (b : Bool)
    (p submitter : Party) (body : List Byte) :
    (s.amid h c x b).tellWithdrawn p submitter body = (s.tellWithdrawn p submitter body).amid h c x b := by
  cases p <;> cases submitter <;> simp only [State.tellWithdrawn, State.noticeIfPresent_amid]

theorem State.tellWithdrawn_beside {s u : State} (hu : s.Beside u) (p submitter : Party) (body : List Byte) :
    s.Beside (u.tellWithdrawn p submitter body) := by
  have htell : u.Beside (u.tellWithdrawn p submitter body) := by
    refine .of_amid (u.tellWithdrawn_amid u.hlk u.csq.phase u.tpt.sending u.tpt.edge p submitter body) ?_
    cases p <;> cases submitter <;> simp [State.tellWithdrawn]
  exact ⟨htell.link.trans hu.link, htell.phase.trans hu.phase, htell.sending.trans hu.sending,
    htell.edge.trans hu.edge, htell.epoch.trans hu.epoch⟩

/-- The refused forms of WITHDRAW, in order, and the edit that is withdrawn (R107). -/
theorem takeWithdraw_eq (p : Party) (hi lo : Byte) (s : State) : takeWithdraw p [hi, lo] s =
    if (s.rst.rightsOf p).stream = false then (s, ⟨.notPermitted, []⟩)
    else if word16 hi lo = 0 then (s, ⟨.badValue, [1]⟩)
    else match s.stg.edits.find? (fun e => e.number == pairNumber hi lo) with
      | none => (s, ⟨.noSuchEdit, []⟩)
      | some e =>
        if p ≠ .host ∧ e.submitter ≠ p then (s, ⟨.notPermitted, []⟩)
        else
          ((s.dropEdit e).tellWithdrawn p e.submitter (editOutcomeBody e .discarded),
            ⟨.done, [hi, lo, e.op.kind.code, byteOf e.stream, byteOf (s.dropEdit e).stg.edits.length]⟩) := by
  obtain ⟨hpair, hword⟩ := be16_append hi lo
  have hbytes : be16 (word16 hi lo) = [hi, lo] := by rw [hword, hpair]
  have hfind : s.stg.edits.find? (fun e => e.number.toNat == word16 hi lo) =
      s.stg.edits.find? (fun e => e.number == pairNumber hi lo) := by
    refine congrArg (fun q => s.stg.edits.find? q) (funext fun e => ?_)
    rw [hword, Bool.eq_iff_iff, beq_iff_eq, beq_iff_eq]
    exact ⟨fun h => BitVec.eq_of_toNat_eq h, fun h => by rw [h]; rfl⟩
  show (if (!(s.rst.rightsOf p).stream) = true then _ else _) = _
  simp only [Bool.not_eq_true', hbytes]
  rw [hfind]
  cases s.stg.edits.find? (fun e => e.number == pairNumber hi lo) with
  | none => rfl
  | some e =>
    simp only
    cases p <;> cases e.submitter <;> simp [State.tellWithdrawn]

/-- An edit taken out of a list with numbers of their own leaves it one shorter. -/
theorem filter_number_length {l : List Edit} (hn : (l.map Edit.number).Nodup) {e : Edit} (he : e ∈ l) :
    (l.filter (fun x => x.number != e.number)).length = l.length - 1 := by
  rw [← eraseP_eq_filter Edit.number _ _ hn]
  exact List.length_eraseP_of_mem he (by simp)

/-- Settles O26: the cases of `takeWithdraw_eq`, and the edit undone as `State.dropEdit_eq` has it. -/
theorem withdrawTaken : Obligations.WithdrawTaken := by
  intro s sender p hi lo h hpos hkeyed hedits hstaged body leads
  obtain ⟨-, hstream, -, hnext, -⟩ := hedits
  have hnumber := (List.nodup_cons.1 hnext).2
  have hrequest : ∀ (u : State) (r : Reply), s.Beside u → (p ≠ .host → u.rst = s.rst) →
      (∀ h q x b, takeWithdraw p [hi, lo] (s.amid h q x b) = (u.amid h q x b, r)) → leads u r :=
    fun u r hu hr ho => exec_request .withdraw body h rfl (Nat.le_of_ble_eq_true rfl) hu hr
      (fun h q x b => congrArg some (ho h q x b))
  have hfind (hne : ∀ e ∈ s.stg.edits, e.number ≠ pairNumber hi lo) :
      s.stg.edits.find? (fun e => e.number == pairNumber hi lo) = none :=
    List.find?_eq_none.2 (fun e he => by simpa using hne e he)
  by_cases h1 : (s.rst.rightsOf p).stream = false
  · rw [if_pos h1]
    refine hrequest s _ .rfl (fun _ => rfl) (fun h q x b => ?_)
    rw [takeWithdraw_eq, State.amid_rst, if_pos h1]
  rw [if_neg h1]
  by_cases h2 : word16 hi lo = 0
  · rw [if_pos h2]
    refine hrequest s _ .rfl (fun _ => rfl) (fun h q x b => ?_)
    rw [takeWithdraw_eq, State.amid_rst, if_neg h1, if_pos h2]
  rw [if_neg h2]
  by_cases h3 : ∀ e ∈ s.stg.edits, e.number ≠ hi ++ lo
  · rw [if_pos h3]
    refine hrequest s _ .rfl (fun _ => rfl) (fun h q x b => ?_)
    rw [takeWithdraw_eq, State.amid_rst, if_neg h1, if_neg h2, State.amid_stg, hfind h3]
  rw [if_neg h3]
  intro e he hnum r hr hre
  have hfound : s.stg.edits.find? (fun e => e.number == pairNumber hi lo) = some e := by
    have := find?_of_mem Edit.number e _ hnumber he
    rw [hnum] at this
    exact this
  by_cases h4 : p ≠ .host ∧ e.submitter ≠ p
  · rw [if_pos h4]
    refine hrequest s _ .rfl (fun _ => rfl) (fun h q x b => ?_)
    rw [takeWithdraw_eq, State.amid_rst, if_neg h1, if_neg h2, State.amid_stg, hfound]
    simp only [if_pos h4]
  rw [if_neg h4]
  intro left cleared undone
  have hheld : e.op.kind = .admitStream → r.isHeld = false := by
    intro hop
    have := (hstaged r hr).2 ⟨e, he, hre.symm, hop⟩
    unfold StreamRecord.isHeld
    rw [this]
  have hdrop := State.dropEdit_eq hpos.nodup hnumber hstream he hr hre hheld
  have hundone : s.dropEdit e = undone := by
    rw [hdrop, undone_streams]
    simp only [undone, left, cleared, hre]
    cases hop : e.op with
    | resize units direction => cases direction <;> rfl
    | _ => rfl
  have hedits : undone.stg.edits.length = s.stg.edits.length - 1 := by
    rw [← hundone, hdrop]
    exact filter_number_length hnumber he
  have hbeside : s.Beside (s.dropEdit e) :=
    .of_amid (s.dropEdit_amid _ _ _ _ e) (congrArg Roster.epoch (State.dropEdits_roster s [e]))
  have hbody : editOutcomeBody e .discarded = [hi, lo, byteOf e.stream, 3] := by
    unfold editOutcomeBody
    rw [hnum, (be16_append hi lo).1]
    rfl
  have hedits' : (s.dropEdit e).stg.edits.length = s.stg.edits.length - 1 := by rw [hundone, hedits]
  clear_value undone
  subst hundone
  have htake : ∀ h q x b, takeWithdraw p [hi, lo] (s.amid h q x b) =
      (((s.dropEdit e).tellWithdrawn p e.submitter [hi, lo, byteOf e.stream, 3]).amid h q x b,
        ⟨.done, [hi, lo, e.op.kind.code, byteOf e.stream, byteOf (s.stg.edits.length - 1)]⟩) := by
    intro h q x b
    rw [takeWithdraw_eq, State.amid_rst, if_neg h1, if_neg h2, State.amid_stg, hfound]
    simp only [if_neg h4, hbody, State.dropEdit_amid, State.amid_stg, hedits', State.tellWithdrawn_amid]
  have hleads : leads ((s.dropEdit e).tellWithdrawn p e.submitter [hi, lo, byteOf e.stream, 3]) _ :=
    hrequest _ _ (State.tellWithdrawn_beside hbeside _ _ _) (fun hp => ?_) htake
  · cases p <;> cases hsub : e.submitter <;> rw [hsub] at hleads <;> exact hleads
  · rw [State.tellWithdrawn_of_station _ hp]
    exact State.dropEdits_roster s [e]

/-! ### The beginning of a departure (R74, R110, R144) -/

/-- The edits that go with a tag's departure: those for its streams (R110). -/
def State.goneWith (s : State) (t : Tag) : List Edit :=
  s.stg.edits.filter (fun x => s.streams.any (fun r => r.id == x.stream && r.owner == .station t))

theorem State.ownedEdits_eq {s : State} (hid : (s.streams.map StreamRecord.id).Nodup) (t : Tag) :
    s.stg.edits.filter (fun x => s.editOwnedBy x (.station t)) = s.goneWith t := by
  refine List.filter_congr (fun x _ => ?_)
  rw [← State.stream?_any hid (fun r => r.owner == .station t)]
  unfold State.editOwnedBy State.editOwner
  cases s.stream? x.stream with
  | none => rfl
  | some r => exact Bool.eq_iff_iff.2 (by simp)

/-- What the departure of its owner, and the discard of the edits with it, leave of a record (R74, R110). -/
def StreamRecord.departed (r : StreamRecord) (t : Tag) (gone : List Edit) : StreamRecord :=
  if r.owner == .station t then
    let r1 := if gone.any (fun x => x.stream == r.id && x.op.kind == .resize) then { r with pendingResize := none } else r
    if r.inService then { r1 with state := .retiring .departure, restoreMark := false } else r1
  else r

/-- An edit that goes with a tag's departure is for a stream of the tag. -/
theorem State.mem_goneWith {s : State} (hid : (s.streams.map StreamRecord.id).Nodup) {t : Tag} {x : Edit}
    (hx : x ∈ s.goneWith t) {r : StreamRecord} (hr : r ∈ s.streams) (hxr : x.stream = r.id) : r.owner = .station t := by
  obtain ⟨-, hany⟩ := List.mem_filter.1 hx
  rw [hxr, any_ids_of_mem hid (fun r => r.owner == .station t) hr] at hany
  simpa using hany

/-- The records that go with a departure are the tag's STAGED ones; what stays is changed as one record at a time. -/
theorem State.departed_streams {s : State} (hid : (s.streams.map StreamRecord.id).Nodup) (hstaged : s.stagedInPlace)
    (t : Tag) : ((s.streams.filter (fun x => !admits (s.goneWith t) x)).map
        (fun x => x.unsized (s.goneWith t))).map (fun r => r.depart t) =
      (s.streams.filter (fun r => !(r.owner == .station t && r.state == .staged))).map
        (fun r => r.departed t (s.goneWith t)) := by
  have hfilter : s.streams.filter (fun x => !admits (s.goneWith t) x) =
      s.streams.filter (fun r => !(r.owner == .station t && r.state == .staged)) := by
    refine List.filter_congr (fun r hr => congrArg _ (Bool.eq_iff_iff.2 ?_))
    simp only [admits, List.any_eq_true, Bool.and_eq_true, beq_iff_eq]
    constructor
    · rintro ⟨x, hx, hxr, hop⟩
      exact ⟨State.mem_goneWith hid hx hr hxr, (hstaged r hr).2 ⟨x, (List.mem_filter.1 hx).1, hxr, hop⟩⟩
    · rintro ⟨howner, hstate⟩
      obtain ⟨x, hx, hxr, hop⟩ := (hstaged r hr).1 hstate
      refine ⟨x, List.mem_filter.2 ⟨hx, ?_⟩, hxr, hop⟩
      rw [hxr, any_ids_of_mem hid (fun r => r.owner == .station t) hr]
      simpa using howner
  rw [hfilter, List.map_map]
  refine List.map_congr_left (fun r hr => ?_)
  have hr : r ∈ s.streams := (List.mem_filter.1 hr).1
  show (r.unsized (s.goneWith t)).depart t = _
  unfold StreamRecord.unsized StreamRecord.departed StreamRecord.depart
  by_cases howner : r.owner = .station t
  · by_cases hresize : (s.goneWith t).any (fun e => e.stream == r.id && e.op.kind == .resize) = true
    · simp only [howner, hresize, beq_self_eq_true, if_true, StreamRecord.inService, true_and]
    · simp only [howner, hresize, beq_self_eq_true, if_true, true_and, Bool.false_eq_true, if_false]
  · have hresize : (s.goneWith t).any (fun e => e.stream == r.id && e.op.kind == .resize) = false := by
      refine Bool.eq_false_iff.2 (fun h => howner ?_)
      obtain ⟨x, hx, hxr⟩ := List.any_eq_true.1 h
      rw [Bool.and_eq_true, beq_iff_eq] at hxr
      exact State.mem_goneWith hid hx hr hxr.1
    simp only [howner, hresize, Bool.false_eq_true, if_false, false_and, beq_iff_eq]

/-- What the beginning of a departure leaves (R74, R110, R144). -/
theorem State.beginDeparture_eq {s : State} (hpos : s.positioned) (hkeyed : s.keyed) (hedits : s.editsInPlace)
    (hstaged : s.stagedInPlace) (e : Station) (cause : DepartCause) : ∃ l : Ledger,
    s.lgr.Recharged (fun p => p = .station e.tag) l ∧ s.beginDeparture e cause = { s with
      rst := { s.rst with
        stations := s.rst.stations.map (fun x =>
          if x.number = e.number then { x with state := .departing cause (s.departingStreams e.tag) } else x) }
      stg := { s.stg with
        edits := s.stg.edits.filter (fun x => !s.streams.any (fun r => r.id == x.stream && r.owner == .station e.tag)) }
      streams := (s.streams.filter (fun r => !(r.owner == .station e.tag && r.state == .staged))).map
        (fun r => r.departed e.tag (s.goneWith e.tag))
      lgr := l
      rpu := (if s.goneWith e.tag = [] then s.rpu else (s.offer .editsDiscarded ([1, 1] ++ tagBytes e.tag
        ++ byteOf (s.goneWith e.tag).length :: ((s.goneWith e.tag).map Edit.listed).flatten)).rpu) } := by
  have hid := hpos.nodup
  obtain ⟨-, -, -, hnums, -⟩ := hkeyed
  obtain ⟨-, hstream, hrecord, hnext, -⟩ := hedits
  have hnumber := (List.nodup_cons.1 hnext).2
  have hsub : (s.goneWith e.tag).Sublist s.stg.edits := List.filter_sublist
  obtain ⟨hdrop, hledger⟩ := State.dropEdits_eq (P := fun p => p = .station e.tag) (s.goneWith e.tag) hid hnumber hstream
    (fun x hx => hsub.subset hx) (hnumber.sublist (hsub.map _)) (fun x hx => by
      obtain ⟨r, hr⟩ := Option.isSome_iff_exists.1 (hrecord x (hsub.subset hx))
      obtain ⟨hr, hrx⟩ := State.stream?_some hr
      refine ⟨r, hr, hrx, State.mem_goneWith hid hx hr hrx.symm, fun hop => ?_⟩
      have hstate := (hstaged r hr).2 ⟨x, hsub.subset hx, hrx.symm, hop⟩
      unfold StreamRecord.isHeld
      rw [hstate])
  refine ⟨_, hledger, ?_⟩
  have hleft : s.stg.edits.filter (fun x => !(s.goneWith e.tag).any (fun y => y.number == x.number)) =
      s.stg.edits.filter (fun x => !s.streams.any (fun r => r.id == x.stream && r.owner == .station e.tag)) := by
    refine List.filter_congr (fun x hx => congrArg _ (Bool.eq_iff_iff.2 ?_))
    rw [List.any_eq_true]
    constructor
    · rintro ⟨y, hy, hyx⟩
      obtain rfl := List.inj_on_of_nodup_map hnumber (hsub.subset hy) hx (by simpa using hyx)
      exact (List.mem_filter.1 hy).2
    · exact fun h => ⟨x, List.mem_filter.2 ⟨hx, h⟩, by simp⟩
  obtain ⟨l, hl⟩ : ∃ l, l = (s.dropEdits (s.goneWith e.tag)).lgr := ⟨_, rfl⟩
  unfold State.beginDeparture
  simp only
  rw [State.ownedEdits_eq hid, State.dropEdits_withRoster, Roster.update_eq hnums, hdrop, ← hl]
  simp only [State.departed_streams hid hstaged, hleft]
  unfold State.reportDiscards
  by_cases hnone : s.goneWith e.tag = []
  · rw [if_pos (by rw [hnone]; rfl), if_pos hnone]
  · rw [if_neg (by simpa using hnone), if_neg hnone]
    have hentry : editsDiscardedBody (.departure e.tag) (s.goneWith e.tag) = [1, 1] ++ tagBytes e.tag
        ++ byteOf (s.goneWith e.tag).length :: ((s.goneWith e.tag).map Edit.listed).flatten := by
      unfold editsDiscardedBody countedList
      rw [show Edit.entry = Edit.listed from funext Edit.entry_eq]
      rfl
    rw [hentry]
    rfl

/-- Settles O43: the request executed whatever `remoteRequests` is, and `State.beginDeparture_eq`. -/
theorem leaveBeginsADeparture : Obligations.LeaveBeginsADeparture := by
  refine ⟨fun s number epoch seq e h => ?_, fun s e cause hpos hkeyed hedits hstaged he hpresent => ?_⟩
  · intro a count
    obtain ⟨-, -, -, -, -, -, -, hepoch, -⟩ := s.beginDeparture_frame e .leave
    have hframe := State.stationFrame_beside (kind := Kind.leave.code) (body := []) h
      (.of_amid (s.beginDeparture_amid s.hlk s.csq.phase s.tpt.sending s.tpt.edge e .leave) hepoch)
      (r := ⟨.done, byteOf count :: be16 a.claimed ++ setBytes a.held⟩) (by
        unfold State.executeStation
        rw [if_neg (fun h => h.2 rfl), State.enterPortion_eq]
        exact Prod.ext (State.beginDeparture_amid ..) rfl)
    show outcome (requestBodyFits []) (s.stationFrame number epoch seq Kind.leave.code []) = _
    rw [hframe]
    rfl
  · obtain ⟨l, hl, hbegin⟩ := State.beginDeparture_eq hpos hkeyed hedits hstaged e cause
    intro u theirs gone count
    have hu : u = _ := hbegin
    clear_value u
    subst hu
    exact ⟨rfl, rfl, rfl, fun p => ⟨hl.claimed p, hl.held p⟩, hl.others, hl.freeUnits, hl.freeChannels, hl.holdings,
      hl.tags, hl.revision, rfl, rfl, rfl, rfl, rfl, rfl, rfl, rfl⟩

end Sys2Proof.Machine
end

section
/-! SUPPORT. The acceptance of edits (5.2): ADMIT, RETIRE, RESIZE, SUSPEND and RESUME (R91 to R97). -/

namespace Sys2Proof.Machine

/-! ### Checks in order (R91) -/

theorem firstFailure_cons (c : Option Reply) (l : List (Option Reply)) : firstFailure (c :: l) = c.or (firstFailure l) := by
  cases c <;> rfl

theorem firstFailure_nil : firstFailure [] = none := rfl

theorem require_or (b : Bool) (r : Reply) (rest : Option Reply) :
    (require b r).or rest = if b = false then some r else rest := by cases b <;> rfl

/-! ### What acceptance leaves -/

/-- What follows a number depends on which numbers are in use, not on their order (R90). -/
theorem followsNumber_congr {l l' : List (BitVec 16)} (h : ∀ x, x ∈ l ↔ x ∈ l') {n next : BitVec 16}
    (hf : followsNumber l n next) : followsNumber l' n next := by
  obtain ⟨hzero, hnot, k, hk, hbefore⟩ := hf
  exact ⟨hzero, fun hin => hnot ((h _).2 hin), k, hk, fun j hj => (hbefore j hj).imp_right (h _).1⟩

/-- An edit that finds room takes the counter's number, and the counter goes on (R90, R96). -/
theorem State.acceptEdit_eq {s : State} (hroom : s.stg.edits.length < 16) (p : Party) (op : EditOp) (id : Nat) :
    ∃ next, followsNumber (s.stg.next :: s.stg.edits.map Edit.number) s.stg.next next ∧
      s.acceptEdit p op id = { s with
        stg := { s.stg with
          edits := s.stg.edits ++ [⟨s.stg.next, p, op, id, s.csq.lastCycle.getD 0⟩]
          next := next } } := by
  refine ⟨_, followsNumber_congr (l := (s.stg.edits ++ [(⟨s.stg.next, p, op, id, s.csq.cycleNumber⟩ : Edit)]).map Edit.number)
    (fun x => by simp [or_comm]) (nextNumber_follows (by simpa using hroom) s.stg.next), rfl⟩

/-- A change that leaves the account with something leaves it in its record (R37). -/
theorem Ledger.update_eq_withAccount {l : Ledger} (hn : (l.claims.map StationClaim.tag).Nodup) {p : Party}
    {f : Account → Account} (hold : ¬ (l.account p).isBare) (hnew : ¬ (f (l.account p)).isBare) :
    l.update p f = l.withAccount p (f (l.account p)) := by
  have hsome := Ledger.account?_isSome_of_ne (fun h => hold (h ▸ ⟨rfl, rfl⟩))
  rw [← Ledger.update_ensure hn hnew, Ledger.ensure_of_isSome hsome]

/-! ### RETIRE, SUSPEND, RESUME and RESIZE -/

/-- The checks of an edit of a stream, in order (R91 to R95). -/
theorem State.editFailure_eq (s : State) (kind : Kind) (p : Party) (id units : Nat) : s.editFailure kind p id units =
    if (s.rst.rightsOf p).stream = false then some ⟨.notPermitted, []⟩
    else if 40 ≤ id then some ⟨.badValue, [1]⟩
    else if kind = .resize ∧ (units < 2 ∨ 512 < units) then some ⟨.badValue, [2]⟩
    else if s.editPermitted p id = false then some ⟨.notPermitted, []⟩
    else (s.stateFailure kind id).or ((s.pendingFailure id).or
      (if 16 ≤ s.stg.edits.length then some ⟨.listFull, [flag s.stg.frozen]⟩ else none)) := by
  have hrange : (decide (id < Config.streamPositions) = false) = (40 ≤ id) :=
    propext (decide_eq_false_iff_not.trans Nat.not_lt)
  have hunits : ((kind != .resize || (decide (2 ≤ units) && decide (units ≤ 512))) = false) =
      (kind = .resize ∧ (units < 2 ∨ 512 < units)) := by
    by_cases hk : kind = .resize <;> simp [hk]
    omega
  have hroom : (decide (s.stg.edits.length < Config.editRoom) = false) = (16 ≤ s.stg.edits.length) :=
    propext (decide_eq_false_iff_not.trans Nat.not_lt)
  unfold State.editFailure
  simp only [firstFailure_cons, firstFailure_nil, require_or, hrange, hunits, hroom]

/-- An edit of a stream does not look at what a request's taking changes. -/
theorem State.submitEdit_amid (s : State) (h : HostLink) (q : CyclePhase) (x : Option TrunkSending) (b : Bool)
    (kind : Kind) (p : Party) (id units : Nat) : (s.amid h q x b).submitEdit kind p id units =
      ((s.submitEdit kind p id units).1.amid h q x b, (s.submitEdit kind p id units).2) := by
  have hfailure : (s.amid h q x b).editFailure kind p id units = s.editFailure kind p id units := rfl
  have hfound : (s.amid h q x b).stream? id = s.stream? id := rfl
  unfold State.submitEdit
  rw [hfailure, hfound, State.amid_lgr]
  cases s.editFailure kind p id units with
  | some r => rfl
  | none =>
    cases s.stream? id with
    | none => rfl
    | some r =>
      simp only
      cases s.lgr.chargeEdit r (editOpFor kind r units) <;> rfl

/-- An edit of a stream leaves the roster (R96). -/
theorem State.submitEdit_rst (s : State) (kind : Kind) (p : Party) (id units : Nat) :
    (s.submitEdit kind p id units).1.rst = s.rst := by
  unfold State.submitEdit
  cases s.editFailure kind p id units with
  | some r => rfl
  | none =>
    cases s.stream? id with
    | none => rfl
    | some r =>
      simp only
      cases s.lgr.chargeEdit r (editOpFor kind r units) <;> rfl

/-- The kinds of edits of a stream (R89). -/
def isEditKind (kind : Kind) : Prop := kind = .retire ∨ kind = .suspend ∨ kind = .resume ∨ kind = .resize

/-- A station may edit its own streams (R93). -/
theorem State.editPermitted_iff {s : State} (hid : (s.streams.map StreamRecord.id).Nodup) (p : Party) (id : Nat) :
    s.editPermitted p id = false ↔ p ≠ .host ∧ ¬ ∃ r ∈ s.streams, r.id = id ∧ r.owner = p := by
  unfold State.editPermitted
  cases p with
  | host => simp
  | station t =>
    rw [State.stream?_any hid (fun r => r.owner == .station t), List.any_eq_false]
    simp

/-- The units of a RESIZE are not looked at for another kind (R91). -/
theorem State.submitEdit_units (s : State) {kind : Kind} (hk : kind = .retire ∨ kind = .suspend ∨ kind = .resume)
    (p : Party) (id units : Nat) : s.submitEdit kind p id units = s.submitEdit kind p id 0 := by
  rcases hk with rfl | rfl | rfl <;> rfl

/-- The ledger step of an edit of a stream (R96). -/
theorem Ledger.chargeEdit_eq {l : Ledger} (hn : (l.claims.map StationClaim.tag).Nodup) (r : StreamRecord) (kind : Kind)
    (hk : isEditKind kind) (units : Nat) : l.chargeEdit r (editOpFor kind r units) =
      if kind = .resize ∧ r.units < units ∧
          (l.account r.owner).claimed < (l.account r.owner).committed + (units - r.units) then none
      else some (if kind = .resize ∧ r.units < units then
          l.withAccount r.owner { l.account r.owner with
            committed := (l.account r.owner).committed + (units - r.units) }
        else l) := by
  rcases hk with rfl | rfl | rfl | rfl
  · rfl
  · rfl
  · rfl
  by_cases hup : r.units < units
  · simp only [editOpFor, hup, if_true, Ledger.chargeEdit, Ledger.charge, true_and]
    by_cases hover : (l.account r.owner).claimed < (l.account r.owner).committed + (units - r.units)
    · rw [if_pos hover, if_neg (Nat.not_le.2 hover)]
    · rw [if_neg hover, if_pos (Nat.not_lt.1 hover)]
      refine congrArg some (Ledger.update_eq_withAccount hn ?_ ?_)
      · exact fun hbare => by have := hbare.1; omega
      · exact fun hbare => by have : (l.account r.owner).claimed = 0 := hbare.1; omega
  · simp only [editOpFor, hup, if_false, false_and, and_false]
    by_cases hdown : units < r.units
    · rw [if_pos hdown]; rfl
    · rw [if_neg hdown]; rfl

/-- The record that an accepted edit of a stream leaves (R96). -/
theorem staged_streams {l : List StreamRecord} (hid : (l.map StreamRecord.id).Nodup) {r : StreamRecord} (hr : r ∈ l)
    (kind : Kind) (hk : isEditKind kind) (units : Nat) :
    l.map (fun x => if x.id = r.id then r.staged (editOpFor kind r units) else x) =
      if kind = .resize then l.map (fun x => if x.id = r.id then { x with pendingResize := some units } else x) else l := by
  have hsame : ∀ x ∈ l, x.id = r.id → x = r := fun x hx => List.inj_on_of_nodup_map hid hx hr
  have hleft : l.map (fun x => if x.id = r.id then r else x) = l := by
    refine (List.map_congr_left (fun x hx => ?_)).trans (List.map_id l)
    by_cases hxr : x.id = r.id
    · rw [if_pos hxr, hsame x hx hxr]; rfl
    · rw [if_neg hxr]; rfl
  rcases hk with rfl | rfl | rfl | rfl
  · exact hleft
  · exact hleft
  · exact hleft
  rw [if_pos rfl]
  refine List.map_congr_left (fun x hx => ?_)
  by_cases hxr : x.id = r.id
  · rw [if_pos hxr, if_pos hxr, hsame x hx hxr]; rfl
  · rw [if_neg hxr, if_neg hxr]

/-- An edit of a stream behind its checks (R96, R97). -/
theorem State.submitEdit_of_passed {s : State} (hpos : s.positioned) (hn : (s.lgr.claims.map StationClaim.tag).Nodup)
    {kind : Kind} (hk : isEditKind kind) {p : Party} {units : Nat} {r : StreamRecord} (hr : r ∈ s.streams)
    (hpassed : s.editFailure kind p r.id units = none) (hroom : s.stg.edits.length < 16) :
    if kind = .resize ∧ r.units < units ∧
        (s.lgr.account r.owner).claimed < (s.lgr.account r.owner).committed + (units - r.units) then
      s.submitEdit kind p r.id units = (s, ⟨.overClaim, (s.lgr.account r.owner).unitsBody⟩)
    else ∃ next, followsNumber (s.stg.next :: s.stg.edits.map Edit.number) s.stg.next next ∧
      s.submitEdit kind p r.id units = ({ s with
        lgr := if kind = .resize ∧ r.units < units then
            s.lgr.withAccount r.owner { s.lgr.account r.owner with
              committed := (s.lgr.account r.owner).committed + (units - r.units) }
          else s.lgr
        streams := if kind = .resize then
            s.streams.map (fun x => if x.id = r.id then { x with pendingResize := some units } else x)
          else s.streams
        stg := { s.stg with
          edits := s.stg.edits ++ [⟨s.stg.next, p, editOpFor kind r units, r.id, s.csq.lastCycle.getD 0⟩]
          next := next } },
        ⟨.staged, be16 s.stg.next.toNat ++ [byteOf r.id, byteOf (s.stg.edits.length + 1), flag s.stg.frozen]⟩) := by
  have hcharge := Ledger.chargeEdit_eq hn r kind hk units
  have htaken : s.submitEdit kind p r.id units = (match s.lgr.chargeEdit r (editOpFor kind r units) with
      | none => (s, ⟨.overClaim, (s.lgr.account r.owner).unitsBody⟩)
      | some l =>
        let s1 := (State.putStream { s with lgr := l } (r.staged (editOpFor kind r units))).acceptEdit p
          (editOpFor kind r units) r.id
        (s1, s1.stagedReply s.stg.next r.id)) := by
    unfold State.submitEdit
    rw [hpassed, State.stream?_of_mem hpos.nodup hr] <;> rfl
  rw [htaken, hcharge]
  by_cases hover : kind = .resize ∧ r.units < units ∧
      (s.lgr.account r.owner).claimed < (s.lgr.account r.owner).committed + (units - r.units)
  · rw [if_pos hover, if_pos hover]
  rw [if_neg hover, if_neg hover]
  simp only
  obtain ⟨l, hl⟩ : ∃ l, l = if kind = .resize ∧ r.units < units then
      s.lgr.withAccount r.owner { s.lgr.account r.owner with
        committed := (s.lgr.account r.owner).committed + (units - r.units) }
    else s.lgr := ⟨_, rfl⟩
  rw [← hl]
  have hstagedId : (r.staged (editOpFor kind r units)).id = r.id := by
    unfold StreamRecord.staged
    split <;> rfl
  have hput := State.putStream_eq (s := { s with lgr := l }) hpos.nodup (r.staged (editOpFor kind r units))
  rw [hstagedId, staged_streams hpos.nodup hr kind hk units] at hput
  rw [hput]
  obtain ⟨next, hnext, haccept⟩ := State.acceptEdit_eq (s := { s with
    lgr := l
    streams := if kind = .resize then
        s.streams.map (fun x => if x.id = r.id then { x with pendingResize := some units } else x)
      else s.streams }) hroom p (editOpFor kind r units) r.id
  refine ⟨next, hnext, ?_⟩
  rw [haccept]
  simp [State.stagedReply]

/-- Settles O25: the chain of `State.editFailure_eq`, and what stands behind it by `State.submitEdit_of_passed`. -/
theorem streamEditTaken : Obligations.StreamEditTaken := by
  intro s sender p id hi lo h hpos hn hedits row hrow leads units
  have hid := hpos.nodup
  obtain ⟨-, hstream, -⟩ := hedits
  have hkind : isEditKind row.1 := by
    simp only [List.mem_cons, List.not_mem_nil, or_false] at hrow
    rcases hrow with rfl | rfl | rfl | rfl <;> simp [isEditKind]
  have hlead : ∀ u r, s.submitEdit row.1 p id.toNat units = (u, r) → leads u r := by
    intro u r hsubmit
    have hrequest {c : Instr} {kind : Kind} {body : List Byte}
        (hc : exec c s = outcome (bodyFits sender body) (s.request sender kind body)) (hb : body.length ≤ 54)
        (ho : ∀ h q x b, partyRequest kind p body (s.amid h q x b) =
          some ((s.amid h q x b).submitEdit row.1 p id.toNat units)) :
        exec c s = .next (State.transmit (u.withReply sender kind body r)) := by
      have hamid : ∀ h q x b, partyRequest kind p body (s.amid h q x b) = some (u.amid h q x b, r) := fun h q x b => by
        rw [ho, State.submitEdit_amid, hsubmit]
      have hrst : u.rst = s.rst := by
        have := s.submitEdit_rst row.1 p id.toNat units
        rwa [hsubmit] at this
      have hbeside : u = u.amid s.hlk s.csq.phase s.tpt.sending s.tpt.edge := by
        have := s.submitEdit_amid s.hlk s.csq.phase s.tpt.sending s.tpt.edge row.1 p id.toNat units
        rw [hsubmit] at this
        exact (congrArg Prod.fst hsubmit).symm.trans (congrArg Prod.fst this)
      exact exec_request kind body h hc hb (.of_amid hbeside (congrArg Roster.epoch hrst)) (fun _ => hrst) hamid
    simp only [List.mem_cons, List.not_mem_nil, or_false] at hrow
    rcases hrow with rfl | rfl | rfl | rfl
    · exact hrequest rfl (Nat.le_of_ble_eq_true rfl) (fun h q x b =>
        congrArg some (State.submitEdit_units _ (by simp) p id.toNat units).symm)
    · exact hrequest rfl (Nat.le_of_ble_eq_true rfl) (fun h q x b =>
        congrArg some (State.submitEdit_units _ (by simp) p id.toNat units).symm)
    · exact hrequest rfl (Nat.le_of_ble_eq_true rfl) (fun h q x b =>
        congrArg some (State.submitEdit_units _ (by simp) p id.toNat units).symm)
    · exact hrequest rfl (Nat.le_of_ble_eq_true rfl) (fun h q x b => rfl)
  have hrefused (r : Reply) (hf : s.editFailure row.1 p id.toNat units = some r) : leads s r := by
    refine hlead s r ?_
    unfold State.submitEdit
    simp only [hf]
  have hchain := s.editFailure_eq row.1 p id.toNat units
  clear_value leads
  by_cases h1 : (s.rst.rightsOf p).stream = false
  · rw [if_pos h1] at hchain ⊢
    exact hrefused _ hchain
  rw [if_neg h1] at hchain ⊢
  by_cases h2 : 40 ≤ id.toNat
  · rw [if_pos h2] at hchain ⊢
    exact hrefused _ hchain
  rw [if_neg h2] at hchain ⊢
  by_cases h3 : row.1 = .resize ∧ (units < 2 ∨ 512 < units)
  · rw [if_pos h3] at hchain ⊢
    exact hrefused _ hchain
  rw [if_neg h3] at hchain ⊢
  have hpermit := State.editPermitted_iff hid p id.toNat
  by_cases h4 : p ≠ .host ∧ ¬ (∃ r ∈ s.streams, r.id = id.toNat ∧ r.owner = p)
  · rw [if_pos (hpermit.2 h4)] at hchain
    rw [if_pos h4]
    exact hrefused _ hchain
  rw [if_neg (fun h => h4 (hpermit.1 h))] at hchain
  rw [if_neg h4]
  have hidByte : byteOf id.toNat = id := by simp [byteOf]
  by_cases h5 : ∀ r ∈ s.streams, r.id ≠ id.toNat
  · rw [if_pos h5]
    refine hrefused _ (hchain.trans ?_)
    unfold State.stateFailure
    rw [show s.stream? id.toNat = none from List.find?_eq_none.2 (fun r hr => by simpa using h5 r hr), hidByte]
    rfl
  rw [if_neg h5]
  intro r hr hrid admitted account
  have hfound : s.stream? id.toNat = some r := hrid ▸ State.stream?_of_mem hid hr
  have hadmit : admitted = stateAdmits row.1 r.state := by
    rcases hkind with hk | hk | hk | hk <;> simp only [admitted, hk] <;> cases r.state <;> rfl
  have hstate : s.stateFailure row.1 id.toNat =
      if admitted = false then some ⟨.wrongState, stateWithCause r.state⟩ else none := by
    unfold State.stateFailure
    rw [hfound, hadmit]
    simp only [require]
    cases stateAdmits row.1 r.state <;> rfl
  rw [hstate] at hchain
  clear_value admitted
  by_cases h6 : admitted = false
  · rw [if_pos h6] at hchain ⊢
    exact hrefused _ hchain
  rw [if_neg h6] at hchain ⊢
  by_cases h7 : ∃ e ∈ s.stg.edits, e.stream = r.id
  · rw [if_pos h7]
    intro e he her
    refine hrefused _ (hchain.trans ?_)
    unfold State.pendingFailure
    rw [← hrid, ← her, find?_of_mem Edit.stream e _ hstream he]
    rfl
  rw [if_neg h7]
  have hpending : s.pendingFailure id.toNat = none := by
    unfold State.pendingFailure
    rw [List.find?_eq_none.2 (fun e he => by simpa [← hrid] using fun h => h7 ⟨e, he, h⟩)]
    rfl
  rw [hpending] at hchain
  by_cases h8 : 16 ≤ s.stg.edits.length
  · rw [if_pos h8] at hchain ⊢
    exact hrefused _ hchain
  rw [if_neg h8] at hchain ⊢
  have hpassed := State.submitEdit_of_passed hpos hn hkind hr (hrid ▸ hchain) (Nat.not_le.1 h8)
  by_cases h9 : row.1 = .resize ∧ r.units < units ∧ account.claimed < account.committed + (units - r.units)
  · rw [if_pos h9] at hpassed ⊢
    exact hlead _ _ (hrid ▸ hpassed)
  rw [if_neg h9] at hpassed ⊢
  obtain ⟨next, hnext, hpassed⟩ := hpassed
  refine ⟨next, hnext, hlead _ _ ?_⟩
  refine Eq.trans ?_ (hpassed.trans ?_)
  · rw [hrid]
  · refine Prod.ext rfl (congrArg (Reply.mk .staged) ?_)
    show _ = be16 s.stg.next.toNat ++ [id, _, _]
    rw [hrid, hidByte]

end Sys2Proof.Machine
end

section
/-! SUPPORT. The acceptance of ADMIT (R91 to R97). -/

namespace Sys2Proof.Machine

/-! ### The body -/

/-- The presence byte tells which of its four parts are there (entry 10). -/
theorem presence4 (b0 b1 b2 b3 : Bool) :
    let x := byteOf ((if b0 then 1 else 0) + (if b1 then 2 else 0) + (if b2 then 4 else 0) + (if b3 then 8 else 0))
    x.toNat < 16 ∧ x.getLsbD 0 = b0 ∧ x.getLsbD 1 = b1 ∧ x.getLsbD 2 = b2 ∧ x.getLsbD 3 = b3 := by
  cases b0 <;> cases b1 <;> cases b2 <;> cases b3 <;> decide

/-- The two bytes of a cycle number join to it (R201). -/
theorem be16_join (c : BitVec 16) : (byteOf (c.toNat / 256) ++ byteOf c.toNat : BitVec 16) = c := by
  have h := (be16_append (byteOf (c.toNat / 256)) (byteOf c.toNat)).2
  rw [word16_be16 c.isLt] at h
  exact BitVec.eq_of_toNat_eq h.symm

/-- A party's seven bytes are read as the party (R201). -/
theorem partyOf_bytes (q : Party) : ∃ k t, partyBytes q = k :: tagBytes t ∧ partyOf k t = some q := by
  cases q with
  | host => exact ⟨0, 0, rfl, rfl⟩
  | station t => exact ⟨1, t, rfl, rfl⟩

/-- An ADMIT's bytes are read as its arguments (R89, R201). -/
theorem decodeAdmit_bytes {a : AdmitRequest} (h : a.encodable) : decodeAdmit a.bytes = .ok a := by
  obtain ⟨hchannel, hunits, hperiod, hphase, hstop⟩ := h
  obtain ⟨hp, h0, h1, h2, h3⟩ := presence4 a.owner.isSome a.talker.isSome a.start.isSome a.stop.isSome
  obtain ⟨k, t, hparty, hread⟩ := partyOf_bytes (a.owner.getD .host)
  unfold AdmitRequest.bytes
  rw [hparty]
  generalize byteOf ((if a.owner.isSome then 1 else 0) + (if a.talker.isSome then 2 else 0)
    + (if a.start.isSome then 4 else 0) + (if a.stop.isSome then 8 else 0)) = x at *
  simp only [tagBytes, be16, List.cons_append, List.nil_append, decodeAdmit]
  rw [if_neg (Nat.not_le.2 hp), tagOf_tagBytes, tagOf_tagBytes, hread, h0, h1, h2, h3, be16_join, word16_be16 hunits,
    word16_be16 hstop, byteOf_toNat _ hchannel, byteOf_toNat _ hperiod, byteOf_toNat _ hphase]
  obtain ⟨owner, talker, channel, units, period, phase, start, stop⟩ := a
  cases owner <;> cases talker <;> cases start <;> cases stop <;> rfl

/-! ### The position of a new record (R62) -/

/-- The position found is free, and every lower one is taken. -/
theorem State.lowestFree_some {s : State} {id : Nat} (h : s.lowestFree = some id) :
    id < 40 ∧ (∀ r ∈ s.streams, r.id ≠ id) ∧ ∀ j < id, ∃ r ∈ s.streams, r.id = j := by
  obtain ⟨hfree, hlt, hbefore⟩ := List.find?_range_eq_some.1 h
  refine ⟨by simpa [Config.streamPositions] using hlt, fun r hr hrid => ?_, fun j hj => ?_⟩
  · have hsome : (s.stream? id).isSome = true := State.stream?_isSome.2 ⟨r, hr, hrid⟩
    rw [Option.isNone_iff_eq_none] at hfree
    rw [hfree] at hsome
    exact absurd hsome nofun
  · have hsome := hbefore j hj
    rw [Bool.not_eq_true', Option.isNone_eq_false_iff] at hsome
    exact State.stream?_isSome.1 hsome

/-- A position is free exactly while fewer than 40 records stand. -/
theorem State.lowestFree_isSome {s : State} (h : s.positioned) : s.lowestFree.isSome = false ↔ 40 ≤ s.streams.length := by
  obtain ⟨-, hbound⟩ := id h
  have hn := h.nodup
  have hsub : s.streams.map StreamRecord.id ⊆ List.range 40 := by
    intro j hj
    obtain ⟨r, hr, rfl⟩ := List.mem_map.1 hj
    exact List.mem_range.2 (hbound r hr)
  have hnone : s.lowestFree = none ↔ List.range 40 ⊆ s.streams.map StreamRecord.id := by
    unfold State.lowestFree
    rw [List.find?_eq_none]
    constructor
    · intro hall j hj
      have hsome := hall j hj
      rw [Bool.not_eq_true, Option.isNone_eq_false_iff] at hsome
      obtain ⟨r, hr, hrj⟩ := State.stream?_isSome.1 hsome
      exact List.mem_map.2 ⟨r, hr, hrj⟩
    · intro hall j hj
      obtain ⟨r, hr, hrj⟩ := List.mem_map.1 (hall hj)
      rw [Bool.not_eq_true, Option.isNone_eq_false_iff]
      exact State.stream?_isSome.2 ⟨r, hr, hrj⟩
  rw [Option.isSome_eq_false_iff, Option.isNone_iff_eq_none, hnone]
  constructor
  · intro hall
    simpa using (List.nodup_range.subperm hall).length_le
  · intro hlen j hj
    have hperm := (hn.subperm hsub).perm_of_length_le (by simpa using hlen)
    exact hperm.mem_iff.2 hj

/-- Among records by rising id a new one stands behind the lower ids, all of which are taken (R62). -/
theorem insertBy_lowest (x : StreamRecord) (l : List StreamRecord) : ∀ k, (l.map StreamRecord.id).Pairwise (· < ·) →
    (∀ r ∈ l, k ≤ r.id) → (∀ r ∈ l, r.id ≠ x.id) → (∀ j, k ≤ j → j < x.id → ∃ r ∈ l, r.id = j) →
    insertBy (fun a b => a.id < b.id) x l = l.take (x.id - k) ++ [x] ++ l.drop (x.id - k) := by
  induction l with
  | nil => intro k _ _ _ _; simp [insertBy]
  | cons a l ih =>
    intro k hsorted hge hne hall
    obtain ⟨hfirst, hsorted⟩ := List.pairwise_cons.1 (List.map_cons ▸ hsorted)
    have ha := hge a (List.mem_cons_self ..)
    have hafter : ∀ r ∈ l, a.id < r.id := fun r hr => hfirst _ (List.mem_map_of_mem hr)
    have hk (h : k < x.id) : a.id = k := by
      obtain ⟨r, hr, hrk⟩ := hall k (Nat.le_refl k) h
      rcases List.mem_cons.1 hr with rfl | hr
      · exact hrk
      · have := hafter r hr; omega
    by_cases hlt : a.id < x.id
    · have hak := hk (by omega)
      have hrest := ih (k + 1) hsorted (fun r hr => by have := hafter r hr; omega)
        (fun r hr => hne r (List.mem_cons_of_mem _ hr)) (fun j hj hjx => by
          obtain ⟨r, hr, hrj⟩ := hall j (by omega) hjx
          rcases List.mem_cons.1 hr with rfl | hr
          · omega
          · exact ⟨r, hr, hrj⟩)
      obtain ⟨d, hd⟩ : ∃ d, x.id - k = d + 1 := ⟨x.id - (k + 1), by omega⟩
      rw [show x.id - (k + 1) = d by omega] at hrest
      rw [hd]
      unfold insertBy
      rw [if_pos (by simpa using hlt), hrest]
      rfl
    · have hxa := hne a (List.mem_cons_self ..)
      have : x.id - k = 0 := by
        by_contra hpos
        have := hk (by omega)
        omega
      rw [this]
      unfold insertBy
      rw [if_neg (by simpa using hlt)]
      rfl

/-! ### The ledger step (R56, R96) -/

/-- The charge and the binding are laid, both or neither. -/
theorem Ledger.chargeAndBind_eq {l : Ledger} (hn : (l.claims.map StationClaim.tag).Nodup) (a : AdmitArgs) (id : Nat) :
    l.chargeAndBind a id =
      if (l.account a.owner).claimed < (l.account a.owner).committed + a.units then
        .error ⟨.overClaim, (l.account a.owner).unitsBody⟩
      else if (l.account a.owner).held.getLsbD a.channel = false then .error ⟨.notHeld, [byteOf a.channel]⟩
      else .ok (l.withAccount a.owner { l.account a.owner with
        committed := (l.account a.owner).committed + a.units
        bound := bindIn (l.account a.owner).bound a.channel id }) := by
  unfold Ledger.chargeAndBind Ledger.charge
  by_cases hover : (l.account a.owner).claimed < (l.account a.owner).committed + a.units
  · rw [if_neg (Nat.not_le.2 hover), if_pos hover]
  rw [if_pos (Nat.not_lt.1 hover), if_neg hover]
  have hheld : ((l.update a.owner (fun x => { x with committed := x.committed + a.units })).account a.owner).held =
      (l.account a.owner).held := l.account_update_kept _ _ _ Account.held (fun _ => rfl)
  simp only [Ledger.bind, hheld, hasChannel]
  by_cases hchannel : (l.account a.owner).held.getLsbD a.channel = false
  · rw [if_pos hchannel, if_neg (by rw [hchannel]; exact nofun)]
  · have hbare : ¬ (l.account a.owner).held = 0 := fun h => hchannel (by rw [h]; simp)
    rw [if_neg hchannel, if_pos (by simpa using hchannel), Ledger.update_update]
    exact congrArg Except.ok (Ledger.update_eq_withAccount hn (fun h => hbare h.2) (fun h => hbare h.2))

/-! ### The checks and what acceptance leaves (R91 to R97) -/

/-- The checks of an ADMIT, in order (R91 to R95). -/
theorem State.admitFailure_eq {s : State} (hpos : s.positioned) (p : Party) (a : AdmitRequest) : s.admitFailure p a =
    if (s.rst.rightsOf p).stream = false then some ⟨.notPermitted, []⟩
    else ((admitRangeField p a).map (fun f => ⟨.badValue, [f]⟩)).or (
      if startMisalignment (admitArgs p a) ≠ 0 then some ⟨.badPhase, [byteOf (startMisalignment (admitArgs p a))]⟩
      else (s.admitOwnership p (admitArgs p a)).or (
        if 40 ≤ s.streams.length then some ⟨.tableFull, []⟩
        else if ∃ r ∈ s.streams, r.channel = a.channel then some ⟨.channelTaken, [byteOf a.channel]⟩
        else if 16 ≤ s.stg.edits.length then some ⟨.listFull, [flag s.stg.frozen]⟩ else none)) := by
  have hphase : ((startMisalignment (admitArgs p a) == 0) = false) = (startMisalignment (admitArgs p a) ≠ 0) := by simp
  have hfree : (s.lowestFree.isSome = false) = (40 ≤ s.streams.length) := propext (State.lowestFree_isSome hpos)
  have hchannel : (s.streams.all (fun r => r.channel != (admitArgs p a).channel) = false) =
      ∃ r ∈ s.streams, r.channel = a.channel := by
    rw [List.all_eq_false]
    simp [admitArgs]
  have hroom : (decide (s.stg.edits.length < Config.editRoom) = false) = (16 ≤ s.stg.edits.length) :=
    propext (decide_eq_false_iff_not.trans Nat.not_lt)
  unfold State.admitFailure
  simp only [firstFailure_cons, firstFailure_nil, require_or, hphase, hfree, hchannel, hroom]
  rfl

/-- An ADMIT does not look at what a request's taking changes. -/
theorem takeAdmit_amid (s : State) (h : HostLink) (q : CyclePhase) (x : Option TrunkSending) (b : Bool) (p : Party)
    (body : List Byte) : takeAdmit p body (s.amid h q x b) =
      ((takeAdmit p body s).1.amid h q x b, (takeAdmit p body s).2) := by
  unfold takeAdmit
  cases decodeAdmit body with
  | error f => rfl
  | ok a =>
    have hfailure : (s.amid h q x b).admitFailure p a = s.admitFailure p a := rfl
    have hfree : (s.amid h q x b).lowestFree = s.lowestFree := rfl
    simp only [hfailure, hfree, State.amid_lgr]
    cases s.admitFailure p a with
    | some r => rfl
    | none =>
      simp only
      cases s.lgr.chargeAndBind (admitArgs p a) (s.lowestFree.getD 0) <;> rfl

/-- An ADMIT leaves the roster (R96). -/
theorem takeAdmit_rst (s : State) (p : Party) (body : List Byte) : (takeAdmit p body s).1.rst = s.rst := by
  unfold takeAdmit
  cases decodeAdmit body with
  | error f => rfl
  | ok a =>
    simp only
    cases s.admitFailure p a with
    | some r => rfl
    | none =>
      simp only
      cases s.lgr.chargeAndBind (admitArgs p a) (s.lowestFree.getD 0) <;> rfl

/-- An ADMIT behind its checks (R96, R97). -/
theorem takeAdmit_of_passed {s : State} (hpos : s.positioned) (hn : (s.lgr.claims.map StationClaim.tag).Nodup)
    {p : Party} {a : AdmitRequest} (ha : a.encodable) (hpassed : s.admitFailure p a = none)
    (hfull : ¬ 40 ≤ s.streams.length) (hroom : s.stg.edits.length < 16) :
    let args := admitArgs p a
    let account := s.lgr.account args.owner
    if account.claimed < account.committed + a.units then
      takeAdmit p a.bytes s = (s, ⟨.overClaim, account.unitsBody⟩)
    else if account.held.getLsbD a.channel = false then
      takeAdmit p a.bytes s = (s, ⟨.notHeld, [byteOf a.channel]⟩)
    else ∃ (id : Nat) (next : BitVec 16), id < 40 ∧ (∀ r ∈ s.streams, r.id ≠ id) ∧
      (∀ j < id, ∃ r ∈ s.streams, r.id = j) ∧
      followsNumber (s.stg.next :: s.stg.edits.map Edit.number) s.stg.next next ∧
      takeAdmit p a.bytes s = ({ s with
        lgr := s.lgr.withAccount args.owner { account with
          committed := account.committed + a.units, bound := bindIn account.bound a.channel id }
        streams := s.streams.take id ++ [newRecord id args] ++ s.streams.drop id
        stg := { s.stg with
          edits := s.stg.edits ++ [⟨s.stg.next, p, .admitStream args, id, s.csq.lastCycle.getD 0⟩]
          next := next } },
        ⟨.staged, be16 s.stg.next.toNat ++ [byteOf id, byteOf (s.stg.edits.length + 1), flag s.stg.frozen]⟩) := by
  intro args account
  obtain ⟨id, hid⟩ : ∃ id, s.lowestFree = some id := by
    refine Option.isSome_iff_exists.1 (Bool.not_eq_false _ ▸ fun h => ?_)
    exact hfull ((State.lowestFree_isSome hpos).1 h)
  have hledger : s.lgr.chargeAndBind args id =
      if account.claimed < account.committed + a.units then .error ⟨.overClaim, account.unitsBody⟩
      else if account.held.getLsbD a.channel = false then .error ⟨.notHeld, [byteOf a.channel]⟩
      else .ok (s.lgr.withAccount args.owner { account with
        committed := account.committed + a.units, bound := bindIn account.bound a.channel id }) :=
    Ledger.chargeAndBind_eq hn args id
  have htaken : takeAdmit p a.bytes s = (match s.lgr.chargeAndBind args id with
      | .error r => (s, r)
      | .ok l =>
        let s1 := (State.addRecord { s with lgr := l } (newRecord id args)).acceptEdit p (.admitStream args) id
        (s1, s1.stagedReply s.stg.next id)) := by
    unfold takeAdmit
    rw [decodeAdmit_bytes ha]
    simp only [hpassed, hid, Option.getD_some] <;> rfl
  rw [htaken, hledger]
  by_cases hover : account.claimed < account.committed + a.units
  · rw [if_pos hover, if_pos hover]
  rw [if_neg hover, if_neg hover]
  by_cases hchannel : account.held.getLsbD a.channel = false
  · rw [if_pos hchannel, if_pos hchannel]
  rw [if_neg hchannel, if_neg hchannel]
  obtain ⟨hlt, hfree, hlower⟩ := State.lowestFree_some hid
  have hinsert := insertBy_lowest (newRecord id args) s.streams 0 hpos.1 (fun _ _ => Nat.zero_le _) hfree
    (fun j _ hj => hlower j hj)
  obtain ⟨l, hl⟩ : ∃ l, l = s.lgr.withAccount args.owner { account with
      committed := account.committed + a.units, bound := bindIn account.bound a.channel id } := ⟨_, rfl⟩
  obtain ⟨next, hnext, haccept⟩ := State.acceptEdit_eq (s := State.addRecord { s with lgr := l } (newRecord id args))
    hroom p (.admitStream args) id
  refine ⟨id, next, hlt, hfree, hlower, hnext, ?_⟩
  simp only
  rw [← hl, haccept]
  unfold State.addRecord State.stagedReply
  rw [hinsert]
  simp only [newRecord, Nat.sub_zero, List.length_append, List.length_singleton]

/-- The owner that an ADMIT names, or its absence, suits the sender (R92). -/
def AdmitRequest.ownerSuits (a : AdmitRequest) : Party → Bool
  | .host => a.owner.isSome
  | .station _ => a.owner.isNone

/-- The talker that an ADMIT names, or its absence, suits the sender and the owner (R63, R92). -/
def AdmitRequest.talkerSuits (a : AdmitRequest) (p : Party) : Bool :=
  match p, a.owner with
  | .station _, _ => a.talker.isNone
  | .host, some (.station t) => a.talker.isNone || a.talker == some t
  | .host, _ => a.talker.isSome

theorem AdmitRequest.ownerSuits_iff (a : AdmitRequest) (p : Party) :
    (!a.ownerSuits p) = true ↔ a.owner.isSome = decide (p ≠ .host) := by
  unfold AdmitRequest.ownerSuits
  cases p <;> cases a.owner <;> simp

theorem AdmitRequest.talkerSuits_iff (a : AdmitRequest) (p : Party) (h : ¬ a.owner.isSome = decide (p ≠ .host)) :
    (!a.talkerSuits p) = true ↔
      (if p = .host ∧ (admitArgs p a).owner = .host then a.talker = none
        else a.talker ≠ none ∧ (p ≠ .host ∨ a.talker ≠ some (admitArgs p a).talker)) := by
  unfold AdmitRequest.talkerSuits
  cases p with
  | station t => cases a.talker <;> simp
  | host =>
    cases ho : a.owner with
    | none => rw [ho] at h; simp at h
    | some q => cases q <;> cases ht : a.talker <;> simp [admitArgs, ho]

/-- The ranges of an ADMIT's arguments, in order (R92, entry 37). -/
theorem admitRangeField_eq (p : Party) (a : AdmitRequest) : admitRangeField p a =
    if a.owner.isSome = decide (p ≠ .host) then some 1
    else if (if p = .host ∧ (admitArgs p a).owner = .host then a.talker = none
      else a.talker ≠ none ∧ (p ≠ .host ∨ a.talker ≠ some (admitArgs p a).talker)) then some 2
    else if 40 ≤ a.channel then some 3
    else if a.units < 2 ∨ 512 < a.units then some 4
    else if a.period ∉ [1, 2, 4, 8, 16] then some 5
    else if a.period ≤ a.phase then some 6
    else if a.stop = some 0 then some 8
    else none := by
  have hperiod : (!([1, 2, 4, 8, 16].contains a.period)) = true ↔ a.period ∉ [1, 2, 4, 8, 16] := by simp
  show (if (!a.ownerSuits p) = true then some 1 else if (!a.talkerSuits p) = true then some 2
    else if 40 ≤ a.channel then some 3
    else if a.units < 2 ∨ 512 < a.units then some 4
    else if (!([1, 2, 4, 8, 16].contains a.period)) = true then some 5
    else if a.period ≤ a.phase then some 6
    else if a.stop = some 0 then some 8
    else none) = _
  by_cases howner : a.owner.isSome = decide (p ≠ .host)
  · rw [if_pos ((a.ownerSuits_iff p).2 howner), if_pos howner]
  rw [if_neg (fun h => howner ((a.ownerSuits_iff p).1 h)), if_neg howner]
  by_cases htalker : (if p = .host ∧ (admitArgs p a).owner = .host then a.talker = none
      else a.talker ≠ none ∧ (p ≠ .host ∨ a.talker ≠ some (admitArgs p a).talker))
  · rw [if_pos ((a.talkerSuits_iff p howner).2 htalker), if_pos htalker]
  rw [if_neg (fun h => htalker ((a.talkerSuits_iff p howner).1 h)), if_neg htalker]
  by_cases hp : a.period ∉ [1, 2, 4, 8, 16]
  · rw [if_pos (hperiod.2 hp), if_pos hp]
  · rw [if_neg (fun h => hp (hperiod.1 h)), if_neg hp]

/-- Settles O24: the chain of `State.admitFailure_eq` and `admitRangeField_eq`, and what stands behind it by
`takeAdmit_of_passed`. -/
theorem admitTaken : Obligations.AdmitTaken := by
  intro s sender p a h ha hpos hn hedits leads owner talker misaligned account held
  have hlead : ∀ u r, takeAdmit p a.bytes s = (u, r) → leads u r := by
    intro u r htake
    have hrst : u.rst = s.rst := by
      have := takeAdmit_rst s p a.bytes
      rwa [htake] at this
    have hbeside : u = u.amid s.hlk s.csq.phase s.tpt.sending s.tpt.edge := by
      have := takeAdmit_amid s s.hlk s.csq.phase s.tpt.sending s.tpt.edge p a.bytes
      rw [htake] at this
      exact (congrArg Prod.fst htake).symm.trans (congrArg Prod.fst this)
    have hlen : a.bytes.length ≤ 54 := by
      obtain ⟨k, t, hparty, -⟩ := partyOf_bytes (a.owner.getD .host)
      unfold AdmitRequest.bytes
      rw [hparty]
      simp [tagBytes, be16]
    refine exec_request .admitStream a.bytes h rfl hlen (.of_amid hbeside (congrArg Roster.epoch hrst)) (fun _ => hrst)
      (fun h q x b => congrArg some ?_)
    rw [takeAdmit_amid, htake]
  have hargs : admitArgs p a = ⟨owner, talker, a.channel, a.units, a.period, a.phase, a.start, a.stop⟩ := by
    simp only [admitArgs, owner, talker]
    cases p with
    | station t => rfl
    | host => cases a.owner.getD .host <;> rfl
  have hrefused (r : Reply) (hf : s.admitFailure p a = some r) : leads s r := by
    refine hlead s r ?_
    unfold takeAdmit
    rw [decodeAdmit_bytes ha]
    simp only [hf]
  have hmisaligned : startMisalignment (admitArgs p a) = misaligned := by rw [hargs]; rfl
  have hchain := State.admitFailure_eq hpos p a
  have hrange := admitRangeField_eq p a
  have howner : (admitArgs p a).owner = owner := by rw [hargs]
  have htalker : (admitArgs p a).talker = talker := by rw [hargs]
  rw [hmisaligned] at hchain
  rw [howner, htalker] at hrange
  clear_value leads misaligned
  have hfield {f : Byte} (hf : admitRangeField p a = some f) (h1 : ¬ (s.rst.rightsOf p).stream = false) :
      leads s ⟨.badValue, [f]⟩ := by
    refine hrefused _ (hchain.trans ?_)
    rw [if_neg h1, hf]
    rfl
  by_cases h1 : (s.rst.rightsOf p).stream = false
  · rw [if_pos h1] at hchain ⊢
    exact hrefused _ hchain
  rw [if_neg h1]
  by_cases h2 : a.owner.isSome = decide (p ≠ .host)
  · rw [if_pos h2] at hrange ⊢
    exact hfield hrange h1
  rw [if_neg h2] at hrange ⊢
  by_cases h3 : (if p = .host ∧ owner = .host then a.talker = none else a.talker ≠ none ∧ (p ≠ .host ∨ a.talker ≠ some talker))
  · rw [if_pos h3] at hrange ⊢
    exact hfield hrange h1
  rw [if_neg h3] at hrange ⊢
  by_cases h4 : 40 ≤ a.channel
  · rw [if_pos h4] at hrange ⊢
    exact hfield hrange h1
  rw [if_neg h4] at hrange ⊢
  by_cases h5 : a.units < 2 ∨ 512 < a.units
  · rw [if_pos h5] at hrange ⊢
    exact hfield hrange h1
  rw [if_neg h5] at hrange ⊢
  by_cases h6 : a.period ∉ [1, 2, 4, 8, 16]
  · rw [if_pos h6] at hrange ⊢
    exact hfield hrange h1
  rw [if_neg h6] at hrange ⊢
  by_cases h7 : a.period ≤ a.phase
  · rw [if_pos h7] at hrange ⊢
    exact hfield hrange h1
  rw [if_neg h7] at hrange ⊢
  by_cases h8 : a.stop = some 0
  · rw [if_pos h8] at hrange ⊢
    exact hfield hrange h1
  rw [if_neg h8] at hrange ⊢
  rw [if_neg h1, hrange] at hchain
  by_cases h9 : misaligned ≠ 0
  · rw [if_pos h9]
    exact hrefused _ (hchain.trans (if_pos h9))
  rw [if_neg h9]
  replace hchain := hchain.trans (if_neg h9)
  have hownership : s.admitOwnership p (admitArgs p a) =
      if p ≠ .host ∧ held = false then some ⟨.notHeld, [byteOf a.channel]⟩
      else if p = .host ∧ owner ≠ .host ∧ ¬ (∃ e ∈ s.rst.stations, e.tag = talker ∧ e.state = .present) then
        some ⟨.noSuchStation, tagBytes talker⟩
      else none := by
    rw [hargs]
    cases p with
    | station t =>
      have : held = hasChannel (s.lgr.account (.station t)).held a.channel := rfl
      simp only [State.admitOwnership, require, ← this]
      cases held <;> simp
    | host =>
      simp only [State.admitOwnership]
      cases howner : owner with
      | host => simp
      | station t =>
        have htalker : talker = t := by
          simp only [talker, howner]
        have hpresent := s.rst.isPresent_iff t
        rw [htalker]
        simp only [require]
        cases hp : s.rst.isPresent t with
        | true =>
          have := hpresent.1 hp
          simp [this]
        | false =>
          have : ¬ ∃ e ∈ s.rst.stations, e.tag = t ∧ e.state = .present := fun h => by
            rw [hpresent.2 h] at hp
            exact absurd hp nofun
          simp [this]
  rw [hownership] at hchain
  by_cases h10 : p ≠ .host ∧ held = false
  · rw [if_pos h10] at hchain ⊢
    exact hrefused _ hchain
  rw [if_neg h10] at hchain ⊢
  by_cases h11 : p = .host ∧ owner ≠ .host ∧ ¬ (∃ e ∈ s.rst.stations, e.tag = talker ∧ e.state = .present)
  · rw [if_pos h11] at hchain ⊢
    exact hrefused _ hchain
  rw [if_neg h11] at hchain ⊢
  by_cases h12 : 40 ≤ s.streams.length
  · rw [if_pos h12]
    exact hrefused _ (hchain.trans (if_pos h12))
  rw [if_neg h12]
  replace hchain := hchain.trans (if_neg h12)
  by_cases h13 : ∃ r ∈ s.streams, r.channel = a.channel
  · rw [if_pos h13] at hchain ⊢
    exact hrefused _ hchain
  rw [if_neg h13] at hchain ⊢
  by_cases h14 : 16 ≤ s.stg.edits.length
  · rw [if_pos h14] at hchain ⊢
    exact hrefused _ hchain
  rw [if_neg h14] at hchain ⊢
  have hpassed := takeAdmit_of_passed hpos hn ha hchain h12 (Nat.not_le.1 h14)
  rw [hargs] at hpassed
  simp only at hpassed
  by_cases h15 : account.claimed < account.committed + a.units
  · rw [if_pos h15] at hpassed ⊢
    exact hlead _ _ hpassed
  rw [if_neg h15] at hpassed ⊢
  by_cases h16 : held = false
  · rw [if_pos h16] at hpassed ⊢
    exact hlead _ _ hpassed
  rw [if_neg h16] at hpassed ⊢
  obtain ⟨id, next, hid, hfree, hlower, hnext, hpassed⟩ := hpassed
  exact ⟨id, next, hid, hfree, hlower, hnext, hlead _ _ hpassed⟩

end Sys2Proof.Machine
end

section
/-! SUPPORT. RECLAIM (8.5). -/

namespace Sys2Proof.Machine

/-! ### The ledger's part (R159) -/

/-- A party's record, made where it is missing, takes a change (R36, R49). -/
theorem Ledger.update_ensured {l : Ledger} (hn : (l.claims.map StationClaim.tag).Nodup) (t : Tag) (f : Account → Account) :
    let l' := (l.ensure (.station t)).update (.station t) f
    l'.host = l.host ∧ l'.freeUnits = l.freeUnits ∧ l'.freeChannels = l.freeChannels ∧ l'.holdings = l.holdings ∧
    if ∃ c ∈ l.claims, c.tag = t then
      l'.claims = l.claims.map (fun c => if c.tag = t then ⟨t, f (l.account (.station t))⟩ else c) ∧ l'.revision = l.revision
    else l'.claims = l.claims ++ [⟨t, f (l.account (.station t))⟩] ∧ l'.revision = l.revision + 1 := by
  intro l'
  by_cases hex : ∃ c ∈ l.claims, c.tag = t
  · have hsome := (l.account?_station_isSome t).2 hex
    have hl : l' = l.update (.station t) f := by simp only [l', Ledger.ensure_of_isSome hsome]
    rw [if_pos hex, hl]
    refine ⟨rfl, rfl, rfl, rfl, ?_, rfl⟩
    show updateFirst (fun c => c.tag == t) (fun c => { c with account := f c.account }) l.claims = _
    rw [updateFirst_key StationClaim.tag _ t l.claims hn]
    refine List.map_congr_left (fun c hc => ?_)
    by_cases hct : c.tag = t
    · subst hct
      have hown : l.account (.station c.tag) = c.account := by
        unfold Ledger.account
        rw [Ledger.account?_of_mem hn hc]
        rfl
      rw [if_pos rfl, if_pos rfl, hown]
    · rw [if_neg hct, if_neg hct]
  · have hnone : l.account? (.station t) = none := by
      cases ha : l.account? (.station t) with
      | none => rfl
      | some a => exact absurd ((l.account?_station_isSome t).1 (by rw [ha]; rfl)) hex
    have habsent : ∀ c ∈ l.claims, ¬ (c.tag == t) = true := fun c hc h => hex ⟨c, hc, by simpa using h⟩
    have happend (g : StationClaim → StationClaim) (c : StationClaim) (hc : (c.tag == t) = true) (k : List StationClaim)
        (hk : ∀ c ∈ k, ¬ (c.tag == t) = true) : updateFirst (fun c => c.tag == t) g (k ++ [c]) = k ++ [g c] := by
      induction k with
      | nil => rw [List.nil_append, updateFirst_cons, if_pos hc]; rfl
      | cons b k ih =>
        rw [List.cons_append, updateFirst_cons, if_neg (hk b (List.mem_cons_self ..)),
          ih (fun c hc => hk c (List.mem_cons_of_mem _ hc))]
        rfl
    rw [if_neg hex, Ledger.account_of_none hnone]
    simp only [l', Ledger.ensure_of_none hnone]
    exact ⟨rfl, rfl, rfl, rfl, happend _ ⟨t, .empty⟩ (by simp) l.claims habsent, rfl⟩

/-- The channels that a holding's streams bind join the account's own (R159). -/
theorem bindAll_perm (streams : List StreamRecord) (l : List HeldStream) : ∀ bound : List (Nat × Nat),
    (∀ x ∈ l, (streams.find? (fun r => r.id == x.id)).isSome = true) →
    (l.foldl (fun b x => match streams.find? (fun r => r.id == x.id) with
      | some r => bindIn b r.channel x.id
      | none => b) bound).Perm
    (bound ++ l.map (fun x => (((streams.find? (fun r => r.id == x.id)).map StreamRecord.channel).getD 0, x.id))) := by
  induction l with
  | nil => intro bound _; simp
  | cons x l ih =>
    intro bound hfound
    obtain ⟨r, hr⟩ := Option.isSome_iff_exists.1 (hfound x (List.mem_cons_self ..))
    have hrest := ih (bindIn bound r.channel x.id) (fun y hy => hfound y (List.mem_cons_of_mem _ hy))
    simp only [List.foldl_cons, List.map_cons, hr, Option.map_some, Option.getD_some]
    exact hrest.trans (((insertBy_perm _ (r.channel, x.id) bound).append_right _).trans List.perm_middle.symm)

/-- The state of a RECLAIM, ahead of the window's close (R159, R160). -/
def State.reclaimed (s : State) (number : Nat) (k : Holding) : State :=
  { s with
    lgr := s.lgr.convertHolding k s.streams
    streams := s.streams.map (fun (r : StreamRecord) =>
      if (k.streams.map HeldStream.id).contains r.id then r.leaveHeld else r)
    rpu := (s.offer .reclaimed (s.reclaimedBody number k)).rpu }

/-- What a RECLAIM leaves (R159, R160, R157). -/
theorem State.reclaimHolding_eq (s : State) (number : Nat) (k : Holding) :
    s.reclaimHolding number k = (s.reclaimed number k).closeIfEmptied := rfl

/-- A RECLAIM does not look at what a request's taking changes. -/
theorem State.reclaimHolding_amid (s : State) (h : HostLink) (q : CyclePhase) (x : Option TrunkSending) (b : Bool)
    (number : Nat) (k : Holding) :
    (s.amid h q x b).reclaimHolding number k = (s.reclaimHolding number k).amid h q x b :=
  (s.reclaimed number k).closeIfEmptied_amid h q x b

/-- Settles O47: the checks in order, then the conversion. -/
theorem reclaimTaken : Obligations.ReclaimTaken := by
  intro s number epoch seq e h hremote hpos hkeyed hheld leads a reclaimed
  obtain ⟨hclaims, hholdings, -⟩ := hkeyed
  have hlead : ∀ u r, s.Beside u → (∀ h q x b, takeReclaim e [] (s.amid h q x b) = (u.amid h q x b, r)) → leads u r := by
    intro u r hu ho
    have howner : stationOwner .reclaim e [] s.enterPortion =
        some (u.amid s.hlk s.heard.csq.phase s.heard.tpt.sending false, r) := congrArg some (ho _ _ _ _)
    have hexec := State.executeStation_owner (s := s.enterPortion) hremote howner
    have hframe := State.stationFrame_beside h hu hexec
    show outcome (requestBodyFits []) (s.stationFrame number epoch seq Kind.reclaim.code []) = _
    rw [hframe]
    rfl
  have htake : ∀ h q x b, takeReclaim e [] (s.amid h q x b) =
      if (s.rst.rightsOf (.station e.tag)).claim = false then (s.amid h q x b, ⟨.notPermitted, []⟩)
      else match s.lgr.holding? e.tag with
        | none => (s.amid h q x b, ⟨.notHeld, be16 a.claimed⟩)
        | some k => ((s.reclaimHolding e.number k).amid h q x b,
          ⟨.done, be16 k.units ++ [byteOf (channelCount k.channels), byteOf k.streams.length, k.epoch]⟩) := by
    intro h q x b
    show (if (!(s.rst.rightsOf (.station e.tag)).claim) = true then _ else _) = _
    simp only [Bool.not_eq_true', State.reclaimHolding_amid, State.amid_lgr]
    rfl
  by_cases h1 : (s.rst.rightsOf (.station e.tag)).claim = false
  · rw [if_pos h1]
    exact hlead _ _ .rfl (fun h q x b => by rw [htake, if_pos h1])
  rw [if_neg h1]
  by_cases h2 : ∀ k ∈ s.lgr.holdings, k.tag ≠ e.tag
  · rw [if_pos h2]
    have hnone : s.lgr.holding? e.tag = none := List.find?_eq_none.2 (fun k hk => by simpa using h2 k hk)
    exact hlead _ _ .rfl (fun h q x b => by rw [htake, if_neg h1, hnone])
  rw [if_neg h2]
  intro k hk hke
  have hfound : s.lgr.holding? e.tag = some k := hke ▸ find?_of_mem Holding.tag k _ hholdings hk
  obtain ⟨hhost, hunits, hchannels, hholds, hrecord⟩ := Ledger.update_ensured hclaims e.tag
    (fun x => x.takeHolding k s.streams)
  have hbody : s.offer .reclaimed (s.reclaimedBody e.number k) = reclaimed k := by
    refine congrArg (s.offer .reclaimed) ?_
    unfold State.reclaimedBody countedList
    rw [show (fun x : HeldStream => [byteOf x.id, optionalCode SavedState.code ((s.stream? x.id).bind
      (fun r => r.state.saved?))]) = fun x => [byteOf x.id, s.savedByte x.id] from
        funext (fun x => by rw [State.savedByte_eq])]
  obtain ⟨bound, hbound⟩ : ∃ bound, bound = (a.takeHolding k s.streams).bound := ⟨_, rfl⟩
  have hperm : bound.Perm (a.bound ++ k.streams.map (fun x =>
      (((s.stream? x.id).map StreamRecord.channel).getD 0, x.id))) := by
    rw [hbound]
    refine bindAll_perm s.streams k.streams a.bound (fun x hx => ?_)
    obtain ⟨r, hr, hrx, -⟩ := hheld k hk x hx
    exact State.stream?_isSome.2 ⟨r, hr, hrx⟩
  have haccount : a.takeHolding k s.streams = ⟨a.claimed + k.units, a.committed + (k.streams.map HeldStream.charge).sum,
      a.held ||| k.channels, bound⟩ := by rw [hbound]; rfl
  have hbeside : s.Beside (s.reclaimHolding e.number k) := by
    refine .of_amid (s.reclaimHolding_amid s.hlk s.csq.phase s.tpt.sending s.tpt.edge e.number k) ?_
    simp [State.reclaimHolding_eq, State.reclaimed]
  refine ⟨s.reclaimHolding e.number k, bound, hperm, hlead _ _ hbeside (fun h q x b => ?_), ?_⟩
  · rw [htake, if_neg h1, hfound]
  rw [State.reclaimHolding_eq]
  have hleft : (s.reclaimed e.number k).lgr.holdings = s.lgr.holdings.filter (fun x => x.tag != e.tag) := by
    show List.eraseP (fun x => x.tag == k.tag) (Ledger.update _ _ _).holdings = _
    rw [hke, hholds, eraseP_eq_filter Holding.tag e.tag _ hholdings]
  have hcond : ((s.reclaimed e.number k).rcu.isOpen && (s.reclaimed e.number k).lgr.holdings.isEmpty) = true ↔
      s.rcu.isOpen = true ∧ s.lgr.holdings = [k] := by
    rw [Bool.and_eq_true, List.isEmpty_iff, hleft, ← hke, Ledger.holdings_emptied hholdings hk]
    exact Iff.rfl
  obtain ⟨hcsq, hcfg, hlgr, hstreams, hstg, hsvw, hrst, htpt, hhlk, hpending⟩ := (s.reclaimed e.number k).closeIfEmptied_frame
  have hconvert : (s.reclaimed e.number k).lgr = { (s.lgr.ensure (.station e.tag)).update (.station e.tag)
        (fun x => x.takeHolding k s.streams) with
      holdings := (s.reclaimed e.number k).lgr.holdings
      revision := ((s.lgr.ensure (.station e.tag)).update (.station e.tag)
        (fun x => x.takeHolding k s.streams)).revision + 1 } := by rw [← hke]; rfl
  refine ⟨by rw [hlgr, hconvert]; exact hhost, by rw [hlgr, hconvert]; exact hunits,
    by rw [hlgr, hconvert]; exact hchannels, by rw [hlgr, hleft], ?_, by rw [hstreams]; rfl, ?_, ?_, hcsq, hcfg, hstg,
    hsvw, hrst, htpt, hhlk, hpending⟩
  · intro account
    rw [hlgr, hconvert]
    have haccount : account = (s.lgr.account (.station e.tag)).takeHolding k s.streams := haccount.symm
    by_cases hex : ∃ c ∈ s.lgr.claims, c.tag = e.tag
    · rw [if_pos hex] at hrecord ⊢
      rw [haccount]
      exact ⟨hrecord.1, by rw [hrecord.2]⟩
    · rw [if_neg hex] at hrecord ⊢
      rw [haccount]
      exact ⟨hrecord.1, by rw [hrecord.2, add_assoc]; rfl⟩
  · unfold State.closeIfEmptied
    by_cases hc : s.rcu.isOpen = true ∧ s.lgr.holdings = [k]
    · rw [if_pos (hcond.2 hc), if_pos hc]
      rfl
    · rw [if_neg (fun h => hc (hcond.1 h)), if_neg hc]
      rfl
  · unfold State.closeIfEmptied
    have hoffered : (s.reclaimed e.number k).rpu = (reclaimed k).rpu := by rw [← hbody]; rfl
    by_cases hc : s.rcu.isOpen = true ∧ s.lgr.holdings = [k]
    · rw [if_pos (hcond.2 hc), if_pos hc]
      unfold State.offer
      rw [hoffered]
      rfl
    · rw [if_neg (fun h => hc (hcond.1 h)), if_neg hc, hoffered]

end Sys2Proof.Machine
end

section
/-! SUPPORT. Numbers for tags (7.2, 7.3): ROLL_ANSWER and JOIN. -/

namespace Sys2Proof.Machine

/-- The first match is erased by any condition that holds of the same elements. -/
theorem eraseP_congr {α : Type} {p q : α → Bool} {l : List α} (h : ∀ x ∈ l, p x = q x) : l.eraseP p = l.eraseP q := by
  induction l with
  | nil => rfl
  | cons a l ih =>
    rw [List.eraseP_cons, List.eraseP_cons, h a (List.mem_cons_self ..), ih (fun x hx => h x (List.mem_cons_of_mem _ hx))]

/-! ### The number (R136) -/

/-- With fewer than 24 entries a number of 1 to 24 is free, and the lowest such is found. -/
theorem Roster.lowestFree_some {r : Roster} (h : r.stations.length < 24) : ∃ n, r.lowestFree = some n ∧ 1 ≤ n ∧ n ≤ 24 ∧
    (∀ e ∈ r.stations, e.number ≠ n) ∧ ∀ m, 1 ≤ m → m < n → ∃ e ∈ r.stations, e.number = m := by
  have hfree (n : Nat) : r.isFree n = true ↔ ∀ e ∈ r.stations, e.number ≠ n := by simp [Roster.isFree]
  cases hl : r.lowestFree with
  | none =>
    exfalso
    have hall : ∀ n ∈ List.range' 1 24, n ∈ r.stations.map Station.number := by
      intro n hn
      have := List.find?_eq_none.1 hl n hn
      rw [hfree] at this
      push Not at this
      obtain ⟨e, he, hen⟩ := this
      exact List.mem_map.2 ⟨e, he, hen⟩
    have := ((List.nodup_range' (s := 1) (n := 24)).subperm hall).length_le
    simp only [List.length_range', List.length_map] at this
    omega
  | some n =>
    obtain ⟨hn, before, after, hsplit, hbefore⟩ := List.find?_eq_some_iff_append.1 hl
    have hmem := List.mem_of_find?_eq_some hl
    simp only [List.mem_range'_1] at hmem
    refine ⟨n, rfl, by omega, Nat.le_of_lt_succ (by have := hmem.2; simpa [Config.rosterRoom, Nat.add_comm] using this), (hfree n).1 hn, fun m h1 hm => ?_⟩
    have hm' : m ∈ before := by
      have hin : m ∈ List.range' 1 Config.rosterRoom := List.mem_range'_1.2 ⟨h1, by omega⟩
      have hsorted := List.pairwise_lt_range' (s := 1) (n := Config.rosterRoom)
      rw [hsplit] at hin hsorted
      rcases List.mem_append.1 hin with hin | hin
      · exact hin
      · exfalso
        have hge := (List.pairwise_append.1 hsorted).2.1
        rcases List.mem_cons.1 hin with rfl | hin
        · omega
        · have := (List.pairwise_cons.1 hge).1 m hin
          omega
    have := hbefore m hm'
    rw [Bool.not_eq_true', ← Bool.not_eq_true, hfree] at this
    push Not at this
    exact this

/-- The number that a tag without one is given, while the roster has room (R136). -/
theorem Roster.numberFor_given {s : State} (hn : (s.rst.known.map Known.tag).Nodup) (hroster : s.rosterInPlace)
    (hroom : s.rst.stations.length < 24) (t : Tag) : s.rst.numberGiven t (s.rst.numberFor t) := by
  obtain ⟨n, hlowest, h1, h24, hnone, hlower⟩ := Roster.lowestFree_some hroom
  obtain ⟨-, -, hlast⟩ := hroster
  have hfree (n : Nat) : s.rst.isFree n = true ↔ ∀ e ∈ s.rst.stations, e.number ≠ n := by simp [Roster.isFree]
  have hknown {k : Known} (hk : k ∈ s.rst.known) (hkt : k.tag = t) : s.rst.knownOf t = some k :=
    hkt ▸ Roster.knownOf_of_mem hn hk
  unfold Roster.numberFor
  rw [if_neg (show ¬ Config.rosterRoom ≤ s.rst.stations.length from Nat.not_le.2 hroom)]
  cases hrec : (s.rst.knownOf t).bind Known.last with
  | none =>
    simp only [hlowest, Option.getD_some]
    refine ⟨⟨h1, h24⟩, hnone, .inr ⟨fun k hk hkt m hm => ?_, hlower⟩⟩
    rw [hknown hk hkt, Option.bind_some, hm] at hrec
    exact absurd hrec nofun
  | some l =>
    obtain ⟨k, hk, hkl⟩ := Option.bind_eq_some_iff.1 hrec
    have hmem := List.mem_of_find?_eq_some hk
    have hkt : k.tag = t := by simpa using List.find?_some hk
    simp only
    by_cases hl : s.rst.isFree l = true
    · rw [if_pos hl]
      exact ⟨hlast k hmem l hkl, (hfree l).1 hl, .inl ⟨k, hmem, hkt, hkl⟩⟩
    · rw [if_neg hl, hlowest, Option.getD_some]
      refine ⟨⟨h1, h24⟩, hnone, .inr ⟨fun k' hk' hkt' m hm => ?_, hlower⟩⟩
      have hsame : k' = k := by
        have := hknown hk' hkt'
        rw [hk] at this
        exact (Option.some.inj this).symm
      rw [hsame, hkl] at hm
      obtain rfl := Option.some.inj hm
      rw [hfree] at hl
      push Not at hl
      exact hl

/-! ### The entry (R136) -/

/-- A new entry stands between those of lower and those of higher numbers (R141). -/
theorem insertBy_number (e : Station) (l : List Station) (h : (l.map Station.number).Pairwise (· < ·))
    (hne : ∀ x ∈ l, x.number ≠ e.number) : insertBy (fun a b => a.number < b.number) e l =
      l.filter (fun x => x.number < e.number) ++ [e] ++ l.filter (fun x => e.number < x.number) := by
  induction l with
  | nil => rfl
  | cons a l ih =>
    obtain ⟨hfirst, hrest⟩ := List.pairwise_cons.1 (List.map_cons ▸ h)
    have hafter : ∀ x ∈ l, a.number < x.number := fun x hx => hfirst _ (List.mem_map_of_mem hx)
    unfold insertBy
    by_cases hlt : a.number < e.number
    · rw [if_pos (by simpa using hlt), ih hrest (fun x hx => hne x (List.mem_cons_of_mem _ hx)),
        List.filter_cons_of_pos (by simpa using hlt), List.filter_cons_of_neg (by simp; omega)]
      rfl
    · have hea : e.number < a.number := by have := hne a (List.mem_cons_self ..); omega
      have hlow : (a :: l).filter (fun x => x.number < e.number) = [] := by
        refine List.filter_eq_nil_iff.2 (fun x hx => ?_)
        rcases List.mem_cons.1 hx with rfl | hx
        · simpa using hlt
        · have := hafter x hx; simp; omega
      have hhigh : (a :: l).filter (fun x => e.number < x.number) = a :: l := by
        refine List.filter_eq_self.2 (fun x hx => ?_)
        rcases List.mem_cons.1 hx with rfl | hx
        · simpa using hea
        · have := hafter x hx; simp; omega
      rw [if_neg (by simpa using hlt), hlow, hhigh]
      rfl

/-- A tag without an entry is numbered as R136 says. -/
theorem State.numberStation_eq {s : State} (hkeyed : s.keyed) (hroster : s.rosterInPlace) {t : Tag}
    (hroom : s.rst.stations.length < 24) : ∃ n, s.rst.numberGiven t n ∧ n ≠ 0 ∧
      s.numberStation t = ({ s with rst := s.numbered t n }, n) := by
  obtain ⟨-, -, -, -, hn, -⟩ := hkeyed
  have hgiven := Roster.numberFor_given hn hroster hroom t
  have hzero : s.rst.numberFor t ≠ 0 := by have := hgiven.1.1; omega
  refine ⟨_, hgiven, hzero, ?_⟩
  unfold State.numberStation
  simp only
  rw [if_neg hzero]
  refine Prod.ext (congrArg (fun r => { s with rst := r }) ?_) rfl
  obtain ⟨-, hfree, -⟩ := hgiven
  generalize s.rst.numberFor t = n at *
  have hstations : insertBy (fun a b => a.number < b.number) (newStation n t s.rst.epoch s.csq.cycleNumber) s.rst.stations =
      s.rst.stations.filter (fun e => e.number < n) ++ [newStation n t s.rst.epoch s.csq.cycleNumber]
        ++ s.rst.stations.filter (fun e => n < e.number) := insertBy_number _ _ hroster.1 hfree
  have hany : s.rst.known.any (fun k => k.tag == t) = (s.rst.knownOf t).isSome := by
    unfold Roster.knownOf
    rw [Bool.eq_iff_iff, List.find?_isSome, List.any_eq_true]
  unfold Roster.recordNumber State.numbered
  rw [hany]
  have hsame : (s.rst.addStation (newStation n t s.rst.epoch s.csq.cycleNumber)).knownOf t = s.rst.knownOf t := rfl
  rw [hsame]
  cases hk : s.rst.knownOf t with
  | some k =>
    simp only [Option.isSome_some, if_true]
    have hknown : s.rst.known.eraseP (fun x => x.tag == t) ++ [{ k with last := some n }] = s.rst.knownRecent t (some n) := by
      unfold Roster.knownRecent
      rw [filter_key_eq Known.tag t s.rst.known hn, eraseP_eq_filter Known.tag t _ hn,
        show s.rst.known.find? (fun k => k.tag == t) = some k from hk]
      rfl
    unfold Roster.addStation
    simp only [hknown, hstations]
    rfl
  | none =>
    simp only [Option.isSome_none, Bool.false_eq_true, if_false]
    have hnew : ∀ x ∈ s.rst.known, (s.rst.addStation (newStation n t s.rst.epoch s.csq.cycleNumber)).stations.any
        (fun e => e.tag == x.tag) = s.rst.stations.any (fun e => e.tag == x.tag) := by
      intro x hx
      have hxt : ¬ t = x.tag := fun h => by
        have := List.find?_eq_none.1 hk x hx
        simp [h] at this
      rw [Roster.addStation, hstations, Bool.eq_iff_iff]
      simp only [List.any_append, List.any_cons, List.any_nil, Bool.or_false, Bool.or_eq_true, List.any_eq_true,
        List.mem_filter, decide_eq_true_eq, newStation, beq_iff_eq, hxt, or_false]
      constructor
      · rintro (⟨e, ⟨he, -⟩, het⟩ | ⟨e, ⟨he, -⟩, het⟩) <;> exact ⟨e, he, het⟩
      · rintro ⟨e, he, het⟩
        rcases Nat.lt_or_gt_of_ne (hfree e he) with h | h
        · exact .inl ⟨e, ⟨he, h⟩, het⟩
        · exact .inr ⟨e, ⟨he, h⟩, het⟩
    have hlen : (s.rst.addStation (newStation n t s.rst.epoch s.csq.cycleNumber)).stations.length ≤ 24 := by
      have := (insertBy_perm (fun a b => decide (a.number < b.number)) (newStation n t s.rst.epoch s.csq.cycleNumber)
        s.rst.stations).length_eq
      simp only [List.length_cons] at this
      show (insertBy _ _ _).length ≤ 24
      omega
    rw [Roster.addKnown_eq (show ((s.rst.addStation _).known.map Known.tag).Nodup from hn) hlen]
    have herase : s.rst.known.eraseP (fun x => !(s.rst.addStation (newStation n t s.rst.epoch s.csq.cycleNumber)).stations.any
        (fun e => e.tag == x.tag)) = s.rst.known.eraseP (fun x => !s.rst.stations.any (fun e => e.tag == x.tag)) := by
      refine eraseP_congr (fun x hx => ?_)
      rw [hnew x hx]
    have hwith (k : Known) : (s.rst.addStation (newStation n t s.rst.epoch s.csq.cycleNumber)).knownWith k =
        s.rst.knownWith k := by
      unfold Roster.knownWith
      exact congrArg (fun l => (if s.rst.known.length < Config.knownRoom then s.rst.known else l) ++ [k]) herase
    rw [hwith]
    unfold Roster.addStation
    simp only [hstations]
    rfl

/-! ### The frames (R136, R137, R143) -/

/-- Stations may answer while the roll call waits for them (R135). -/
theorem State.answerPortion_iff (s : State) : s.answerPortion = true ↔ s.csq.partState = .starting ∧
    1 ≤ s.rst.rollPeriod ∧ s.tpt.share = none ∧ (s.tpt.sending = none ∨
      s.tpt.outbound = [] ∧ ∃ call period, s.tpt.sending = some (.rollCall call period)) := by
  have hcalling : s.tpt.isCalling = true ↔ ∃ call period, s.tpt.sending = some (.rollCall call period) := by
    unfold TrunkPort.isCalling
    split
    · next call period h => exact ⟨fun _ => ⟨call, period, h⟩, fun _ => rfl⟩
    · next hnone => exact ⟨nofun, fun ⟨call, period, h⟩ => absurd h (hnone call period)⟩
  unfold State.answerPortion
  simp only [Bool.and_eq_true, Bool.or_eq_true, beq_iff_eq, decide_eq_true_eq, Option.isNone_iff_eq_none,
    List.isEmpty_iff, hcalling, and_assoc, and_comm (a := s.tpt.outbound = [])]

/-- The number assigned joins the queue (R136). -/
theorem State.assign_eq (s : State) (t : Tag) (number : Nat) : s.assign t number = { s with
    tpt := { s.tpt with outbound := s.tpt.outbound ++ [.assign t number s.rst.epoch] } } := rfl

/-- A full roster has no number to give (R136). -/
theorem State.numberStation_full {s : State} (h : 24 ≤ s.rst.stations.length) (t : Tag) : s.numberStation t = (s, 0) := by
  have hzero : s.rst.numberFor t = 0 := by
    unfold Roster.numberFor
    exact if_pos (show Config.rosterRoom ≤ s.rst.stations.length from h)
  unfold State.numberStation
  simp only [hzero, if_true]

/-- Settles O40: the checks in order, then the number by the tag's standing. -/
theorem rollAnswerTaken : Obligations.RollAnswerTaken := by
  intro s t epoch hkeyed hroster leads heard assigned callSent answering
  obtain ⟨-, -, htags, -, hn, -⟩ := id hkeyed
  have hexec : exec (.rollAnswer t epoch) s = .next (State.transmit (s.takeRollAnswer t epoch)) := rfl
  have hiff : s.answerPortion = true ↔ answering := s.answerPortion_iff
  refine ⟨fun hnot => ?_, fun hanswering => ?_⟩
  · show exec _ _ = _
    rw [hexec]
    unfold State.takeRollAnswer
    rw [if_neg (fun h => hnot (hiff.1 h))]
  have hleads (u : State) (hu : s.takeRollAnswer t epoch = u) : leads u := hu ▸ hexec
  have htake : s.takeRollAnswer t epoch =
      if epoch = s.rst.epoch ∧ s.tpt.hasRoom then heard.answerRollCall t else heard := by
    unfold State.takeRollAnswer
    rw [if_pos (hiff.2 hanswering)]
    rfl
  have hroom : s.tpt.hasRoom = true ↔ ¬ 32 ≤ s.tpt.outbound.length :=
    decide_eq_true_iff.trans Nat.not_le.symm
  by_cases hrefused : epoch ≠ s.rst.epoch ∨ 32 ≤ s.tpt.outbound.length
  · rw [if_pos hrefused]
    refine hleads _ (htake.trans (if_neg (fun h => ?_)))
    rcases hrefused with hne | hfull
    · exact hne h.1
    · exact hroom.1 h.2 hfull
  rw [if_neg hrefused]
  push Not at hrefused
  obtain ⟨rfl, hlen⟩ := hrefused
  replace htake := htake.trans (if_pos ⟨rfl, hroom.2 (Nat.not_le.2 hlen)⟩)
  unfold State.answerRollCall at htake
  by_cases hex : ∃ e ∈ s.rst.stations, e.tag = t
  · rw [if_pos hex]
    intro e he het
    have hby : heard.rst.byTag t = some e := het ▸ Roster.byTag_of_mem htags he
    rw [hby] at htake
    refine hleads _ (htake.trans ?_)
    show State.assign { heard with rst := s.rst.touch e.tag } e.tag e.number = _
    rw [Roster.touch_eq hn, State.assign_eq, het]
  rw [if_neg hex]
  have hby : heard.rst.byTag t = none := Roster.byTag_none (fun e he het => hex ⟨e, he, het⟩)
  rw [hby] at htake
  by_cases hfull : 24 ≤ s.rst.stations.length
  · rw [if_pos hfull]
    refine hleads _ (htake.trans ?_)
    simp only [State.numberStation_full (s := heard) hfull]
    rfl
  rw [if_neg hfull]
  obtain ⟨n, hgiven, -, hnumber⟩ := State.numberStation_eq (s := heard) hkeyed hroster (t := t) (Nat.not_le.1 hfull)
  refine ⟨n, hgiven, hleads _ (htake.trans ?_)⟩
  simp only [hnumber]
  rfl

/-- Settles O41: the checks in order, then the number by the tag's standing. -/
theorem joinTaken : Obligations.JoinTaken := by
  intro s t epoch hkeyed hroster leads heard assigned
  obtain ⟨-, -, htags, -, hn, -⟩ := id hkeyed
  have hexec : exec (.join t epoch) s = .next (State.transmit (s.takeJoin t epoch)) := rfl
  have hleads (u : State) (hu : s.takeJoin t epoch = u) : leads u := hu ▸ hexec
  by_cases hopen : s.stationPortion = false
  · rw [if_pos hopen]
    refine hleads _ ?_
    unfold State.takeJoin
    rw [if_neg (by rw [hopen]; exact nofun)]
  rw [if_neg hopen]
  have htake : s.takeJoin t epoch = if epoch = s.rst.epoch ∧ s.tpt.hasRoom then heard.joinStation t else heard := by
    unfold State.takeJoin
    rw [if_pos (by simpa using hopen)]
    rfl
  have hroom : s.tpt.hasRoom = true ↔ ¬ 32 ≤ s.tpt.outbound.length :=
    decide_eq_true_iff.trans Nat.not_le.symm
  by_cases hrefused : epoch ≠ s.rst.epoch ∨ 32 ≤ s.tpt.outbound.length
  · rw [if_pos hrefused]
    refine hleads _ (htake.trans (if_neg (fun h => ?_)))
    rcases hrefused with hne | hfull
    · exact hne h.1
    · exact hroom.1 h.2 hfull
  rw [if_neg hrefused]
  push Not at hrefused
  obtain ⟨rfl, hlen⟩ := hrefused
  replace htake := htake.trans (if_pos ⟨rfl, hroom.2 (Nat.not_le.2 hlen)⟩)
  unfold State.joinStation at htake
  by_cases hex : ∃ e ∈ s.rst.stations, e.tag = t
  · rw [if_pos hex]
    intro e he het
    have hby : heard.rst.byTag t = some e := het ▸ Roster.byTag_of_mem htags he
    rw [hby] at htake
    simp only [Station.isPresent, beq_iff_eq] at htake
    by_cases hpresent : e.state = .present
    · rw [if_pos hpresent] at htake ⊢
      refine hleads _ (htake.trans ?_)
      show State.assign { heard with rst := s.rst.touch e.tag } e.tag e.number = _
      rw [Roster.touch_eq hn, State.assign_eq, het]
      rfl
    · rw [if_neg hpresent] at htake ⊢
      exact hleads _ htake
  rw [if_neg hex]
  have hby : heard.rst.byTag t = none := Roster.byTag_none (fun e he het => hex ⟨e, he, het⟩)
  rw [hby] at htake
  by_cases hfull : 24 ≤ s.rst.stations.length
  · rw [if_pos hfull]
    refine hleads _ (htake.trans ?_)
    simp only [State.numberStation_full (s := heard) hfull, if_true]
    rfl
  rw [if_neg hfull]
  obtain ⟨n, hgiven, hzero, hnumber⟩ := State.numberStation_eq (s := heard) hkeyed hroster (t := t) (Nat.not_le.1 hfull)
  refine ⟨n, hgiven, hleads _ (htake.trans ?_)⟩
  have hholding : (s.lgr.holding? t).isSome = s.lgr.holdings.any (fun h => h.tag == t) := by
    unfold Ledger.holding?
    rw [Bool.eq_iff_iff, List.find?_isSome, List.any_eq_true]
  simp only [hnumber, if_neg hzero, State.joinedBody]
  rw [← hholding]
  rfl

end Sys2Proof.Machine
end

section
/-! SUPPORT. CONFIGURE (R9, R10). -/

namespace Sys2Proof.Machine

/-! ### Fields (R8, R201) -/

/-- A field is legal exactly if it can be carried and its value is in its range (R8). -/
theorem ConfigField.legal_iff (f : ConfigField) : f.legal ↔ f.encodable ∧ f.inRange = true := by
  obtain ⟨id, v⟩ := f
  have hmax : Config.budgetMax = 1792 := rfl
  simp only [ConfigField.legal, ConfigField.encodable, ConfigField.inRange, List.mem_cons, List.not_mem_nil, or_false]
  by_cases hid : id ∈ [1, 2, 3, 4, 5, 6, 7]
  · simp only [List.mem_cons, List.not_mem_nil, or_false] at hid
    rcases hid with rfl | rfl | rfl | rfl | rfl | rfl | rfl <;> simp <;> omega
  · simp only [List.mem_cons, List.not_mem_nil, or_false, not_or] at hid
    obtain ⟨h1, h2, h3, h4, h5, h6, h7⟩ := hid
    simp [h1, h2, h3, h4, h5, h6, h7]

/-- The value carried for a field, where each is carried once. -/
theorem fieldValue_of_mem {fields : List ConfigField} (hn : (fields.map ConfigField.field).Nodup) {f : ConfigField}
    (hf : f ∈ fields) : fieldValue fields f.field = some f.value :=
  congrArg (Option.map ConfigField.value) (find?_of_mem ConfigField.field f fields hn hf)

/-- A value of the record, as the field of one identifier sets it and no other does, is the one carried, if it is (R9). -/
theorem foldl_set {α : Type} (get : ConfigRecord → α) (k : Nat) (g : Nat → α) : ∀ (fields : List ConfigField)
    (c : ConfigRecord), (fields.map ConfigField.field).Nodup →
    (∀ f ∈ fields, ∀ c : ConfigRecord, get (c.set f) = if f.field = k then g f.value else get c) →
    get (fields.foldl ConfigRecord.set c) = ((fieldValue fields k).map g).getD (get c) := by
  intro fields
  induction fields with
  | nil => intro c _ _; rfl
  | cons f l ih =>
    intro c hn hset
    obtain ⟨hnew, hn⟩ := List.nodup_cons.1 hn
    rw [List.foldl_cons, ih (c.set f) hn (fun x hx => hset x (List.mem_cons_of_mem _ hx)),
      hset f (List.mem_cons_self ..)]
    by_cases hk : f.field = k
    · have hnone : fieldValue l k = none := by
        unfold fieldValue
        rw [List.find?_eq_none.2 (fun x hx => ?_)]
        · rfl
        · have : x.field ≠ k := fun h => hnew (hk ▸ h ▸ List.mem_map_of_mem hx)
          simpa using this
      rw [if_pos hk, hnone]
      simp [fieldValue, hk]
    · rw [if_neg hk]
      simp [fieldValue, hk]

/-! What each field sets (R8). -/

theorem ConfigRecord.set_budget (c : ConfigRecord) (f : ConfigField) :
    (c.set f).budget = if f.field = 1 then f.value else c.budget := by
  unfold ConfigRecord.set
  split <;> simp_all

theorem ConfigRecord.set_reclaimWindow (c : ConfigRecord) (f : ConfigField) :
    (c.set f).reclaimWindow = if f.field = 2 then f.value else c.reclaimWindow := by
  unfold ConfigRecord.set
  split <;> simp_all

theorem ConfigRecord.set_vacancyLimit (c : ConfigRecord) (f : ConfigField) :
    (c.set f).vacancyLimit = if f.field = 3 then f.value else c.vacancyLimit := by
  unfold ConfigRecord.set
  split <;> simp_all

theorem ConfigRecord.set_commitLimit (c : ConfigRecord) (f : ConfigField) :
    (c.set f).commitLimit = if f.field = 4 then f.value else c.commitLimit := by
  unfold ConfigRecord.set
  split <;> simp_all

theorem ConfigRecord.set_remoteRequests (c : ConfigRecord) (f : ConfigField) :
    (c.set f).remoteRequests = if f.field = 5 then decide (f.value = 1) else c.remoteRequests := by
  unfold ConfigRecord.set
  split <;> simp_all
  rfl

theorem ConfigRecord.set_defaultRights (c : ConfigRecord) (f : ConfigField) : (c.set f).defaultRights =
    if f.field = 6 then (Rights.ofByte (byteOf f.value)).getD c.defaultRights else c.defaultRights := by
  unfold ConfigRecord.set
  split <;> simp_all

theorem ConfigRecord.set_reportMask (c : ConfigRecord) (f : ConfigField) :
    (c.set f).reportMask = if f.field = 7 then BitVec.ofNat 12 f.value else c.reportMask := by
  unfold ConfigRecord.set
  split <;> simp_all

/-- Rights of three bits (R201). -/
theorem rightsOf_three {v : Nat} (h : v ≤ 7) :
    Rights.ofByte (byteOf v) = some ⟨v.testBit 0, v.testBit 1, v.testBit 2⟩ := by
  interval_cases v <;> rfl

/-! ### The reading and the checks (R9, R202) -/

/-- The bytes of fields that can be carried are read as the fields. -/
theorem configPairs_bytes {fields : List ConfigField} (h : ∀ f ∈ fields, f.encodable) :
    configPairs (fields.map ConfigField.bytes).flatten = (fields, .complete) := by
  have := configPairs_append fields h []
  rw [List.append_nil] at this
  rw [this]
  unfold configPairs
  rw [List.append_nil]

/-- A field cut short, a flag above 1 or rights above 7 fail decoding (R202). -/
theorem configPairs_undecodable {id : Byte} {rest : List Byte}
    (h : (id.toNat ∈ [1, 2, 7] ∧ rest.length < 2) ∨ (id.toNat ∈ [3, 4, 5, 6] ∧ rest = []) ∨
      (id.toNat = 5 ∧ 1 < (rest.headD 0).toNat) ∨ (id.toNat = 6 ∧ 7 < (rest.headD 0).toNat)) :
    configPairs (id :: rest) = ([], .undecodable id) := by
  have hid (n : Nat) (h : id.toNat = n) : id = BitVec.ofNat 8 n := BitVec.eq_of_toNat_eq (by
    rw [h, BitVec.toNat_ofNat, Nat.mod_eq_of_lt]
    exact h ▸ id.isLt)
  rw [configPairs.eq_def]
  rcases h with ⟨hk, hlen⟩ | ⟨hk, rfl⟩ | ⟨hk, hv⟩ | ⟨hk, hv⟩
  · have h127 : id = 1 ∨ id = 2 ∨ id = 7 := by
      simp only [List.mem_cons, List.not_mem_nil, or_false] at hk
      exact hk.imp (hid 1) (Or.imp (hid 2) (hid 7))
    simp only [if_pos h127]
    match rest, hlen with
    | [], _ => rfl
    | [_], _ => rfl
  · have h3456 : id = 3 ∨ id = 4 ∨ id = 5 ∨ id = 6 := by
      simp only [List.mem_cons, List.not_mem_nil, or_false] at hk
      exact hk.imp (hid 3) (Or.imp (hid 4) (Or.imp (hid 5) (hid 6)))
    have h127 : ¬ (id = 1 ∨ id = 2 ∨ id = 7) := by
      rcases h3456 with rfl | rfl | rfl | rfl <;> decide
    simp only [if_neg h127, if_pos h3456]
  · obtain rfl := hid 5 hk
    match rest, hv with
    | [], hv => exact absurd hv (by decide)
    | v :: more, hv =>
      have hbad : configValueDecodes 5 v.toNat = false := decide_eq_false (Nat.not_le.2 hv)
      simp [hbad]
  · obtain rfl := hid 6 hk
    match rest, hv with
    | [], hv => exact absurd hv (by decide)
    | v :: more, hv =>
      have hbad : configValueDecodes 6 v.toNat = false := decide_eq_false (Nat.not_le.2 hv)
      simp [hbad]

/-- An identifier of no field ends the reading (R9). -/
theorem configPairs_unknown {id : Byte} (rest : List Byte) (h : id.toNat ∉ [1, 2, 3, 4, 5, 6, 7]) :
    configPairs (id :: rest) = ([], .unknown id) := by
  have hne : ∀ n : Byte, n.toNat ∈ [1, 2, 3, 4, 5, 6, 7] → id ≠ n := fun n hn heq => h (heq ▸ hn)
  rw [configPairs.eq_def]
  have h127 : ¬ (id = 1 ∨ id = 2 ∨ id = 7) := by
    rintro (rfl | rfl | rfl) <;> exact h (by decide)
  have h3456 : ¬ (id = 3 ∨ id = 4 ∨ id = 5 ∨ id = 6) := by
    rintro (rfl | rfl | rfl | rfl) <;> exact h (by decide)
  simp only [if_neg h127, if_neg h3456]

/-- A CONFIGURE that is refused leaves the state (R9). -/
theorem exec_configure_refused {s : State} {tag : Byte} (h : s.HostReady tag) {body : List Byte}
    {fields : List ConfigField} {how : ConfigEnd} {r : Reply} (hread : configPairs body = (fields, how))
    (hf : s.configureFailure fields how = some r) (hb : body.length ≤ 248) :
    exec (.configure tag body) s = .next (State.transmit (s.withHostReply .configure tag body r)) := by
  refine exec_hostBeside .configure body h rfl hb .rfl (fun h' p x b => ?_)
  show (fun x : State × Reply => some (x.1, some x.2)) (takeConfigure body (s.amid h' p x b)) = _
  have hamid : (s.amid h' p x b).configureFailure fields how = s.configureFailure fields how := rfl
  unfold takeConfigure
  simp only [hread, hamid, hf]

/-- Settles O15: what the body is read as, and the first check that fails. -/
theorem configureRefused : Obligations.ConfigureRefused := by
  intro s tag fields h henc refused body
  have hrefused {body : List Byte} {fields : List ConfigField} {how : ConfigEnd} {r : Reply}
      (hread : configPairs body = (fields, how)) (hf : s.configureFailure fields how = some r) : refused body r :=
    fun hb => exec_configure_refused h hread hf hb
  have hread : configPairs body = (fields, .complete) := configPairs_bytes henc
  have hbehind {id : Byte} {rest : List Byte} {how : ConfigEnd} (hend : configPairs (id :: rest) = ([], how)) :
      configPairs (body ++ id :: rest) = (fields, how) := by
    rw [configPairs_append fields henc, hend, List.append_nil]
  have hcomplete (hn : (fields.map ConfigField.field).Nodup) : firstRepeated [] fields = none :=
    (firstRepeated_eq_none [] fields).2 ⟨hn, fun _ _ => List.not_mem_nil⟩
  refine ⟨fun id rest hbad => hrefused (hbehind (configPairs_undecodable hbad)) rfl,
    fun before f after hsplit hn hrep => hrefused hread ?_, fun hn => ⟨fun id rest hbad => ?_,
      fun before f after hsplit hlegal hnot => hrefused hread ?_, fun hlegal b hb hused => hrefused hread ?_⟩⟩
  · have hfirst : firstRepeated [] fields = some f.field :=
      hsplit ▸ firstRepeated_at [] before after f hn (fun _ _ => List.not_mem_nil) (.inl hrep)
    unfold State.configureFailure
    simp only [hfirst]
  · refine hrefused (hbehind (configPairs_unknown rest hbad)) ?_
    unfold State.configureFailure
    simp only [hcomplete hn]
  · have hf : f.encodable := henc f (hsplit ▸ by simp)
    have hout : fields.find? (fun f => !f.inRange) = some f := by
      refine List.find?_eq_some_iff_append.2 ⟨?_, before, after, hsplit, fun g hg => ?_⟩
      · have : ¬ f.inRange = true := fun hr => hnot (f.legal_iff.2 ⟨hf, hr⟩)
        simpa using this
      · simpa using (g.legal_iff.1 (hlegal g hg)).2
    unfold State.configureFailure
    simp only [hcomplete hn, hout]
  · have hin : fields.find? (fun f => !f.inRange) = none :=
      List.find?_eq_none.2 (fun f hf => by simpa using (f.legal_iff.1 (hlegal f hf)).2)
    have hbudget : fieldValue fields 1 = some b := fieldValue_of_mem hn hb
    unfold State.configureFailure
    simp only [hcomplete hn, hin, hbudget]
    exact if_pos hused

/-- Seven fields of at most three bytes fit a request (R200). -/
theorem configBytes_length {fields : List ConfigField} (hn : (fields.map ConfigField.field).Nodup)
    (hlegal : ∀ f ∈ fields, f.legal) : (fields.map ConfigField.bytes).flatten.length ≤ 248 := by
  have hcount : fields.length ≤ 7 := by
    have hsub : fields.map ConfigField.field ⊆ [1, 2, 3, 4, 5, 6, 7] := by
      intro k hk
      obtain ⟨f, hf, rfl⟩ := List.mem_map.1 hk
      rcases hlegal f hf with h | h | h | h | h | h | h <;> rw [h.1] <;> decide
    simpa using (hn.subperm hsub).length_le
  have hthree : ∀ l : List ConfigField, (l.map ConfigField.bytes).flatten.length ≤ 3 * l.length := by
    intro l
    induction l with
    | nil => simp
    | cons f l ih =>
      have hf : f.bytes.length ≤ 3 := by
        unfold ConfigField.bytes
        split <;> simp [be16]
      simp only [List.map_cons, List.flatten_cons, List.length_append, List.length_cons]
      omega
  have := hthree fields
  omega

/-- Settles O14: the fields are read as they are, pass the checks, and set the record. -/
theorem configureSetsItsFields : Obligations.ConfigureSetsItsFields := by
  intro s tag fields h hn hlegal carried hbudget
  have henc : ∀ f ∈ fields, f.encodable := fun f hf => (f.legal_iff.1 (hlegal f hf)).1
  have hread := configPairs_bytes henc
  have hpassed : s.configureFailure fields .complete = none := by
    have hrepeat : firstRepeated [] fields = none := (firstRepeated_eq_none [] fields).2 ⟨hn, fun _ _ => List.not_mem_nil⟩
    have hin : fields.find? (fun f => !f.inRange) = none :=
      List.find?_eq_none.2 (fun f hf => by simpa using (f.legal_iff.1 (hlegal f hf)).2)
    unfold State.configureFailure
    simp only [hrepeat, hin]
    cases hc : fieldValue fields 1 with
    | none => rfl
    | some b => exact if_neg (Nat.not_lt.2 (hbudget b hc))
  have hmask : (fields.foldl ConfigRecord.set s.cfg).reportMask =
      ((carried 7).map (BitVec.ofNat 12)).getD s.cfg.reportMask :=
    foldl_set ConfigRecord.reportMask 7 (BitVec.ofNat 12) fields s.cfg hn (fun f _ c => c.set_reportMask f)
  have hnat (get : ConfigRecord → Nat) (k : Nat)
      (hset : ∀ (c : ConfigRecord) (f : ConfigField), get (c.set f) = if f.field = k then f.value else get c) :
      get (fields.foldl ConfigRecord.set s.cfg) = (carried k).getD (get s.cfg) := by
    have := foldl_set get k id fields s.cfg hn (fun f _ c => hset c f)
    rwa [Option.map_id_fun, id] at this
  refine ⟨fields.foldl ConfigRecord.set s.cfg, hnat _ 1 ConfigRecord.set_budget, hnat _ 2 ConfigRecord.set_reclaimWindow,
    hnat _ 3 ConfigRecord.set_vacancyLimit, hnat _ 4 ConfigRecord.set_commitLimit,
    foldl_set ConfigRecord.remoteRequests 5 (fun v => decide (v = 1)) fields s.cfg hn (fun f _ c => c.set_remoteRequests f),
    foldl_set ConfigRecord.defaultRights 6 (fun v => ⟨v.testBit 0, v.testBit 1, v.testBit 2⟩) fields s.cfg hn
      (fun f hf c => ?_), hmask, ?_⟩
  · rw [ConfigRecord.set_defaultRights]
    by_cases h6 : f.field = 6
    · have hv : f.value ≤ 7 := by
        have := hlegal f hf
        simp only [ConfigField.legal, h6] at this
        omega
      rw [if_pos h6, if_pos h6, rightsOf_three hv]
      rfl
    · rw [if_neg h6, if_neg h6]
  · have hview : (if (fieldValue fields 7).isSome then (fields.foldl ConfigRecord.set s.cfg).reportMask else s.rpu.mask) =
        ((carried 7).map (BitVec.ofNat 12)).getD s.rpu.mask := by
      rw [hmask]
      show (if (carried 7).isSome then _ else _) = _
      cases carried 7 <;> rfl
    refine exec_hostBeside .configure _ h rfl (configBytes_length hn hlegal) (.of_amid rfl rfl) (fun h' p x b => ?_)
    show (fun x : State × Reply => some (x.1, some x.2)) (takeConfigure _ (s.amid h' p x b)) = _
    have hamid : (s.amid h' p x b).configureFailure fields .complete = none := hpassed
    unfold takeConfigure
    simp only [hread, hamid]
    unfold State.configure
    simp only [State.amid_cfg]
    refine congrArg some (Prod.ext ?_ rfl)
    show State.amid { s with
      cfg := fields.foldl ConfigRecord.set s.cfg
      lgr := { s.lgr with
        freeUnits := s.lgr.freeUnits + (fields.foldl ConfigRecord.set s.cfg).budget - s.cfg.budget }
      rpu := { s.rpu with
        mask := if (fieldValue fields 7).isSome then (fields.foldl ConfigRecord.set s.cfg).reportMask else s.rpu.mask } }
      h' p x b = _
    rw [hview]

end Sys2Proof.Machine
end

section
/-! SUPPORT. Bodies that do not decode (R202). -/

namespace Sys2Proof.Machine

/-! ### Fixed layouts: a body of another length -/

theorem decodeNone_wrong {kind : Kind} {body : List Byte} (h : body.length ≠ 0) :
    decodeNone kind body = .error (lengthField kind [] body) := by
  unfold decodeNone
  split
  · exact absurd rfl h
  · rfl

theorem decodeByte_wrong {kind : Kind} {body : List Byte} (h : body.length ≠ 1) :
    decodeByte kind body = .error (lengthField kind [1] body) := by
  unfold decodeByte
  split
  · exact absurd rfl h
  · rfl

theorem decodeByteByte_wrong {kind : Kind} {body : List Byte} (h : body.length ≠ 2) :
    decodeByteByte kind body = .error (lengthField kind [1, 1] body) := by
  unfold decodeByteByte
  split
  · exact absurd rfl h
  · rfl

theorem decodeWord_wrong {kind : Kind} {body : List Byte} (h : body.length ≠ 2) :
    decodeWord kind body = .error (lengthField kind [2] body) := by
  unfold decodeWord
  split
  · exact absurd rfl h
  · rfl

theorem decodeWordWord_wrong {kind : Kind} {body : List Byte} (h : body.length ≠ 4) :
    decodeWordWord kind body = .error (lengthField kind [2, 2] body) := by
  unfold decodeWordWord
  split
  · exact absurd rfl h
  · rfl

theorem decodeByteWord_wrong {kind : Kind} {body : List Byte} (h : body.length ≠ 3) :
    decodeByteWord kind body = .error (lengthField kind [1, 2] body) := by
  unfold decodeByteWord
  split
  · exact absurd rfl h
  · rfl

theorem decodeTag_wrong {kind : Kind} {body : List Byte} (h : body.length ≠ 6) :
    decodeTag kind body = .error (lengthField kind [6] body) := by
  unfold decodeTag
  split
  · exact absurd rfl h
  · rfl

/-- The requests of fixed layout that both may send, with the sizes of their fields (12). -/
def plainParty : List (Kind × List Nat) :=
  [(.ledgerRead, []), (.exchangeUnits, [2, 2]), (.retire, [1]), (.resize, [1, 2]), (.suspend, [1]), (.resume, [1]),
   (.withdraw, [2]), (.streamRead, [1])]

/-- A request of another length than its layout's is answered and changes nothing, whoever sends it (R202). -/
theorem partyRequest_wrong (p : Party) (body : List Byte) (s : State) : ∀ x ∈ plainParty, body.length ≠ x.2.sum →
    partyRequest x.1 p body s = some (s, ⟨.badValue, [lengthField x.1 x.2 body]⟩) := by
  simp only [plainParty, List.forall_mem_cons]
  refine ⟨fun h => ?_, fun h => ?_, fun h => ?_, fun h => ?_, fun h => ?_, fun h => ?_, fun h => ?_, fun h => ?_, nofun⟩
  · simp only [partyRequest, takeLedgerRead, decodeNone_wrong h]
  · simp only [partyRequest, takeExchangeUnits, decodeWordWord_wrong h]
  · simp only [partyRequest, takeStreamEdit, decodeByte_wrong h]
  · simp only [partyRequest, takeResize, decodeByteWord_wrong h]
  · simp only [partyRequest, takeStreamEdit, decodeByte_wrong h]
  · simp only [partyRequest, takeStreamEdit, decodeByte_wrong h]
  · simp only [partyRequest, takeWithdraw, decodeWord_wrong h]
  · simp only [partyRequest, takeStreamRead, decodeByte_wrong h]

/-- The same of a host request. -/
theorem hostOwner_wrong (tag : Byte) (body : List Byte) (s : State) : ∀ row ∈ plainRows tag body,
    body.length ≠ row.sizes.sum →
    hostOwner row.kind tag body s = some (s, some ⟨.badValue, [lengthField row.kind row.sizes body]⟩) := by
  have hparty : ∀ x ∈ plainParty, body.length ≠ x.2.sum →
      hostOwner x.1 tag body s = some (s, some ⟨.badValue, [lengthField x.1 x.2 body]⟩) := by
    intro x hx h
    have hwrong := partyRequest_wrong .host body s x hx h
    rw [hostOwner_eq_partyRequest tag (Option.isSome_of_eq_some hwrong), hwrong]
    rfl
  simp only [plainParty, List.forall_mem_cons] at hparty
  obtain ⟨hledger, hunits, hretire, hresize, hsuspend, hresume, hwithdraw, hstream, -⟩ := hparty
  simp only [plainRows, List.forall_mem_cons]
  refine ⟨fun h => ?_, fun h => ?_, fun h => ?_, fun h => ?_, fun h => ?_, fun h => ?_, hledger, fun h => ?_, fun h => ?_,
    fun h => ?_, hunits, fun h => ?_, fun h => ?_, hretire, hresize, hsuspend, hresume, hwithdraw, hstream, fun h => ?_,
    nofun⟩
  · simp only [hostOwner, takeReadConfig, decodeNone_wrong h]
  · simp only [hostOwner, takeStart, decodeNone_wrong h]
  · simp only [hostOwner, takeHalt, decodeNone_wrong h]
  · simp only [hostOwner, takeReset, decodeNone_wrong h]
  · simp only [hostOwner, takeTrunkReset, decodeNone_wrong h]
  · simp only [hostOwner, takeStatus, decodeNone_wrong h]
  · simp only [hostOwner, takeFreeze, decodeNone_wrong h]
  · simp only [hostOwner, takeFreeze, decodeNone_wrong h]
  · simp only [hostOwner, takeStreamList, decodeNone_wrong h]
  · simp only [hostOwner, takeClaimList, decodeByte_wrong h]
  · simp only [hostOwner, takeDiscardHolding, decodeTag_wrong h]
  · simp only [hostOwner, takePlanRead, decodeByteByte_wrong h]

/-- The same of a station request. -/
theorem stationOwner_wrong (number epoch : Byte) (seq : BitVec 4) (e : Station) (body : List Byte) (s : State) :
    ∀ row ∈ plainStationRows number epoch seq body, body.length ≠ row.sizes.sum →
    stationOwner row.kind e body s = some (s, ⟨.badValue, [lengthField row.kind row.sizes body]⟩) := by
  have hparty : ∀ x ∈ plainParty, body.length ≠ x.2.sum →
      stationOwner x.1 e body s = some (s, ⟨.badValue, [lengthField x.1 x.2 body]⟩) := by
    intro x hx h
    have hwrong := partyRequest_wrong (.station e.tag) body s x hx h
    rw [stationOwner_eq_partyRequest (Option.isSome_of_eq_some hwrong), hwrong]
  simp only [plainParty, List.forall_mem_cons] at hparty
  obtain ⟨hledger, hunits, hretire, hresize, hsuspend, hresume, hwithdraw, hstream, -⟩ := hparty
  simp only [plainStationRows, List.forall_mem_cons]
  refine ⟨fun h => ?_, fun h => ?_, hledger, hunits, hretire, hresize, hsuspend, hresume, hwithdraw, hstream, nofun⟩
  · simp only [stationOwner, takeLeave, decodeNone_wrong h]
  · simp only [stationOwner, takeReclaim, decodeNone_wrong h]

/-- The rows are the requests of their kinds (entry 5). -/
theorem exec_plainRow (s : State) (tag : Byte) (body : List Byte) : ∀ row ∈ plainRows tag body,
    exec row.row s = outcome (hostBodyFits body) (s.hostRequest row.kind tag body) := by
  unfold plainRows
  iterate 20 refine List.forall_mem_cons.2 ⟨rfl, ?_⟩
  nofun

theorem exec_plainStationRow (s : State) (number epoch : Byte) (seq : BitVec 4) (body : List Byte) :
    ∀ row ∈ plainStationRows number epoch seq body,
      exec row.row s = outcome (requestBodyFits body) (s.stationFrame number epoch seq row.kind.code body) := by
  unfold plainStationRows
  iterate 10 refine List.forall_mem_cons.2 ⟨rfl, ?_⟩
  nofun

/-- A body that ends within a field is answered with that field's position, a longer one than the layout with the open
field number (R202, entry 9). -/
theorem lengthField_of {kind : Kind} {sizes : List Nat} {body : List Byte} {refused : Byte → Prop}
    (h : body.length ≠ sizes.sum → refused (lengthField kind sizes body)) :
    (∀ k < sizes.length, ((sizes.take k).sum ≤ body.length ∧ body.length < (sizes.take (k + 1)).sum) →
      refused (byteOf (k + 1))) ∧
    (sizes.sum < body.length → refused (Config.unnamedField kind.code)) := by
  refine ⟨fun k hk ⟨h1, h2⟩ => ?_, fun hlong => ?_⟩
  · have hle : (sizes.take (k + 1)).sum ≤ sizes.sum := (List.take_sublist (k + 1) sizes).sum_le_sum (fun _ _ => Nat.zero_le _)
    have hfield := h (by omega)
    unfold lengthField at hfield
    rw [shortField_of (p := 1) hk h1 h2, Nat.add_comm] at hfield
    exact hfield
  · have hfield := h (by omega)
    unfold lengthField at hfield
    rw [shortField_none (Nat.le_of_lt hlong)] at hfield
    exact hfield

/-- A request from a PRESENT station that its owner answers without an effect. -/
theorem stationFrame_answered {s : State} {number epoch : Byte} {seq : BitVec 4} {e : Station}
    (h : s.StationReady number epoch seq e) (kind : Kind) {body : List Byte} {r : Reply}
    (hremote : s.cfg.remoteRequests = true ∨ kind = .leave) (ho : ∀ u : State, stationOwner kind e body u = some (u, r)) :
    s.stationFrame number epoch seq kind.code body = s.withStationReply e seq kind.code r := by
  refine State.stationFrame_beside h .rfl ?_
  unfold State.executeStation
  rw [if_neg, Kind.ofCode_code, Option.bind_some, ho]
  · rfl
  · rintro ⟨hoff, hleave⟩
    rcases hremote with hon | rfl
    · rw [show s.enterPortion.cfg = s.cfg from rfl, hon] at hoff
      exact absurd hoff nofun
    · exact hleave rfl

/-! ### Requests that both may send -/

/-- A request that both may send and that its owner answers without an effect. -/
theorem exec_refusedParty {c : Instr} {s : State} {sender : Sender} {p : Party} (kind : Kind) (body : List Byte) {r : Reply}
    (h : s.SenderReady sender p) (hc : exec c s = outcome (bodyFits sender body) (s.request sender kind body))
    (hfits : bodyFits sender body = true) (ho : ∀ u : State, partyRequest kind p body u = some (u, r)) :
    exec c s = .next (State.transmit (s.withReply sender kind body r)) := by
  rw [hc, hfits, State.request_beside h .rfl (fun _ => rfl) (fun h q x b => ho _)]
  rfl

/-! ### ADMIT (entries 10, 16) -/

/-- The opening of an ADMIT's body is its presence byte and the owner, eight bytes (R89). -/
theorem decodeAdmit_short {body : List Byte} (h : body.length < 8) : decodeAdmit body = .error 1 := by
  unfold decodeAdmit
  split
  · next heq => simp at h; omega
  · rfl

/-- Behind the owner, a body ends within a field or is longer than the layout (R202). -/
theorem decodeAdmit_rest {x kind : Byte} {t : Tag} {rest : List Byte} (hx : ¬ 16 ≤ x.toNat)
    (howner : ¬ (x.getLsbD 0 = true ∧ ¬ (kind = 0 ∧ t = 0 ∨ kind = 1))) (hlen : rest.length ≠ 15) :
    decodeAdmit (x :: kind :: tagBytes t ++ rest) = .error (match shortField [6, 1, 2, 1, 1, 2, 2] rest.length 2 with
      | some pos => byteOf pos
      | none => Config.unnamedField Kind.admitStream.code) := by
  have hparty : ∃ o, (if x.getLsbD 0 then (partyOf kind t).map some else some none) = some o := by
    by_cases h0 : x.getLsbD 0 = true
    · rw [if_pos h0]
      have : kind = 0 ∧ t = 0 ∨ kind = 1 := by
        by_contra hnot
        exact howner ⟨h0, hnot⟩
      rcases this with ⟨rfl, rfl⟩ | rfl
      · exact ⟨_, rfl⟩
      · exact ⟨_, rfl⟩
    · exact ⟨none, if_neg h0⟩
  obtain ⟨o, ho⟩ := hparty
  simp only [tagBytes, List.cons_append, List.nil_append, decodeAdmit]
  rw [if_neg hx, tagOf_tagBytes, ho]
  simp only
  split
  · exact absurd rfl hlen
  · split <;> simp_all

/-- An owner that is no party, where one is present (R201, entry 16). -/
theorem decodeAdmit_owner {x kind : Byte} {t : Tag} {rest : List Byte} (hx : ¬ 16 ≤ x.toNat) (h0 : x.getLsbD 0 = true)
    (hparty : ¬ (kind = 0 ∧ t = 0 ∨ kind = 1)) : decodeAdmit (x :: kind :: tagBytes t ++ rest) = .error 1 := by
  have hnone : partyOf kind t = none := by
    unfold partyOf
    by_cases hk : kind = 0
    · rw [if_pos hk, if_neg (fun ht => hparty (.inl ⟨hk, ht⟩))]
    · rw [if_neg hk, if_neg (fun hk => hparty (.inr hk))]
  simp only [tagBytes, List.cons_append, List.nil_append, decodeAdmit]
  rw [if_neg hx, tagOf_tagBytes, if_pos h0, hnone]
  rfl

theorem decodeAdmit_presence {x kind : Byte} {t : Tag} {rest : List Byte} (hx : 16 ≤ x.toNat) :
    decodeAdmit (x :: kind :: tagBytes t ++ rest) = .error (Config.unnamedField Kind.admitStream.code) := by
  simp only [tagBytes, List.cons_append, List.nil_append, decodeAdmit]
  exact if_pos hx

/-! ### Channel sets (R201) -/

/-- What is read as a set names its channels (R201). -/
theorem takeSet_opens {l : List Byte} {x : BitVec 256} {more : List Byte} (h : takeSet l = some (x, more)) :
    ∃ b channels, b <+: l ∧ namesChannels b channels := by
  match l with
  | [] => exact absurd h nofun
  | form :: rest =>
    unfold takeSet at h
    by_cases h0 : form = 0
    · simp only [if_pos h0] at h
      match rest, h with
      | a :: b :: c :: d :: e :: more, h =>
        refine ⟨[0, a, b, c, d, e], (List.range 40).filter (fun k =>
          ([a, b, c, d, e].getD (k / 8) 0).getLsbD (k % 8)), ⟨more, by rw [h0]; rfl⟩, .inl ⟨a, b, c, d, e, rfl, fun k => ?_⟩⟩
        rw [List.mem_filter, List.mem_range]
    · simp only [if_neg h0] at h
      by_cases h1 : form = 1
      · simp only [if_pos h1] at h
        match rest, h with
        | count :: more, h =>
          simp only at h
          by_cases hc : count.toNat ≤ 40 ∧ count.toNat ≤ more.length
          · have hlen : (more.take count.toNat).length = count.toNat := by
              rw [List.length_take]
              omega
            refine ⟨1 :: count :: more.take count.toNat, (more.take count.toNat).map BitVec.toNat,
              ⟨more.drop count.toNat, ?_⟩, .inr ⟨more.take count.toNat, by omega, ?_, rfl⟩⟩
            · rw [h1]
              simp
            · rw [hlen]
              simp [byteOf]
          · rw [if_neg hc] at h
            exact absurd h nofun
      · rw [if_neg h1] at h
        exact absurd h nofun

theorem takeSet_none {l : List Byte} (h : ¬ ∃ b channels, b <+: l ∧ namesChannels b channels) : takeSet l = none := by
  cases hl : takeSet l with
  | none => rfl
  | some y => exact absurd (takeSet_opens (x := y.1) (more := y.2) hl) h

/-! ### Bytes of few values (entry 16) -/

theorem flagOf_none {b : Byte} (h : 1 < b.toNat) : flagOf b = none := by
  unfold flagOf
  rw [if_neg (fun h0 => by rw [h0] at h; simp at h), if_neg (fun h1 => by rw [h1] at h; simp at h)]

theorem flagOf_some {b : Byte} (h : ¬ 1 < b.toNat) : ∃ v, flagOf b = some v := by
  unfold flagOf
  by_cases h0 : b = 0
  · exact ⟨false, if_pos h0⟩
  · have h1 : b = 1 := by
      refine BitVec.eq_of_toNat_eq ?_
      have : b.toNat ≠ 0 := fun h => h0 (BitVec.eq_of_toNat_eq h)
      show b.toNat = 1
      omega
    exact ⟨true, by rw [if_neg h0, if_pos h1]⟩

theorem ofByte_none {b : Byte} (h : 7 < b.toNat) : Rights.ofByte b = none := if_neg (by omega)

theorem ofByte_some {b : Byte} (h : ¬ 7 < b.toNat) : ∃ v, Rights.ofByte b = some v := ⟨_, if_pos (by omega)⟩

/-- A ROSTER_READ whose list byte is bad or missing, whose index is missing, or which is too long (R148, R202). -/
theorem decodeRosterRead_wrong (body : List Byte) :
    if body = [] ∨ 1 < (body.headD 0).toNat then decodeRosterRead body = .error 1
    else if body.length = 1 then decodeRosterRead body = .error 2
    else 2 < body.length → decodeRosterRead body = .error (Config.unnamedField 0x30) := by
  match body with
  | [] => rfl
  | l :: rest =>
    by_cases hl : 1 < l.toNat
    · rw [if_pos (.inr hl)]
      unfold decodeRosterRead
      simp only [flagOf_none hl]
    · obtain ⟨v, hv⟩ := flagOf_some hl
      rw [if_neg (by rintro (h | h); exacts [absurd h nofun, hl h])]
      match rest with
      | [] =>
        rw [if_pos (show [l].length = 1 from rfl)]
        unfold decodeRosterRead
        simp only [hv]
      | [i] => rw [if_neg (by simp)]; exact fun h => absurd h (by simp)
      | i :: j :: more =>
        rw [if_neg (by simp)]
        intro _
        unfold decodeRosterRead
        simp only [hv]
        rfl

/-- A tag with a byte of few values behind it: cut short, of a value it cannot take, or too long (R202). -/
theorem decodeTagWith_wrong {α : Type} (kind : Kind) (take : Byte → Option α) (most : Nat)
    (hnone : ∀ b : Byte, most < b.toNat → take b = none) (hsome : ∀ b : Byte, ¬ most < b.toNat → ∃ v, take b = some v)
    (body : List Byte) :
    if body.length < 6 then decodeTagWith kind take body = .error 1
    else if body.length = 6 ∨ most < (body.getD 6 0).toNat then decodeTagWith kind take body = .error 2
    else 7 < body.length → decodeTagWith kind take body = .error (Config.unnamedField kind.code) := by
  by_cases hshort : body.length < 7
  · have hfield : decodeTagWith kind take body = .error (lengthField kind [6, 1] body) := by
      unfold decodeTagWith
      split
      · simp at hshort; omega
      · rfl
    by_cases h6 : body.length < 6
    · rw [if_pos h6, hfield]
      unfold lengthField
      rw [shortField_of (k := 0) (by simp) (by simp) (by simpa using h6)]
      rfl
    · rw [if_neg h6, if_pos (.inl (by omega)), hfield]
      unfold lengthField
      rw [shortField_of (k := 1) (by simp) (by simp; omega) (by simp; omega)]
      rfl
  · obtain ⟨a, b, c, d, e, f, g, rest, rfl⟩ : ∃ a b c d e f g rest, body = a :: b :: c :: d :: e :: f :: g :: rest := by
      match body, hshort with
      | a :: b :: c :: d :: e :: f :: g :: rest, _ => exact ⟨a, b, c, d, e, f, g, rest, rfl⟩
      | [], h | [_], h | [_, _], h | [_, _, _], h | [_, _, _, _], h | [_, _, _, _, _], h | [_, _, _, _, _, _], h =>
        exact absurd (by simp) h
    rw [if_neg (by simp)]
    by_cases hg : most < g.toNat
    · rw [if_pos (.inr hg)]
      simp only [decodeTagWith, hnone g hg]
    · obtain ⟨v, hv⟩ := hsome g hg
      rw [if_neg (by rintro (h | h); exacts [absurd h (by simp), hg h])]
      intro hlong
      match rest, hlong with
      | [], h => exact absurd h (by simp)
      | x :: more, _ => simp only [decodeTagWith, hv]

/-- Settles O12: the decoders of 12 on each of these bodies, and `State.stationFrame_beside`, `exec_hostBeside` and
`exec_refusedParty` for the answers. -/
theorem bodiesThatDoNotDecode : Obligations.BodiesThatDoNotDecode := by
  unfold Obligations.BodiesThatDoNotDecode
  intro short
  refine ⟨⟨fun s tag body h hb row hrow => ?_, fun s number epoch seq e body h hb row hrow hremote => ?_⟩,
    ⟨fun s sender p body h hfits => ?_, fun s sender p body h hfits => ?_⟩, fun s tag body h hb => ⟨?_, fun row hrow => ?_⟩⟩
  · intro refused
    refine lengthField_of (kind := row.kind) (refused := refused) (fun hlen => ?_)
    exact exec_hostBeside row.kind body h (exec_plainRow s tag body row hrow) hb .rfl
      (fun _ _ _ _ => hostOwner_wrong tag body _ row hrow hlen)
  · intro refused
    refine lengthField_of (kind := row.kind) (refused := refused) (fun hlen => ?_)
    show exec row.row s = _
    rw [exec_plainStationRow s number epoch seq body row hrow, requestBodyFits_of hb,
      stationFrame_answered h row.kind hremote (fun u => stationOwner_wrong number epoch seq e body u row hrow hlen)]
    rfl
  · intro refused
    have hrefused {f : Byte} (hd : decodeAdmit body = .error f) : refused f := by
      refine exec_refusedParty .admitStream body h rfl hfits (fun u => ?_)
      simp only [partyRequest, takeAdmit, hd]
    refine ⟨fun hlen => hrefused (decodeAdmit_short hlen), fun x kind t rest hbody => ?_⟩
    intro sizes
    rw [hbody] at hrefused
    by_cases hx : 16 ≤ x.toNat
    · rw [if_pos hx]
      exact hrefused (decodeAdmit_presence hx)
    rw [if_neg hx]
    by_cases howner : x.getLsbD 0 = true ∧ ¬ (kind = 0 ∧ t = 0 ∨ kind = 1)
    · rw [if_pos howner]
      exact hrefused (decodeAdmit_owner hx howner.1 howner.2)
    rw [if_neg howner]
    refine ⟨fun k hk hshort => ?_, fun hlong => ?_⟩
    · obtain ⟨h1, h2⟩ := hshort
      have hle : (sizes.take (k + 1)).sum ≤ 15 :=
        (List.take_sublist (k + 1) sizes).sum_le_sum (fun _ _ => Nat.zero_le _)
      have hrest := decodeAdmit_rest hx howner (rest := rest) (by omega)
      rw [shortField_of (p := 2) hk h1 h2, Nat.add_comm] at hrest
      exact hrefused hrest
    · have hrest := decodeAdmit_rest hx howner (rest := rest) (by omega)
      rw [shortField_none (by simpa using Nat.le_of_lt hlong)] at hrest
      exact hrefused hrest
  · intro refused opensWithSet
    have hrefused {f : Byte} (hd : decodeSets body = .error f) : refused f := by
      refine exec_refusedParty .exchangeChannels body h rfl hfits (fun u => ?_)
      simp only [partyRequest, takeExchangeChannels, hd]
    refine ⟨fun hnot => hrefused ?_, fun first channels rest hbody hfirst => ⟨fun hnot => hrefused ?_,
      fun second more surplus hrest hsecond hsurplus => hrefused ?_⟩⟩
    · unfold decodeSets
      simp only [takeSet_none hnot]
    · obtain ⟨x, hx, -⟩ := takeSet_of_namesChannels hfirst rest
      unfold decodeSets
      rw [hbody, hx]
      simp only [takeSet_none hnot]
    · obtain ⟨x, hx, -⟩ := takeSet_of_namesChannels hfirst rest
      obtain ⟨y, hy, -⟩ := takeSet_of_namesChannels hsecond surplus
      unfold decodeSets
      rw [hbody, hx]
      simp only
      rw [hrest, hy]
      match surplus, hsurplus with
      | [], hs => exact absurd rfl hs
      | _ :: _, _ => rfl
  · intro refused
    have hrefused {f : Byte} (hd : decodeRosterRead body = .error f) : refused f := by
      refine exec_hostBeside .rosterRead body h rfl hb .rfl (fun _ _ _ _ => ?_)
      simp only [hostOwner, takeRosterRead, hd]
    have hwrong := decodeRosterRead_wrong body
    split_ifs at hwrong ⊢ with h1 h2
    · exact hrefused hwrong
    · exact hrefused hwrong
    · exact fun hlong => hrefused (hwrong hlong)
  · intro refused
    have hrefused {kind : Kind} {most : Nat} {c : Instr} {α : Type} (take : Byte → Option α)
        (hnone : ∀ b : Byte, most < b.toNat → take b = none)
        (hsome : ∀ b : Byte, ¬ most < b.toNat → ∃ v, take b = some v)
        (hanswer : ∀ f, decodeTagWith kind take body = .error f →
          exec c s = .next (State.transmit (s.withHostReply kind tag body ⟨.badValue, [f]⟩))) :
        let refused (field : Byte) : Prop :=
          exec c s = .next (State.transmit (s.withHostReply kind tag body ⟨.badValue, [field]⟩))
        if body.length < 6 then refused 1
        else if body.length = 6 ∨ most < (body.getD 6 0).toNat then refused 2
        else 7 < body.length → refused (Config.unnamedField kind.code) := by
      intro refused
      have hwrong := decodeTagWith_wrong kind take most hnone hsome body
      split_ifs at hwrong ⊢ with h1 h2
      · exact hanswer _ hwrong
      · exact hanswer _ hwrong
      · exact fun hlong => hanswer _ (hwrong hlong)
    simp only [List.mem_cons, List.not_mem_nil, or_false] at hrow
    rcases hrow with rfl | rfl
    · refine hrefused Rights.ofByte (fun _ => ofByte_none) (fun _ => ofByte_some) (fun f hd => ?_)
      refine exec_hostBeside .setRights body h rfl hb .rfl (fun _ _ _ _ => ?_)
      simp only [hostOwner, takeSetRights, show decodeSetRights body = .error f from hd]
    · refine hrefused flagOf (fun _ => flagOf_none) (fun _ => flagOf_some) (fun f hd => ?_)
      refine exec_hostBeside .evict body h rfl hb .rfl (fun _ _ _ _ => ?_)
      simp only [hostOwner, takeEvict, show decodeEvict body = .error f from hd]

end Sys2Proof.Machine
end

section
/-! SUPPORT. A trunk reset's shares (7.1, 8.2): removals, departures, discards and the records kept. -/

namespace Sys2Proof.Machine

/-! ### The ledger -/

theorem Ledger.account_station (l : Ledger) (t : Tag) : l.account (.station t) =
    ((l.claims.find? (fun c => c.tag == t)).map StationClaim.account).getD .empty := rfl

/-- What the release of a claim record leaves of the accounts (R57). -/
theorem Ledger.account_releaseClaim {l : Ledger} (hn : (l.claims.map StationClaim.tag).Nodup) (t : Tag) (p : Party) :
    (l.releaseClaim t).account p = if p = .station t then .empty else l.account p := by
  rw [Ledger.releaseClaim_eq hn]
  cases p with
  | host => rfl
  | station q =>
    rw [Ledger.account_station]
    by_cases hq : q = t
    · subst hq
      rw [if_pos rfl, List.find?_eq_none.2 (fun c hc => by simpa using (List.mem_filter.1 hc).2)]
      rfl
    · rw [if_neg (show ¬ Party.station q = .station t from fun h => hq (Party.station.inj h)), List.find?_filter]
      have : (fun a : StationClaim => decide ((a.tag != t) = true ∧ (a.tag == q) = true)) = fun a => a.tag == q := by
        funext a
        by_cases haq : a.tag = q
        · simp [haq, hq]
        · simp [haq]
      rw [this]
      rfl

/-- The release of a record does not look at charges and bindings (R57). -/
theorem Ledger.Recharged.releaseClaim {P : Party → Prop} {l l' : Ledger} (h : l.Recharged P l')
    (hn : (l.claims.map StationClaim.tag).Nodup) (t : Tag) : (l.releaseClaim t).Recharged P (l'.releaseClaim t) := by
  have hn' : (l'.claims.map StationClaim.tag).Nodup := h.tags ▸ hn
  have hany : l'.claims.any (fun c => c.tag == t) = l.claims.any (fun c => c.tag == t) := by
    have := congrArg (fun x => x.any (fun y => y == t)) h.tags
    simpa [List.any_map, Function.comp_def] using this
  have htags : (l'.claims.filter (fun c => c.tag != t)).map StationClaim.tag =
      (l.claims.filter (fun c => c.tag != t)).map StationClaim.tag := by
    have := congrArg (fun x => x.filter (fun y => y != t)) h.tags
    simpa [List.filter_map, Function.comp_def] using this
  have haccount := Ledger.account_releaseClaim hn t
  have haccount' := Ledger.account_releaseClaim hn' t
  constructor
  · rw [Ledger.releaseClaim_eq hn, Ledger.releaseClaim_eq hn']
    simp only [h.freeUnits, h.claimed]
  · rw [Ledger.releaseClaim_eq hn, Ledger.releaseClaim_eq hn']
    simp only [h.freeChannels, h.held]
  · rw [Ledger.releaseClaim_eq hn, Ledger.releaseClaim_eq hn']
    exact h.holdings
  · rw [Ledger.releaseClaim_eq hn, Ledger.releaseClaim_eq hn']
    simp only [hany, h.revision]
  · rw [Ledger.releaseClaim_eq hn, Ledger.releaseClaim_eq hn']
    exact htags
  · intro p
    rw [haccount, haccount']
    split
    · rfl
    · exact h.claimed p
  · intro p
    rw [haccount, haccount']
    split
    · rfl
    · exact h.held p
  · intro p hp
    rw [haccount, haccount', h.others p hp]

/-- Released records leave unique tags. -/
theorem Ledger.releaseClaim_nodup {l : Ledger} (hn : (l.claims.map StationClaim.tag).Nodup) (t : Tag) :
    ((l.releaseClaim t).claims.map StationClaim.tag).Nodup := by
  rw [Ledger.releaseClaim_eq hn]
  exact hn.sublist (List.filter_sublist.map _)

/-! ### Departures (R145) -/

/-- The state with other records, another list of edits and another ledger. -/
def State.withBooks (s : State) (l : Ledger) (streams : List StreamRecord) (g : Staging) : State :=
  { s with lgr := l, streams := streams, stg := g }

/-- A departure completes without a look at records, edits, charges and bindings. -/
theorem State.completeDeparture_withBooks {P : Party → Prop} {s : State} {l : Ledger} (h : s.lgr.Recharged P l)
    (hn : (s.lgr.claims.map StationClaim.tag).Nodup) (streams : List StreamRecord) (g : Staging) (e : Station) :
    ∃ l', (s.completeDeparture e).lgr.Recharged P l' ∧
      ((s.completeDeparture e).lgr.claims.map StationClaim.tag).Nodup ∧
      (s.withBooks l streams g).completeDeparture e = (s.completeDeparture e).withBooks l' streams g := by
  unfold State.completeDeparture
  cases e.state with
  | present => exact ⟨l, h, hn, rfl⟩
  | departing cause count =>
    refine ⟨l.releaseClaim e.tag, h.releaseClaim hn e.tag, Ledger.releaseClaim_nodup hn e.tag, ?_⟩
    have hbody : stationLeftBody e cause (l.account (.station e.tag)) count =
        stationLeftBody e cause (s.lgr.account (.station e.tag)) count := by
      unfold stationLeftBody
      rw [h.claimed, h.held]
    simp only
    show State.offer _ _ (stationLeftBody e cause (l.account (.station e.tag)) count) = _
    rw [hbody]
    rfl

theorem State.completeDepartureFold_withBooks {P : Party → Prop} (L : List Station) : ∀ {s : State} {l : Ledger},
    s.lgr.Recharged P l → (s.lgr.claims.map StationClaim.tag).Nodup → ∀ (streams : List StreamRecord) (g : Staging),
    ∃ l', (L.foldl State.completeDeparture s).lgr.Recharged P l' ∧
      ((L.foldl State.completeDeparture s).lgr.claims.map StationClaim.tag).Nodup ∧
      L.foldl State.completeDeparture (s.withBooks l streams g) =
        (L.foldl State.completeDeparture s).withBooks l' streams g := by
  induction L with
  | nil => exact fun h hn streams g => ⟨_, h, hn, rfl⟩
  | cons e L ih =>
    intro s l h hn streams g
    obtain ⟨l', h', hn', he⟩ := State.completeDeparture_withBooks h hn streams g e
    rw [List.foldl_cons, List.foldl_cons, he]
    exact ih h' hn' streams g

/-! ### Removals (R79) -/

/-- The removal of records that are not HELD changes charges and bindings alone (R54, R56). -/
theorem State.removeRecords_recharged (ids : List Nat) : ∀ {s : State},
    (∀ r ∈ s.streams, r.id ∈ ids → r.isHeld = false) →
    s.lgr.Recharged (fun _ => True) (s.removeRecords ids).lgr := by
  induction ids with
  | nil => exact fun _ => .rfl
  | cons id ids ih =>
    intro s h
    have hone : s.lgr.Recharged (fun _ => True) (s.removeRecord id).lgr := by
      unfold State.removeRecord
      cases hr : s.stream? id with
      | none => exact .rfl
      | some r =>
        obtain ⟨hmem, hid⟩ := State.stream?_some hr
        show s.lgr.Recharged _ (s.lgr.freeStream r)
        rw [Ledger.freeStream_eq, h r hmem (hid ▸ List.mem_cons_self ..)]
        exact s.lgr.recharged_update trivial (fun _ => ⟨rfl, rfl⟩)
    exact hone.trans (ih (fun r hr hid => h r (s.removeRecord_subset id hr) (List.mem_cons_of_mem _ hid)))

/-! ### The records and edits that a trunk reset keeps (R79, R109) -/

/-- A station owns the record. -/
def StreamRecord.ofStation (r : StreamRecord) : Bool := r.owner != .host

/-- The edits that a trunk reset discards: those of station-owned streams and of RETIRING records (R109). -/
def State.lostEdit (s : State) (e : Edit) : Bool :=
  s.streams.any (fun r => r.id == e.stream && (r.ofStation || r.isRetiring))

/-- What a trunk reset makes of a record that it keeps, with the edits pending before (R79, R109). -/
def StreamRecord.kept (r : StreamRecord) (edits : List Edit) : StreamRecord :=
  let saved : SavedState := match r.state with
    | .live _ => .live
    | .suspended c => .suspended c
    | _ => .waitingStart
  if r.ofStation then
    let r1 := if edits.any (fun e => e.stream == r.id && e.op.kind == .resize) then { r with pendingResize := none } else r
    if r.inService then { r1 with state := .held saved, restoreMark := false, vacantRun := 0, overlongRun := 0 } else r1
  else match r.state with
    | .live _ | .waitingStart => { r with state := .suspended .absent }
    | _ => r

theorem State.editStationOwned_eq (s : State) (e : Edit) :
    s.editStationOwned e = (s.stream? e.stream).any StreamRecord.ofStation := by
  unfold State.editStationOwned State.editOwner
  cases s.stream? e.stream with
  | none => rfl
  | some r =>
    simp only [Option.map_some, Option.any_some, StreamRecord.ofStation]
    cases r.owner <;> rfl

/-- The edits counted for the report are those that a trunk reset discards. -/
theorem State.resetDiscards_eq {s : State} (hid : (s.streams.map StreamRecord.id).Nodup) :
    s.resetDiscards = s.stg.edits.filter s.lostEdit := by
  unfold State.resetDiscards
  refine List.filter_congr (fun e _ => ?_)
  unfold State.lostEdit
  rw [← State.stream?_any hid (fun r => r.ofStation || r.isRetiring), State.editStationOwned_eq]
  cases s.stream? e.stream <;> rfl

/-- The records behind the removals: those that are not RETIRING (R79). -/
theorem retiring_kept {l : List StreamRecord} (hid : (l.map StreamRecord.id).Nodup) :
    l.filter (fun r => !((l.filter StreamRecord.isRetiring).map StreamRecord.id).contains r.id) =
      l.filter (fun r => !r.isRetiring) := by
  refine List.filter_congr (fun r hr => ?_)
  rw [contains_filter_ids, any_ids_of_mem hid _ hr]

/-- A station's record is untouched by a trunk reset unless it is in service (R79). -/
theorem StreamRecord.atTrunkReset_station {r : StreamRecord} (h : r.ofStation = true) : r.atTrunkReset =
    if r.inService then { r with state := .held r.state.saved, restoreMark := false, vacantRun := 0, overlongRun := 0 }
    else r := by
  unfold StreamRecord.ofStation at h
  unfold StreamRecord.atTrunkReset
  cases ho : r.owner with
  | host => rw [ho] at h; exact absurd h nofun
  | station t => rfl

/-- A host's record keeps its edits and loses its place in service (R79). -/
theorem StreamRecord.atTrunkReset_host {r : StreamRecord} (h : r.ofStation = false) : r.atTrunkReset =
    match r.state with
    | .live _ | .waitingStart => { r with state := .suspended .absent }
    | _ => r := by
  unfold StreamRecord.ofStation at h
  unfold StreamRecord.atTrunkReset
  cases ho : r.owner with
  | station t => rw [ho] at h; exact absurd h nofun
  | host => cases r.state <;> rfl

/-- Lists of edits that agree on a stream leave the same pending resize units. -/
theorem StreamRecord.unsized_congr {r : StreamRecord} {L edits : List Edit}
    (h : ∀ e : Edit, e.stream = r.id → (e ∈ L ↔ e ∈ edits)) : r.unsized L = r.unsized edits := by
  have hany : L.any (fun e => e.stream == r.id && e.op.kind == .resize) =
      edits.any (fun e => e.stream == r.id && e.op.kind == .resize) := by
    rw [Bool.eq_iff_iff, List.any_eq_true, List.any_eq_true]
    refine exists_congr (fun e => ?_)
    rw [Bool.and_eq_true, beq_iff_eq]
    exact ⟨fun ⟨he, hs, hk⟩ => ⟨(h e hs).1 he, hs, hk⟩, fun ⟨he, hs, hk⟩ => ⟨(h e hs).2 he, hs, hk⟩⟩
  unfold StreamRecord.unsized
  rw [hany]

/-- A record whose stream no edit names keeps its pending resize units. -/
theorem StreamRecord.unsized_of_none {r : StreamRecord} {L : List Edit} (h : ∀ e ∈ L, e.stream ≠ r.id) :
    r.unsized L = r := by
  unfold StreamRecord.unsized
  rw [if_neg]
  rw [List.any_eq_true]
  rintro ⟨e, he, heq⟩
  rw [Bool.and_eq_true, beq_iff_eq] at heq
  exact h e he heq.1

theorem StreamRecord.unsized_owner (r : StreamRecord) (L : List Edit) : (r.unsized L).owner = r.owner := by
  unfold StreamRecord.unsized
  split <;> rfl

theorem StreamRecord.unsized_state (r : StreamRecord) (L : List Edit) : (r.unsized L).state = r.state := by
  unfold StreamRecord.unsized
  split <;> rfl

/-- A record that a station owns and that is in service enters HELD; the rest as R79 has it. -/
theorem StreamRecord.kept_eq {r : StreamRecord} {edits L : List Edit}
    (hL : r.ofStation = true → ∀ e : Edit, e.stream = r.id → (e ∈ L ↔ e ∈ edits))
    (hhost : r.ofStation = false → ∀ e ∈ L, e.stream ≠ r.id) : (r.unsized L).atTrunkReset = r.kept edits := by
  unfold StreamRecord.kept
  by_cases hs : r.ofStation = true
  · have hof : (r.unsized edits).ofStation = true := (congrArg (· != Party.host) (r.unsized_owner edits)).trans hs
    rw [if_pos hs, StreamRecord.unsized_congr (hL hs), StreamRecord.atTrunkReset_station hof]
    unfold StreamRecord.inService
    rw [StreamRecord.unsized_state]
    unfold StreamRecord.unsized
    cases r.state <;> rfl
  · rw [Bool.not_eq_true] at hs
    rw [StreamRecord.unsized_of_none (hhost hs), StreamRecord.atTrunkReset_host hs, hs]
    cases r.state <;> rfl

end Sys2Proof.Machine
end

section
/-! SUPPORT. What a trunk reset leaves ahead of the conversion of claims (R79, R109, R132). -/

namespace Sys2Proof.Machine

/-! ### The state behind removals and departures -/

/-- A trunk reset's departures on the state itself (R132 step 2). -/
def State.departedAll (s : State) : State :=
  (s.rst.stations.filter (fun e => e.state != .present)).foldl State.completeDeparture s

/-- The edits left behind the removal of RETIRING records whose streams a station owns (R109). -/
def State.stationEdits (s : State) : List Edit :=
  s.stg.edits.filter (fun e => s.streams.any (fun r => r.id == e.stream && (!r.isRetiring && r.ofStation)))

/-- A record stays where it is neither RETIRING nor a station's STAGED one (R79). -/
def StreamRecord.staysAtReset (r : StreamRecord) : Bool := !r.isRetiring && !(r.ofStation && r.state == .staged)

theorem StreamRecord.not_held_of_retiring {r : StreamRecord} (h : r.isRetiring = true) : r.isHeld = false := by
  unfold StreamRecord.isRetiring at h
  unfold StreamRecord.isHeld
  split at h
  · next c n heq => rw [heq]
  · exact absurd h nofun

/-- RETIRING records and their edits go, and departures complete (R79, R132 step 2). -/
theorem State.departures_of_reset {s : State} (hid : (s.streams.map StreamRecord.id).Nodup)
    (htags : (s.lgr.claims.map StationClaim.tag).Nodup) :
    ∃ l, s.departedAll.lgr.Recharged (fun _ => True) l ∧
      (s.departedAll.lgr.claims.map StationClaim.tag).Nodup ∧
      (s.removeRecords s.retiringIds).completeDepartures = s.departedAll.withBooks l
        (s.streams.filter (fun r => !r.isRetiring))
        { s.stg with edits := s.stg.edits.filter (fun e => !s.streams.any (fun r => r.id == e.stream && r.isRetiring)) } := by
  have hremove := State.removeRecords_beside hid (ids := s.retiringIds) (fun id hmem => by
    obtain ⟨r, hr, hrid⟩ := List.mem_map.1 hmem
    exact State.stream?_isSome.2 ⟨r, (List.mem_filter.1 hr).1, hrid⟩)
  have hledger : s.lgr.Recharged (fun _ => True) (s.removeRecords s.retiringIds).lgr :=
    State.removeRecords_recharged s.retiringIds (fun r hr hmem => by
      obtain ⟨q, hq, hqr⟩ := List.mem_map.1 hmem
      obtain ⟨hq, hretiring⟩ := List.mem_filter.1 hq
      obtain rfl := List.inj_on_of_nodup_map hid hq hr hqr
      exact StreamRecord.not_held_of_retiring hretiring)
  obtain ⟨l0, hl0⟩ : ∃ l0, l0 = (s.removeRecords s.retiringIds).lgr := ⟨_, rfl⟩
  rw [← hl0] at hremove hledger
  have hstreams : s.streams.filter (fun r => !s.retiringIds.contains r.id) = s.streams.filter (fun r => !r.isRetiring) :=
    retiring_kept hid
  have hedits : s.stg.edits.filter (fun e => !s.retiringIds.contains e.stream) =
      s.stg.edits.filter (fun e => !s.streams.any (fun r => r.id == e.stream && r.isRetiring)) :=
    List.filter_congr (fun e _ => congrArg _ (contains_filter_ids _ _))
  rw [hstreams, hedits] at hremove
  obtain ⟨l, hl, hn, he⟩ := State.completeDepartureFold_withBooks (s.rst.stations.filter (fun e => e.state != .present))
    hledger htags (s.streams.filter (fun r => !r.isRetiring))
    { s.stg with edits := s.stg.edits.filter (fun e => !s.streams.any (fun r => r.id == e.stream && r.isRetiring)) }
  refine ⟨l, hl, hn, ?_⟩
  rw [State.completeDepartures_eq, hremove]
  exact he

/-! ### The edits that go -/

section
variable {s : State} (hid : (s.streams.map StreamRecord.id).Nodup)
include hid

/-- The edits left for stations' streams, by the record (R109). -/
theorem State.mem_stationEdits {e : Edit} {r : StreamRecord} (hr : r ∈ s.streams) (he : e.stream = r.id) :
    e ∈ s.stationEdits ↔ e ∈ s.stg.edits ∧ r.isRetiring = false ∧ r.ofStation = true := by
  unfold State.stationEdits
  rw [List.mem_filter, he, any_ids_of_mem hid _ hr, Bool.and_eq_true, Bool.not_eq_true']

theorem State.lostEdit_iff {e : Edit} {r : StreamRecord} (hr : r ∈ s.streams) (he : e.stream = r.id) :
    s.lostEdit e = (r.ofStation || r.isRetiring) := by
  unfold State.lostEdit
  rw [he, any_ids_of_mem hid _ hr]

/-- What the discards look for behind the removals are the stations' edits (R109). -/
theorem State.stationEdits_eq {u : State} (hstreams : u.streams = s.streams.filter (fun r => !r.isRetiring))
    (hedits : u.stg.edits = s.stg.edits.filter (fun e => !s.streams.any (fun r => r.id == e.stream && r.isRetiring)))
    (hrecord : ∀ e ∈ s.stg.edits, (s.stream? e.stream).isSome = true) :
    u.stg.edits.filter u.editStationOwned = s.stationEdits := by
  have hu : (u.streams.map StreamRecord.id).Nodup := by
    rw [hstreams]
    exact hid.sublist (List.filter_sublist.map _)
  rw [hedits, List.filter_filter]
  refine List.filter_congr (fun e he => ?_)
  obtain ⟨r, hr, hre⟩ := State.stream?_isSome.1 (hrecord e he)
  rw [State.editStationOwned_eq, State.stream?_any hu, hstreams, List.any_filter, ← hre,
    any_ids_of_mem hid _ hr, any_ids_of_mem hid _ hr]
  have hswap : (fun x : StreamRecord => !x.isRetiring && (x.id == r.id && x.ofStation)) =
      fun x => x.id == r.id && (!x.isRetiring && x.ofStation) := by
    funext x
    rw [Bool.and_left_comm]
  rw [hswap, any_ids_of_mem hid _ hr]
  cases r.isRetiring <;> simp

/-- Behind both discards the edits for the host's streams that stay are left (R109). -/
theorem State.resetEdits_eq (hnumber : (s.stg.edits.map Edit.number).Nodup)
    (hrecord : ∀ e ∈ s.stg.edits, (s.stream? e.stream).isSome = true) :
    (s.stg.edits.filter (fun e => !s.streams.any (fun r => r.id == e.stream && r.isRetiring))).filter
      (fun x => !s.stationEdits.any (fun e => e.number == x.number)) = s.stg.edits.filter (fun e => !s.lostEdit e) := by
  rw [List.filter_filter]
  refine List.filter_congr (fun e he => ?_)
  obtain ⟨r, hr, hre⟩ := State.stream?_isSome.1 (hrecord e he)
  have hany : s.stationEdits.any (fun x => x.number == e.number) = (!r.isRetiring && r.ofStation) := by
    rw [Bool.eq_iff_iff, List.any_eq_true, Bool.and_eq_true, Bool.not_eq_true']
    constructor
    · rintro ⟨x, hx, hxe⟩
      obtain rfl := List.inj_on_of_nodup_map hnumber (List.mem_filter.1 hx).1 he (by simpa using hxe)
      exact ((State.mem_stationEdits hid hr hre.symm).1 hx).2
    · exact fun h => ⟨e, (State.mem_stationEdits hid hr hre.symm).2 ⟨he, h⟩, by simp⟩
  rw [hany, State.lostEdit_iff hid hr hre.symm, ← hre, any_ids_of_mem hid _ hr]
  cases r.isRetiring <;> cases r.ofStation <;> rfl

/-! ### The records that stay -/

/-- The discards take the stations' STAGED records with them, and every other record stays in its new state (R79, R109). -/
theorem State.resetRecords_eq (hstaged : s.stagedInPlace) :
    (((s.streams.filter (fun r => !r.isRetiring)).filter (fun x => !admits s.stationEdits x)).map
      (fun x => x.unsized s.stationEdits)).map StreamRecord.atTrunkReset =
      (s.streams.filter StreamRecord.staysAtReset).map (fun r => r.kept s.stg.edits) := by
  have hadmits : ∀ r ∈ s.streams, r.isRetiring = false →
      admits s.stationEdits r = (r.ofStation && r.state == .staged) := by
    intro r hr hretiring
    unfold admits
    rw [Bool.eq_iff_iff, List.any_eq_true, Bool.and_eq_true, beq_iff_eq, hstaged r hr]
    constructor
    · rintro ⟨e, he, heq⟩
      rw [Bool.and_eq_true, beq_iff_eq, beq_iff_eq] at heq
      obtain ⟨he, -, hof⟩ := (State.mem_stationEdits hid hr heq.1).1 he
      exact ⟨hof, e, he, heq⟩
    · rintro ⟨hof, e, he, hre, hop⟩
      exact ⟨e, (State.mem_stationEdits hid hr hre).2 ⟨he, hretiring, hof⟩, by rw [hre, hop]; simp⟩
  have hfilter : (s.streams.filter (fun r => !r.isRetiring)).filter (fun x => !admits s.stationEdits x) =
      s.streams.filter StreamRecord.staysAtReset := by
    rw [List.filter_filter]
    refine List.filter_congr (fun r hr => ?_)
    unfold StreamRecord.staysAtReset
    cases hretiring : r.isRetiring with
    | true => rw [Bool.not_true, Bool.and_false, Bool.false_and]
    | false => rw [hadmits r hr hretiring, Bool.not_false, Bool.and_true, Bool.true_and]
  rw [hfilter, List.map_map]
  refine List.map_congr_left (fun r hr => ?_)
  obtain ⟨hr, hstays⟩ := List.mem_filter.1 hr
  have hretiring : r.isRetiring = false := by
    unfold StreamRecord.staysAtReset at hstays
    rw [Bool.and_eq_true, Bool.not_eq_true'] at hstays
    exact hstays.1
  exact StreamRecord.kept_eq
    (fun hof e he => (State.mem_stationEdits hid hr he).trans ⟨And.left, fun h => ⟨h, hretiring, hof⟩⟩)
    (fun hof e hmem he => by
      obtain ⟨-, -, h⟩ := (State.mem_stationEdits hid hr he).1 hmem
      exact absurd (h.symm.trans hof) nofun)

end

/-! ### Together -/

/-- The report of a trunk reset's discards (R109). -/
def State.reported (s : State) (gone : List Edit) : State :=
  if gone = [] then s else s.offer .editsDiscarded
    ([0, 0, 0, 0, 0, 0, 0, 0] ++ byteOf gone.length :: (gone.map Edit.listed).flatten)

theorem State.reportDiscards_reset (s : State) (gone : List Edit) :
    s.reportDiscards .trunkReset gone = s.reported gone := by
  unfold State.reportDiscards State.reported
  by_cases hnone : gone = []
  · rw [if_pos (by rw [hnone]; rfl), if_pos hnone]
  · rw [if_neg (by simpa using hnone), if_neg hnone]
    unfold editsDiscardedBody countedList
    rw [show Edit.entry = Edit.listed from funext Edit.entry_eq]
    rfl

theorem State.reported_withBooks (s : State) (gone : List Edit) (l : Ledger) (streams : List StreamRecord) (g : Staging) :
    (s.withBooks l streams g).reported gone = (s.reported gone).withBooks l streams g := by
  unfold State.reported
  split <;> rfl

/-- What the removals, departures, discards and changes of records leave (R79, R109, R132). -/
theorem State.resetStreams_eq {s : State} (hpos : s.positioned) (hkeyed : s.keyed) (hedits : s.editsInPlace)
    (hstaged : s.stagedInPlace) : ∃ l, s.departedAll.lgr.Recharged (fun _ => True) l ∧
    s.resetStreams = (s.departedAll.reported (s.stg.edits.filter s.lostEdit)).withBooks l
      ((s.streams.filter StreamRecord.staysAtReset).map (fun r => r.kept s.stg.edits))
      { s.stg with edits := s.stg.edits.filter (fun e => !s.lostEdit e) } := by
  have hid := hpos.nodup
  obtain ⟨htags, -⟩ := hkeyed
  obtain ⟨-, hstream, hrecord, hnext, -⟩ := hedits
  have hnumber := (List.nodup_cons.1 hnext).2
  obtain ⟨l, hl, -, hdeparted⟩ := State.departures_of_reset hid htags
  obtain ⟨u, hu⟩ : ∃ u, u = (s.removeRecords s.retiringIds).completeDepartures := ⟨_, rfl⟩
  rw [← hu] at hdeparted
  have hustreams : u.streams = s.streams.filter (fun r => !r.isRetiring) := by rw [hdeparted]; rfl
  have huedits : u.stg.edits =
      s.stg.edits.filter (fun e => !s.streams.any (fun r => r.id == e.stream && r.isRetiring)) := by rw [hdeparted]; rfl
  have hulgr : u.lgr = l := by rw [hdeparted]; rfl
  have hleft := State.stationEdits_eq hid hustreams huedits hrecord
  have hsub : s.stationEdits.Sublist u.stg.edits := hleft ▸ List.filter_sublist
  have husub : u.stg.edits.Sublist s.stg.edits := huedits ▸ List.filter_sublist
  have huid : (u.streams.map StreamRecord.id).Nodup := by
    rw [hustreams]
    exact hid.sublist (List.filter_sublist.map _)
  have hunumber := hnumber.sublist (husub.map _)
  obtain ⟨hdrop, hledger⟩ := State.dropEdits_eq (P := fun _ => True) (s := u) s.stationEdits huid hunumber
    (hstream.sublist (husub.map _)) (fun e he => hsub.subset he) (hunumber.sublist (hsub.map _)) (fun e he => by
      obtain ⟨r, hr, hre⟩ := State.stream?_isSome.1 (hrecord e (husub.subset (hsub.subset he)))
      obtain ⟨hmem, hretiring, -⟩ := (State.mem_stationEdits hid hr hre.symm).1 he
      refine ⟨r, by rw [hustreams]; exact List.mem_filter.2 ⟨hr, by rw [hretiring]; rfl⟩, hre, trivial, fun hop => ?_⟩
      have hstate := (hstaged r hr).2 ⟨e, hmem, hre.symm, hop⟩
      unfold StreamRecord.isHeld
      rw [hstate])
  rw [hulgr] at hledger
  refine ⟨_, hl.trans hledger, ?_⟩
  obtain ⟨l', hl'⟩ : ∃ l', l' = (u.dropEdits s.stationEdits).lgr := ⟨_, rfl⟩
  have hdropped : u.dropEdits s.stationEdits = s.departedAll.withBooks l'
      (((s.streams.filter (fun r => !r.isRetiring)).filter (fun x => !admits s.stationEdits x)).map
        (fun x => x.unsized s.stationEdits))
      { s.stg with edits := s.stg.edits.filter (fun e => !s.lostEdit e) } := by
    rw [hdrop, ← hl', hustreams, huedits, State.resetEdits_eq hid hnumber hrecord, hdeparted]
    rfl
  rw [← hl']
  unfold State.resetStreams
  simp only
  rw [← hu, hleft, hdropped, State.resetDiscards_eq hid, State.reportDiscards_reset, State.reported_withBooks]
  exact congrArg (fun records => (s.departedAll.reported (s.stg.edits.filter s.lostEdit)).withBooks l' records
    { s.stg with edits := s.stg.edits.filter (fun e => !s.lostEdit e) }) (State.resetRecords_eq hid hstaged)

end Sys2Proof.Machine
end

section
/-! SUPPORT. The blocks' shares of a trunk reset (R132, R133, R154). -/

namespace Sys2Proof.Machine

/-! ### The roster behind departures -/

/-- What a tag's move makes of the known-tag list depends on that list alone (R142). -/
theorem Roster.touch_known {r r' : Roster} (h : r.known = r'.known) (t : Tag) : (r.touch t).known = (r'.touch t).known := by
  have hfind : r.knownOf t = r'.knownOf t := congrArg (List.find? _) h
  unfold Roster.touch
  rw [hfind]
  cases r'.knownOf t with
  | none => exact h
  | some k => exact congrArg (fun l => List.eraseP _ l ++ [k]) h

theorem Roster.touchAll_known (L : List Station) : ∀ {r r' : Roster}, r.known = r'.known →
    (L.foldl (fun r e => r.touch e.tag) r).known = (L.foldl (fun r e => r.touch e.tag) r').known := by
  induction L with
  | nil => exact fun h => h
  | cons e L ih => exact fun h => ih (Roster.touch_known h e.tag)

/-- The release of a claim record leaves the holdings (R57). -/
theorem Ledger.releaseClaim_holdings (l : Ledger) (t : Tag) : (l.releaseClaim t).holdings = l.holdings := by
  unfold Ledger.releaseClaim
  split <;> rfl

/-- What completed departures leave of the roster and of the detector (R145). -/
theorem State.departFold_roster (L : List Station) : ∀ (s : State), (s.rst.stations.map Station.number).Nodup →
    (∀ e ∈ L, e.state ≠ .present) →
    (L.foldl State.completeDeparture s).rst.known = (L.foldl (fun r e => r.touch e.tag) s.rst).known ∧
      (L.foldl State.completeDeparture s).rst.stations =
        s.rst.stations.filter (fun x => !L.any (fun e => e.number == x.number)) ∧
      (L.foldl State.completeDeparture s).tpt.burst = s.tpt.burst ∧
      (L.foldl State.completeDeparture s).lgr.holdings = s.lgr.holdings := by
  induction L with
  | nil => exact fun s _ _ => ⟨rfl, by simp, rfl, rfl⟩
  | cons e L ih =>
    intro s hn hL
    have hgone := hL e (List.mem_cons_self ..)
    have hone : ((s.completeDeparture e).rst.known = (s.rst.touch e.tag).known) ∧
        (s.completeDeparture e).rst.stations = s.rst.stations.filter (fun x => x.number != e.number) ∧
        (s.completeDeparture e).tpt.burst = s.tpt.burst ∧ (s.completeDeparture e).lgr.holdings = s.lgr.holdings := by
      unfold State.completeDeparture
      cases hstate : e.state with
      | present => exact absurd hstate hgone
      | departing cause count =>
        simp only
        refine ⟨Roster.touch_known (r := (s.removeEntry e.number).rst) (r' := s.rst) rfl e.tag, ?_, rfl,
          Ledger.releaseClaim_holdings s.lgr e.tag⟩
        exact ((Roster.touch_frame _ e.tag).2.1).trans (eraseP_eq_filter Station.number e.number _ hn)
    obtain ⟨hknown, hstations, hburst, hholdings⟩ := hone
    have hn' : ((s.completeDeparture e).rst.stations.map Station.number).Nodup := by
      rw [hstations]
      exact hn.sublist (List.filter_sublist.map _)
    obtain ⟨hk, hs, hb, hh⟩ := ih (s.completeDeparture e) hn' (fun x hx => hL x (List.mem_cons_of_mem _ hx))
    refine ⟨hk.trans (Roster.touchAll_known L hknown), ?_, hb.trans hburst, hh.trans hholdings⟩
    rw [List.foldl_cons, hs, hstations, List.filter_filter]
    refine List.filter_congr (fun x _ => ?_)
    rw [List.any_cons, Bool.not_or, Bool.and_comm, bne, BEq.comm]

/-- Behind the departures of a trunk reset the PRESENT entries are left (R132 step 2). -/
theorem State.departedAll_roster {s : State} (hn : (s.rst.stations.map Station.number).Nodup) :
    s.departedAll.rst.known =
        ((s.rst.stations.filter (fun e => e.state != .present)).foldl (fun r e => r.touch e.tag) s.rst).known ∧
      s.departedAll.rst.stations = s.rst.stations.filter Station.isPresent ∧
      s.departedAll.tpt.burst = s.tpt.burst ∧ s.departedAll.lgr.holdings = s.lgr.holdings := by
  obtain ⟨hknown, hstations, hburst, hholdings⟩ :=
    State.departFold_roster (s.rst.stations.filter (fun e => e.state != .present)) s hn
      (fun e he => by simpa using (List.mem_filter.1 he).2)
  refine ⟨hknown, hstations.trans (List.filter_congr (fun x hx => ?_)), hburst, hholdings⟩
  unfold Station.isPresent
  rw [Bool.eq_iff_iff, Bool.not_eq_true', List.any_eq_false]
  constructor
  · intro h
    by_contra hp
    exact h x (List.mem_filter.2 ⟨hx, by simpa using hp⟩) (by simp)
  · intro hp e he hnum
    obtain ⟨hmem, hstate⟩ := List.mem_filter.1 he
    obtain rfl := List.inj_on_of_nodup_map hn hmem hx (by simpa using hnum)
    rw [bne, hp] at hstate
    exact absurd hstate nofun

/-! ### Conversions -/

/-- What a conversion that finds room makes of the ledger: a merge into the tag's holding, or a new one (R151, R152). -/
def Ledger.converted (l : Ledger) (streams : List StreamRecord) (epoch : Byte) (t : Tag) : Ledger :=
  match l.account? (.station t) with
  | none => l
  | some a =>
    match l.holding? t with
    | some _ => { l with
        claims := l.claims.eraseP (fun c => c.tag == t)
        holdings := updateFirst (fun h => h.tag == t) (fun h => { h with
          units := h.units + a.claimed, channels := h.channels ||| a.held
          streams := heldList streams t h.streams }) l.holdings
        revision := l.revision + 1 }
    | none => { l with
        claims := l.claims.eraseP (fun c => c.tag == t)
        holdings := l.holdings ++ [⟨t, a.claimed, a.held, heldList streams t [], epoch⟩]
        revision := l.revision + 2 }

theorem Ledger.converted_holdings_length (l : Ledger) (streams : List StreamRecord) (epoch : Byte) (t : Tag) :
    (l.converted streams epoch t).holdings.length ≤ l.holdings.length + 1 := by
  unfold Ledger.converted
  cases l.account? (.station t) with
  | none => exact Nat.le_succ _
  | some a =>
    cases l.holding? t with
    | some h => simp [updateFirst_length]
    | none => simp

/-- A conversion that finds room changes the ledger alone (R151). -/
theorem State.convertClaim_roomy {s : State} {touched : List Tag} (t : Tag)
    (hroom : (∀ h ∈ s.lgr.holdings, h.tag ≠ t) → s.lgr.holdings.length < Config.holdingRoom) :
    State.convertClaim (s, touched) t = ({ s with lgr := s.lgr.converted s.streams s.rst.epoch t },
      if (s.lgr.account? (.station t)).isSome then t :: touched else touched) := by
  unfold State.convertClaim Ledger.converted
  simp only
  cases ha : s.lgr.account? (.station t) with
  | none => rfl
  | some a =>
    cases hh : s.lgr.holding? t with
    | some h => rfl
    | none =>
      have hmake : s.makeRoom touched = s :=
        if_pos (hroom (fun h hmem => by simpa using List.find?_eq_none.1 hh h hmem))
      simp only [hmake]
      rfl

/-- Conversions that find room change the ledger alone (R151). -/
theorem State.convertClaims_beside (tags : List Tag) : ∀ {s : State} (touched : List Tag),
    s.lgr.holdings.length + tags.length ≤ Config.holdingRoom →
    (tags.foldl State.convertClaim (s, touched)).1 =
      { s with lgr := tags.foldl (fun l t => l.converted s.streams s.rst.epoch t) s.lgr } := by
  induction tags with
  | nil => exact fun _ _ => rfl
  | cons t tags ih =>
    intro s touched hroom
    rw [List.length_cons] at hroom
    have hlen := s.lgr.converted_holdings_length s.streams s.rst.epoch t
    rw [List.foldl_cons, State.convertClaim_roomy t (fun _ => by omega)]
    exact ih (s := { s with lgr := s.lgr.converted s.streams s.rst.epoch t }) _ (by
      show (s.lgr.converted s.streams s.rst.epoch t).holdings.length + tags.length ≤ _
      omega)

/-! ### The shares -/

/-- Every block's share of a trunk reset, of what lies ahead of the conversions and of what they leave (R132, R133). -/
theorem State.trunkReset_shares (s : State) (cause : ResetCause) {ahead converted : State} (hahead : s.nextEpoch.resetStreams = ahead)
    (hconverted : (ahead.rst.presentTags.foldl State.convertClaim (ahead, [])).1 = converted) :
    s.trunkReset cause =
      State.offer { converted with
        csq := { s.csq with partState := .starting, lateRun := 0, phase := .none, plan := [] }
        svw := []
        rcu := if converted.lgr.holdings = [] then s.rcu else ⟨true, s.cfg.reclaimWindow, s.cfg.reclaimWindow⟩
        tpt := ⟨[], [], none, none, if ahead.tpt.burst = 16 then 16 else 0, false⟩
        rst := ⟨s.rst.epoch + 1, [], (ahead.rst.stations.foldl (fun r e => r.touch e.tag) ahead.rst).known, 0⟩ }
      .trunkReset [cause.code, s.csq.partState.code, s.rst.epoch, s.rst.epoch + 1, byteOf ahead.rst.stations.length,
        byteOf (s.rst.stations.filter (fun e => e.state != .present)).length] := by
  obtain ⟨hcsq, hcfg, -, hrcu, -, -, hepoch, -⟩ := s.nextEpoch.resetStreams_frame
  rw [hahead] at hcsq hcfg hrcu hepoch
  obtain ⟨hccsq, hccfg, -, hcrst, hcrcu, hctpt, -, -⟩ := ahead.convertClaimsFold_frame ahead.rst.presentTags []
  rw [hconverted] at hccsq hccfg hcrst hcrcu hctpt
  have hopen : converted.openWindow = { converted with
      rcu := if converted.lgr.holdings = [] then s.rcu else ⟨true, s.cfg.reclaimWindow, s.cfg.reclaimWindow⟩ } := by
    unfold State.openWindow
    by_cases h : converted.lgr.holdings = []
    · rw [if_pos (by rw [h]; rfl), if_pos h, show s.rcu = converted.rcu from (hcrcu.trans hrcu).symm]
    · rw [if_neg (by simpa using h), if_neg h, hccfg.trans hcfg]
      rfl
  obtain ⟨he, -, -⟩ := Roster.touchAll_frame ahead.rst ahead.rst.stations
  have hcount : s.rst.departingCount = (s.rst.stations.filter (fun e => e.state != .present)).length := rfl
  unfold State.trunkReset
  simp only
  rw [hahead, show ahead.convertClaims ahead.rst.presentTags = converted from hconverted, hopen]
  unfold State.clearRoster
  simp only [hcrst, hccsq, hcsq, hctpt, hcount, he, hepoch]
  rfl

/-- The statement of a trunk reset, step by step, with every premise in its name. -/
theorem State.trunkReset_steps {s : State} (cause : ResetCause) (hpos : s.positioned) (hkeyed : s.keyed)
    (hedits : s.editsInPlace) (hstaged : s.stagedInPlace) {converted : State}
    (hconverted : (((s.rst.stations.filter Station.isPresent).map Station.tag).foldl State.convertClaim
      (s.nextEpoch.resetStreams, [])).1 = converted) :
    (s.nextEpoch.resetStreams.rpu = (s.nextEpoch.departedAll.reported (s.stg.edits.filter s.lostEdit)).rpu ∧
      s.nextEpoch.resetStreams.rst = s.nextEpoch.departedAll.rst ∧
      s.nextEpoch.resetStreams.stg = { s.stg with edits := s.stg.edits.filter (fun e => !s.lostEdit e) } ∧
      s.nextEpoch.resetStreams.streams =
        (s.streams.filter StreamRecord.staysAtReset).map (fun r => r.kept s.stg.edits) ∧
      s.nextEpoch.resetStreams.lgr.holdings = s.lgr.holdings) ∧
    s.trunkReset cause =
      State.offer { converted with
        csq := { s.csq with partState := .starting, lateRun := 0, phase := .none, plan := [] }
        svw := []
        rcu := if converted.lgr.holdings = [] then s.rcu else ⟨true, s.cfg.reclaimWindow, s.cfg.reclaimWindow⟩
        tpt := ⟨[], [], none, none, if s.tpt.burst = 16 then 16 else 0, false⟩
        rst := ⟨s.rst.epoch + 1, [], ((s.rst.stations.filter Station.isPresent).foldl (fun r e => r.touch e.tag)
          s.nextEpoch.departedAll.rst).known, 0⟩ }
      .trunkReset [cause.code, s.csq.partState.code, s.rst.epoch, s.rst.epoch + 1,
        byteOf (s.rst.stations.filter Station.isPresent).length,
        byteOf (s.rst.stations.filter (fun e => e.state != .present)).length] := by
  obtain ⟨l, hl, heq⟩ := State.resetStreams_eq (s := s.nextEpoch) hpos hkeyed hedits hstaged
  obtain ⟨-, -, -, hnums, -⟩ := hkeyed
  obtain ⟨-, hstations, hburst, hholdings⟩ := State.departedAll_roster (s := s.nextEpoch) hnums
  obtain ⟨ahead, hahead⟩ : ∃ ahead, s.nextEpoch.resetStreams = ahead := ⟨_, rfl⟩
  rw [hahead] at heq hconverted
  have hrst : ahead.rst = s.nextEpoch.departedAll.rst := by
    rw [heq]
    unfold State.reported
    split <;> rfl
  have htpt : ahead.tpt = s.nextEpoch.departedAll.tpt := by
    rw [heq]
    unfold State.reported
    split <;> rfl
  have hpresent : ahead.rst.stations = s.rst.stations.filter Station.isPresent := hrst ▸ hstations
  have htags : ahead.rst.presentTags = (s.rst.stations.filter Station.isPresent).map Station.tag := by
    unfold Roster.presentTags
    rw [hpresent, List.filter_filter]
    simp only [Bool.and_self]
  rw [hahead]
  refine ⟨⟨?_, hrst, ?_, ?_, ?_⟩, ?_⟩
  · rw [heq]; rfl
  · rw [heq]; rfl
  · rw [heq]; rfl
  · rw [heq]; exact hl.holdings.trans hholdings
  · rw [State.trunkReset_shares s cause hahead (htags ▸ hconverted), hpresent, htpt, hburst, hrst]
    rfl

/-- The edits that stay are those for the host's streams that stay (R109). -/
theorem State.keptEdits_eq {s : State} (hid : (s.streams.map StreamRecord.id).Nodup)
    (hrecord : ∀ e ∈ s.stg.edits, (s.stream? e.stream).isSome = true) :
    s.stg.edits.filter (fun e => !s.lostEdit e) =
      s.stg.edits.filter (fun e => s.streams.any (fun r => r.id == e.stream && !r.ofStation && !r.isRetiring)) := by
  refine List.filter_congr (fun e he => ?_)
  obtain ⟨r, hr, hre⟩ := State.stream?_isSome.1 (hrecord e he)
  simp only [Bool.and_assoc]
  rw [State.lostEdit_iff hid hr hre.symm, ← hre, any_ids_of_mem hid _ hr, Bool.not_or]

/-- Settles O38: `State.trunkReset_steps`; where no holding overflows, `State.convertClaims_beside`. -/
theorem trunkResetShares : Obligations.TrunkResetShares := by
  refine ⟨fun s cause hpos hkeyed hheld hedits hstaged hroom => ?_, fun s cause hpos hkeyed hheld hedits hstaged => ?_⟩
  · obtain ⟨⟨-, hrst, hstg, hstreams, hholdings⟩, heq⟩ := State.trunkReset_steps cause hpos hkeyed hedits hstaged rfl
    have hl := State.convertClaims_beside (s := s.nextEpoch.resetStreams)
      ((s.rst.stations.filter Station.isPresent).map Station.tag) [] (by
        rw [hholdings, List.length_map]
        exact (Nat.add_le_add_left (List.length_filter_le ..) _).trans hroom)
    rw [hl] at heq
    obtain ⟨-, -, -, hnums, -⟩ := hkeyed
    obtain ⟨-, -, hrecord, -⟩ := hedits
    obtain ⟨hknown, -⟩ := State.departedAll_roster (s := s.nextEpoch) hnums
    obtain ⟨hcsq, hcfg, -, -, hhlk, hpending, hepoch, -⟩ := s.nextEpoch.resetStreams_frame
    have hleft := congrArg (fun l => { s.stg with edits := l }) (State.keptEdits_eq hpos.nodup hrecord)
    intro t departing present stations resized
    have ht : t = _ := heq
    clear_value t
    subst ht
    refine ⟨rfl, rfl, hcfg, hhlk, hpending, rfl, ?_, hstreams, hstg.trans hleft, rfl, ?_⟩
    · rw [List.foldl_append]
      exact congrArg (fun k => (⟨s.rst.epoch + 1, [], k, 0⟩ : Roster)) (Roster.touchAll_known _ (hknown.trans (Roster.touchAll_known _ rfl)))
    · unfold State.offer
      rw [hcsq, hepoch, hcfg]
      rfl
  · obtain ⟨⟨hrpu, hrst, hstg, hstreams, -⟩, heq⟩ := State.trunkReset_steps cause hpos hkeyed hedits hstaged rfl
    intro t departing present stations resized lost gone departed reported ahead converted
    obtain ⟨hcsq, hcfg, -, -, hhlk, hpending, hepoch, -⟩ := s.nextEpoch.resetStreams_frame
    obtain ⟨hccsq, hccfg, -, hcrst, -, -, hchlk, hcpending⟩ :=
      ahead.convertClaimsFold_frame (present.map Station.tag) []
    have ht : t = _ := heq
    clear_value t
    subst ht
    refine ⟨⟨hrpu, hrst, hstg, hstreams⟩, rfl, rfl, rfl, rfl, rfl, hccfg.trans hcfg, hchlk.trans hhlk,
      hcpending.trans hpending, rfl, rfl, rfl, ?_⟩
    show _ = (State.offer ((present.map Station.tag).foldl State.convertClaim (ahead, [])).1 _ _).rpu
    unfold State.offer
    rw [hccsq, hcrst, hcsq, hepoch]
    rfl

end Sys2Proof.Machine
end

section
/-! SUPPORT. What a trunk reset makes of claim records and holdings (R57, R132, R151, R152). -/

namespace Sys2Proof.Machine

/-! ### Looking up records -/

/-- A record stands for the tag. -/
theorem Ledger.account?_isSome (l : Ledger) (t : Tag) :
    (l.account? (.station t)).isSome = (l.claims.map StationClaim.tag).contains t := by
  unfold Ledger.account?
  rw [Option.isSome_map, Bool.eq_iff_iff, List.find?_isSome, List.contains_iff_mem, List.mem_map]
  simp

/-- The claimed units and held channels of a tag's claim record. -/
def Ledger.claimedOf (l : Ledger) (t : Tag) : Option (Nat × ChannelSet) :=
  (l.account? (.station t)).map (fun a => (a.claimed, a.held))

theorem Ledger.claimedOf_eq (l : Ledger) (t : Tag) : l.claimedOf t =
    if (l.claims.map StationClaim.tag).contains t then
      some ((l.account (.station t)).claimed, (l.account (.station t)).held) else none := by
  have h := l.account?_isSome t
  unfold Ledger.claimedOf Ledger.account
  cases ha : l.account? (.station t) with
  | none => rw [ha] at h; rw [← h]; rfl
  | some a => rw [ha] at h; rw [← h]; rfl

/-- Charges and bindings do not show in a record's claimed units and channels. -/
theorem Ledger.Recharged.claimedOf {P : Party → Prop} {l l' : Ledger} (h : l.Recharged P l') (t : Tag) :
    l'.claimedOf t = l.claimedOf t := by
  rw [Ledger.claimedOf_eq, Ledger.claimedOf_eq, h.tags, h.claimed, h.held]

/-- Another tag's record is found where one has gone. -/
theorem Ledger.account?_of_claims {l l' : Ledger} {t q : Tag} (h : l'.claims = l.claims.filter (fun c => c.tag != t))
    (hq : q ≠ t) : l'.account? (.station q) = l.account? (.station q) := by
  unfold Ledger.account?
  simp only
  rw [h, List.find?_filter]
  have : (fun c : StationClaim => decide ((c.tag != t) = true ∧ (c.tag == q) = true)) = fun c => c.tag == q := by
    funext c
    by_cases hc : c.tag = q
    · simp [hc, hq]
    · simp [hc]
  rw [this]

/-! ### Releases (R57) -/

/-- What the release of several tags' claim records leaves. -/
theorem Ledger.releaseAll_eq (tags : List Tag) : ∀ {l : Ledger}, (l.claims.map StationClaim.tag).Nodup → tags.Nodup →
    tags.foldl Ledger.releaseClaim l = { l with
      freeUnits := l.freeUnits + ((tags.filterMap (fun t => l.account? (.station t))).map Account.claimed).sum
      freeChannels := (tags.filterMap (fun t => l.account? (.station t))).foldl (fun c a => c ||| a.held) l.freeChannels
      claims := l.claims.filter (fun c => !tags.contains c.tag)
      revision := l.revision + BitVec.ofNat 8 (tags.filterMap (fun t => l.account? (.station t))).length } := by
  induction tags with
  | nil => intro l _ _; simp
  | cons t tags ih =>
    intro l hn htags
    obtain ⟨hnew, htags⟩ := List.nodup_cons.1 htags
    have hone := Ledger.releaseClaim_eq hn t
    have hothers : tags.filterMap (fun q => (l.releaseClaim t).account? (.station q)) =
        tags.filterMap (fun q => l.account? (.station q)) :=
      List.filterMap_congr (fun q hq =>
        Ledger.account?_of_claims (t := t) (by rw [hone]) (fun h => hnew (h ▸ hq)))
    have hsome := l.account?_isSome t
    have hany : l.claims.any (fun c => c.tag == t) = (l.account? (.station t)).isSome := by
      rw [hsome, Bool.eq_iff_iff]
      simp
    rw [List.foldl_cons, ih (Ledger.releaseClaim_nodup hn t) htags, hothers, hone, hany, List.filterMap_cons]
    unfold Ledger.account
    have hfilter : (l.claims.filter (fun c => c.tag != t)).filter (fun c => !tags.contains c.tag) =
        l.claims.filter (fun c => !(t :: tags).contains c.tag) := by
      rw [List.filter_filter]
      refine List.filter_congr (fun c _ => ?_)
      rw [List.contains_cons, Bool.not_or, Bool.and_comm]
      rfl
    simp only [hfilter]
    cases l.account? (.station t) with
    | none => simp [Account.empty]
    | some a =>
      simp only [Option.getD_some, Option.isSome_some, if_true, List.map_cons, List.sum_cons, List.length_cons,
        List.foldl_cons]
      congr 1
      · omega
      · rw [BitVec.ofNat_add, BitVec.add_assoc, BitVec.add_comm (1 : BitVec 8)]
        rfl

/-- Departures act on the ledger by the release of claim records (R57, R145). -/
theorem State.departFold_ledger (L : List Station) : ∀ (s : State), (∀ e ∈ L, e.state ≠ .present) →
    (L.foldl State.completeDeparture s).lgr = (L.map Station.tag).foldl Ledger.releaseClaim s.lgr := by
  induction L with
  | nil => exact fun _ _ => rfl
  | cons e L ih =>
    intro s hL
    have hone : (s.completeDeparture e).lgr = s.lgr.releaseClaim e.tag := by
      unfold State.completeDeparture
      cases hstate : e.state with
      | present => exact absurd hstate (hL e (List.mem_cons_self ..))
      | departing cause count => rfl
    rw [List.foldl_cons, List.map_cons, List.foldl_cons, ← hone]
    exact ih _ (fun x hx => hL x (List.mem_cons_of_mem _ hx))

/-! ### Conversions (R151, R152) -/

/-- What conversions of these tags make of a holding. -/
def Ledger.merged (l : Ledger) (streams : List StreamRecord) (tags : List Tag) (h : Holding) : Holding :=
  match (if tags.contains h.tag then l.claimedOf h.tag else none) with
  | some c => { h with units := h.units + c.1, channels := h.channels ||| c.2, streams := heldList streams h.tag h.streams }
  | none => h

/-- The new holding that a tag's conversion makes where the tag has none. -/
def Ledger.created (l : Ledger) (streams : List StreamRecord) (epoch : Byte) (t : Tag) : Option Holding :=
  if l.holdings.any (fun h => h.tag == t) then none
  else (l.claimedOf t).map (fun c => ⟨t, c.1, c.2, heldList streams t [], epoch⟩)

theorem Ledger.merged_tag (l : Ledger) (streams : List StreamRecord) (tags : List Tag) (h : Holding) :
    (l.merged streams tags h).tag = h.tag := by
  unfold Ledger.merged
  split <;> rfl

/-- A holding of another tag is untouched. -/
theorem Ledger.merged_of_not_mem (l : Ledger) (streams : List StreamRecord) {tags : List Tag} {h : Holding}
    (ht : h.tag ∉ tags) : l.merged streams tags h = h := by
  unfold Ledger.merged
  rw [if_neg (by simpa using ht)]

theorem Ledger.created_tag {l : Ledger} {streams : List StreamRecord} {epoch : Byte} {t : Tag} {h : Holding}
    (hc : l.created streams epoch t = some h) : h.tag = t := by
  unfold Ledger.created at hc
  split at hc
  · exact absurd hc nofun
  · obtain ⟨c, -, rfl⟩ := Option.map_eq_some_iff.1 hc
    rfl

section
variable {l : Ledger} (hn : (l.claims.map StationClaim.tag).Nodup) (hh : (l.holdings.map Holding.tag).Nodup)
  (streams : List StreamRecord) (epoch : Byte)
include hn hh

/-- What one conversion leaves. -/
theorem Ledger.converted_eq (t : Tag) : l.converted streams epoch t = { l with
    claims := l.claims.filter (fun c => c.tag != t)
    holdings := l.holdings.map (l.merged streams [t]) ++ (l.created streams epoch t).toList
    revision := l.revision + BitVec.ofNat 8 ((l.created streams epoch t).toList.length
      + [t].countP (fun t => (l.account? (.station t)).isSome)) } := by
  unfold Ledger.converted Ledger.created Ledger.claimedOf
  have hmerged (h : Holding) : l.merged streams [t] h =
      match (if h.tag = t then l.claimedOf t else none) with
      | some c => { h with
          units := h.units + c.1, channels := h.channels ||| c.2, streams := heldList streams t h.streams }
      | none => h := by
    unfold Ledger.merged
    by_cases ht : h.tag = t
    · simp [ht]
    · simp [ht]
  unfold Ledger.claimedOf at hmerged
  cases ha : l.account? (.station t) with
  | none =>
    have hall : l.claims.filter (fun c => c.tag != t) = l.claims := by
      refine List.filter_eq_self.2 (fun c hc => ?_)
      have := l.account?_isSome t
      rw [ha] at this
      have hnot : t ∉ l.claims.map StationClaim.tag := by simpa using this.symm
      simpa using fun h : c.tag = t => hnot (h ▸ List.mem_map_of_mem hc)
    have hid : l.holdings.map (l.merged streams [t]) = l.holdings := by
      refine (List.map_congr_left (fun h _ => ?_)).trans (List.map_id _)
      rw [hmerged, ha]
      split <;> simp_all
    simp only [Option.map_none, hall, hid, ite_self, Option.toList_none, List.append_nil]
    simp [ha]
  | some a =>
    have hany : l.holdings.any (fun h => h.tag == t) = (l.holding? t).isSome := by
      rw [Ledger.holding?, Bool.eq_iff_iff, List.find?_isSome, List.any_eq_true]
    simp only [hany]
    cases hf : l.holding? t with
    | some h =>
      simp only [eraseP_eq_filter StationClaim.tag t _ hn, updateFirst_key Holding.tag _ t _ hh, Option.isSome_some,
        if_true, Option.toList_none, List.append_nil]
      have hmap : l.holdings.map (l.merged streams [t]) = l.holdings.map (fun h => if h.tag = t then { h with
          units := h.units + a.claimed, channels := h.channels ||| a.held
          streams := heldList streams t h.streams } else h) := by
        refine List.map_congr_left (fun x _ => ?_)
        rw [hmerged, ha]
        by_cases ht : x.tag = t
        · simp only [if_pos ht, Option.map_some]
        · simp only [if_neg ht]
      simp [hmap, ha]
    | none =>
      have hid : l.holdings.map (l.merged streams [t]) = l.holdings := by
        refine (List.map_congr_left (fun h hmem => ?_)).trans (List.map_id _)
        have hne : h.tag ≠ t := by simpa using List.find?_eq_none.1 hf h hmem
        exact l.merged_of_not_mem streams (by simpa using hne)
      simp only [eraseP_eq_filter StationClaim.tag t _ hn, Option.isSome_none, Bool.false_eq_true, if_false, hid,
        Option.map_some, Option.toList_some]
      simp [ha]

/-- A conversion leaves what the others look for. -/
theorem Ledger.converted_apart {t q : Tag} (hq : q ≠ t) :
    (l.converted streams epoch t).account? (.station q) = l.account? (.station q) ∧
    (l.converted streams epoch t).holdings.any (fun h => h.tag == q) = l.holdings.any (fun h => h.tag == q) := by
  have hone := Ledger.converted_eq hn hh streams epoch t
  refine ⟨Ledger.account?_of_claims (by rw [hone]) hq, ?_⟩
  rw [hone]
  have hmerged : (fun h : Holding => h.tag == q) ∘ l.merged streams [t] = fun h => h.tag == q :=
    funext (fun h => congrArg (· == q) (l.merged_tag streams [t] h))
  have hcreated : (l.created streams epoch t).toList.any (fun h => h.tag == q) = false := by
    rw [List.any_eq_false]
    intro h hmem
    rw [Ledger.created_tag (Option.mem_toList.1 hmem)]
    simpa using hq.symm
  rw [List.any_append, List.any_map, hmerged, hcreated, Bool.or_false]

/-- Keys stay unique. -/
theorem Ledger.converted_keys (t : Tag) : ((l.converted streams epoch t).claims.map StationClaim.tag).Nodup ∧
    ((l.converted streams epoch t).holdings.map Holding.tag).Nodup := by
  rw [Ledger.converted_eq hn hh streams epoch t]
  refine ⟨hn.sublist (List.filter_sublist.map _), ?_⟩
  have hmerged : Holding.tag ∘ l.merged streams [t] = Holding.tag := funext (l.merged_tag streams [t])
  rw [List.map_append, List.map_map, hmerged, List.nodup_append]
  refine ⟨hh, ?_, ?_⟩
  · cases l.created streams epoch t <;> simp
  · intro x hx y hy hxy
    obtain ⟨h, hmem, rfl⟩ := List.mem_map.1 hy
    have hcreated := Option.mem_toList.1 hmem
    have htag := Ledger.created_tag hcreated
    unfold Ledger.created at hcreated
    split at hcreated
    · exact absurd hcreated nofun
    · next hnone =>
      obtain ⟨k, hk, rfl⟩ := List.mem_map.1 hx
      exact hnone (List.any_eq_true.2 ⟨k, hk, by simpa using hxy.trans htag⟩)

end

/-- What the conversions of several tags leave. -/
theorem Ledger.convertedAll_eq (streams : List StreamRecord) (epoch : Byte) (tags : List Tag) : ∀ {l : Ledger},
    (l.claims.map StationClaim.tag).Nodup → (l.holdings.map Holding.tag).Nodup → tags.Nodup →
    tags.foldl (fun l t => l.converted streams epoch t) l = { l with
      claims := l.claims.filter (fun c => !tags.contains c.tag)
      holdings := l.holdings.map (l.merged streams tags) ++ tags.filterMap (l.created streams epoch)
      revision := l.revision + BitVec.ofNat 8 ((tags.filterMap (l.created streams epoch)).length
        + tags.countP (fun t => (l.account? (.station t)).isSome)) } := by
  induction tags with
  | nil =>
    intro l _ _ _
    have hid : l.holdings.map (l.merged streams []) = l.holdings :=
      (List.map_congr_left (fun h _ => l.merged_of_not_mem streams (by simp))).trans (List.map_id _)
    simp [hid]
  | cons t tags ih =>
    intro l hn hh htags
    obtain ⟨hnew, htags⟩ := List.nodup_cons.1 htags
    obtain ⟨hn', hh'⟩ := Ledger.converted_keys hn hh streams epoch t
    have hapart {q : Tag} (hq : q ∈ tags) := Ledger.converted_apart hn hh streams epoch (t := t) (q := q)
      (fun h => hnew (h ▸ hq))
    have hcreated : tags.filterMap ((l.converted streams epoch t).created streams epoch) =
        tags.filterMap (l.created streams epoch) := List.filterMap_congr (fun q hq => by
      unfold Ledger.created Ledger.claimedOf
      rw [(hapart hq).1, (hapart hq).2])
    have hcount : tags.countP (fun q => ((l.converted streams epoch t).account? (.station q)).isSome) =
        tags.countP (fun q => (l.account? (.station q)).isSome) :=
      List.countP_congr (fun q hq => by rw [(hapart hq).1])
    have hmerged (h : Holding) : (l.converted streams epoch t).merged streams tags (l.merged streams [t] h) =
        l.merged streams (t :: tags) h := by
      by_cases ht : h.tag = t
      · rw [Ledger.merged_of_not_mem _ streams (by rw [l.merged_tag, ht]; exact hnew)]
        unfold Ledger.merged
        simp [ht]
      · rw [l.merged_of_not_mem streams (by simpa using ht)]
        unfold Ledger.merged Ledger.claimedOf
        by_cases hmem : h.tag ∈ tags
        · rw [(hapart hmem).1, if_pos (by simpa using hmem), if_pos (by simp [hmem])]
        · rw [if_neg (by simpa using hmem), if_neg (by simpa [ht] using hmem)]
    have hkeep : (l.created streams epoch t).toList.map ((l.converted streams epoch t).merged streams tags) =
        (l.created streams epoch t).toList :=
      (List.map_congr_left (fun h hmem => Ledger.merged_of_not_mem _ streams (by
        rw [Ledger.created_tag (Option.mem_toList.1 hmem)]
        exact hnew))).trans (List.map_id _)
    have hfilter : (l.claims.filter (fun c => c.tag != t)).filter (fun c => !tags.contains c.tag) =
        l.claims.filter (fun c => !(t :: tags).contains c.tag) := by
      rw [List.filter_filter]
      refine List.filter_congr (fun c _ => ?_)
      rw [List.contains_cons, Bool.not_or, Bool.and_comm]
      rfl
    have hrecords : (l.created streams epoch t).toList ++ tags.filterMap (l.created streams epoch) =
        (t :: tags).filterMap (l.created streams epoch) := by
      rw [List.filterMap_cons]
      cases l.created streams epoch t <;> rfl
    have hholdings : (l.converted streams epoch t).holdings.map ((l.converted streams epoch t).merged streams tags) =
        l.holdings.map (l.merged streams (t :: tags)) ++ (l.created streams epoch t).toList := by
      have := congrArg Ledger.holdings (Ledger.converted_eq hn hh streams epoch t)
      rw [this, List.map_append, hkeep, List.map_map]
      exact congrArg (· ++ _) (List.map_congr_left (fun h _ => hmerged h))
    rw [List.foldl_cons, ih hn' hh' htags, hcreated, hcount, hholdings, List.append_assoc, hrecords,
      Ledger.converted_eq hn hh streams epoch t]
    simp only [hfilter]
    rw [BitVec.add_assoc, ← BitVec.ofNat_add, ← hrecords, List.length_append,
      show t :: tags = [t] ++ tags from rfl, List.countP_append]
    congr 3
    omega

end Sys2Proof.Machine
end

section
/-! SUPPORT. The conversion of claim records at a trunk reset (R151 to R153). -/

namespace Sys2Proof.Machine

/-! ### One conversion -/

section
variable {s : State} (hn : (s.lgr.claims.map StationClaim.tag).Nodup)
include hn

variable (hh : (s.lgr.holdings.map Holding.tag).Nodup) (touched : List Tag)
include hh

/-- A merge into the holding that a tag has (R151, R152). -/
theorem State.convertClaim_merges {c : StationClaim} (hc : c ∈ s.lgr.claims) {h : Holding} (hmem : h ∈ s.lgr.holdings)
    (htag : h.tag = c.tag) : State.convertClaim (s, touched) c.tag = ({ s with lgr := { s.lgr with
      claims := s.lgr.claims.filter (fun x => x.tag != c.tag), revision := s.lgr.revision + 1
      holdings := s.lgr.holdings.map (fun x => if x.tag = c.tag then
        { h with units := h.units + c.account.claimed, channels := h.channels ||| c.account.held
                 streams := heldList s.streams c.tag h.streams }
        else x) } }, c.tag :: touched) := by
  have hfound : s.lgr.holding? c.tag = some h := htag ▸ find?_of_mem Holding.tag h _ hh hmem
  have hmap : s.lgr.holdings.map (fun x => if x.tag = c.tag then
      { x with units := x.units + c.account.claimed, channels := x.channels ||| c.account.held
               streams := heldList s.streams c.tag x.streams } else x) =
      s.lgr.holdings.map (fun x => if x.tag = c.tag then
        { h with units := h.units + c.account.claimed, channels := h.channels ||| c.account.held
                 streams := heldList s.streams c.tag h.streams } else x) := by
    refine List.map_congr_left (fun x hx => ?_)
    by_cases hxt : x.tag = c.tag
    · obtain rfl := List.inj_on_of_nodup_map hh hx hmem (hxt.trans htag.symm)
      rfl
    · rw [if_neg hxt, if_neg hxt]
  unfold State.convertClaim
  simp only [Ledger.account?_of_mem hn hc, hfound]
  unfold State.mergeHolding
  rw [eraseP_eq_filter StationClaim.tag c.tag _ hn, updateFirst_key Holding.tag _ c.tag _ hh, hmap]

end

/-- A new holding at the newest end, behind what makes room (R151, R153). -/
theorem State.convertClaim_creates {s : State} (touched : List Tag) {t : Tag} {a : Account} (ha : s.lgr.account? (.station t) = some a)
    (hnone : ∀ h ∈ s.lgr.holdings, h.tag ≠ t) :
    State.convertClaim (s, touched) t = ((s.makeRoom touched).newHolding t a, t :: touched) := by
  have hfound : s.lgr.holding? t = none := List.find?_eq_none.2 (fun h hmem => by simpa using hnone h hmem)
  unfold State.convertClaim
  simp only [ha, hfound]

/-- Without a claim record nothing converts. -/
theorem State.convertClaim_none {s : State} (touched : List Tag) {t : Tag} (h : ∀ c ∈ s.lgr.claims, c.tag ≠ t) :
    State.convertClaim (s, touched) t = (s, touched) := by
  have hnone : s.lgr.account? (.station t) = none :=
    Option.map_eq_none_iff.2 (List.find?_eq_none.2 (fun c hc => by simpa using h c hc))
  unfold State.convertClaim
  simp only [hnone]

/-- At 32 holdings the oldest one not touched is released (R153). -/
theorem State.makeRoom_eq {s : State} {touched : List Tag} {before : List Holding} {h : Holding} {after : List Holding}
    (hsplit : s.lgr.holdings = before ++ h :: after) (hfull : s.lgr.holdings.length = 32)
    (hbefore : ∀ x ∈ before, x.tag ∈ touched) (hh : h.tag ∉ touched) :
    s.makeRoom touched = (s.endHolding h).offer .holdingReleased (holdingReleasedBody .overflow h) := by
  have hfind : s.lgr.holdings.find? (fun h => !touched.contains h.tag) = some h := by
    rw [hsplit, List.find?_append, List.find?_eq_none.2 (fun x hx => by simpa using hbefore x hx), Option.none_or,
      List.find?_cons_of_pos (by simpa using hh)]
  unfold State.makeRoom
  rw [if_neg (by rw [hfull]; decide), hfind]

/-! ### All conversions of a trunk reset -/

/-- The ledger behind a trunk reset with room for every new holding (R57, R132, R151). -/
theorem State.trunkReset_ledger {s : State} (cause : ResetCause) (hpos : s.positioned) (hkeyed : s.keyed)
    (hedits : s.editsInPlace) (hstaged : s.stagedInPlace)
    (hroom : s.lgr.holdings.length + s.rst.stations.length ≤ 32) : ∃ l d : Ledger,
    d = ((s.rst.stations.filter (fun e => e.state != .present)).map Station.tag).foldl Ledger.releaseClaim s.lgr ∧
    d.Recharged (fun _ => True) l ∧
    (s.trunkReset cause).lgr = ((s.rst.stations.filter (fun e => e.state == .present)).map Station.tag).foldl
      (fun l t => l.converted (s.trunkReset cause).streams (s.rst.epoch + 1) t) l := by
  obtain ⟨l, hl, heq⟩ := State.resetStreams_eq (s := s.nextEpoch) hpos hkeyed hedits hstaged
  have hdeparted : s.nextEpoch.departedAll.lgr =
      ((s.rst.stations.filter (fun e => e.state != .present)).map Station.tag).foldl Ledger.releaseClaim s.lgr :=
    State.departFold_ledger _ s.nextEpoch (fun e he => by simpa using (List.mem_filter.1 he).2)
  obtain ⟨⟨-, -, -, -, hholdings⟩, hreset⟩ := State.trunkReset_steps cause hpos hkeyed hedits hstaged rfl
  have hconverted := State.convertClaims_beside (s := s.nextEpoch.resetStreams)
    ((s.rst.stations.filter Station.isPresent).map Station.tag) [] (by
      rw [hholdings, List.length_map]
      exact (Nat.add_le_add_left (List.length_filter_le ..) _).trans hroom)
  obtain ⟨-, -, -, -, -, -, hepoch, -⟩ := s.nextEpoch.resetStreams_frame
  have hlgr : s.nextEpoch.resetStreams.lgr = l := by rw [heq]; rfl
  rw [hconverted, hlgr, hepoch] at hreset
  have hstreams : (s.trunkReset cause).streams = s.nextEpoch.resetStreams.streams := by rw [hreset]; rfl
  refine ⟨l, _, rfl, hdeparted ▸ hl, ?_⟩
  rw [hstreams, hreset]
  rfl

/-- The claim records of no station in the roster are left (R132). -/
theorem releasedTags_eq {stations : List Station} (l : List Tag) :
    (l.filter (fun t => !((stations.filter (fun e => e.state != .present)).map Station.tag).contains t)).filter
      (fun t => !((stations.filter Station.isPresent).map Station.tag).contains t) =
      l.filter (fun t => !stations.any (fun e => e.tag == t)) := by
  rw [List.filter_filter]
  refine List.filter_congr (fun t _ => ?_)
  rw [← Bool.not_or]
  refine congrArg _ (Bool.eq_iff_iff.2 ?_)
  simp only [Bool.or_eq_true, List.contains_iff_mem, List.mem_map, List.mem_filter, List.any_eq_true, beq_iff_eq,
    Station.isPresent, bne_iff_ne]
  constructor
  · rintro (⟨e, ⟨he, -⟩, ht⟩ | ⟨e, ⟨he, -⟩, ht⟩) <;> exact ⟨e, he, ht⟩
  · rintro ⟨e, he, ht⟩
    by_cases hp : e.state = .present
    · exact .inl ⟨e, ⟨he, hp⟩, ht⟩
    · exact .inr ⟨e, ⟨he, hp⟩, ht⟩

/-- A PRESENT station's tag is not that of a DEPARTING one. -/
theorem departing_apart {stations : List Station} (h : (stations.map Station.tag).Nodup) {e : Station}
    (he : e ∈ stations.filter Station.isPresent) :
    e.tag ∉ (stations.filter (fun e => e.state != .present)).map Station.tag := by
  intro hmem
  obtain ⟨x, hx, hxe⟩ := List.mem_map.1 hmem
  obtain ⟨he, hstate⟩ := List.mem_filter.1 he
  obtain ⟨hx, hgone⟩ := List.mem_filter.1 hx
  obtain rfl := List.inj_on_of_nodup_map h hx he hxe
  unfold Station.isPresent at hstate
  rw [bne, hstate] at hgone
  exact absurd hgone nofun

/-- A record stays found where others have gone. -/
theorem Ledger.account?_of_left {l : Ledger} {tags : List Tag} {t : Tag} {claims : List StationClaim}
    {units : Nat} {channels : ChannelSet} {revision : Byte} (ht : t ∉ tags)
    (hclaims : claims = l.claims.filter (fun c => !tags.contains c.tag) := by rfl) :
    Ledger.account? { l with
      freeUnits := units, freeChannels := channels, claims := claims, revision := revision } (.station t) =
      l.account? (.station t) := by
  subst hclaims
  unfold Ledger.account?
  simp only
  rw [List.find?_filter]
  have : (fun c : StationClaim => decide ((!tags.contains c.tag) = true ∧ (c.tag == t) = true)) = fun c => c.tag == t := by
    funext c
    by_cases hc : c.tag = t
    · simp [hc, ht]
    · simp [hc]
  rw [this]

theorem filter_map_key {α β : Type} (key : α → β) (p : β → Bool) (l : List α) :
    (l.filter (fun a => p (key a))).map key = (l.map key).filter p := by
  rw [List.filter_map]
  rfl

/-- Settles O39: `State.trunkReset_ledger` with `Ledger.releaseAll_eq` and `Ledger.convertedAll_eq`; the overflow by
`State.makeRoom_eq`; each conversion by its cases. -/
theorem trunkResetConvertsClaims : Obligations.TrunkResetConvertsClaims := by
  refine ⟨fun s cause hpos hkeyed hheld hedits hstaged hroom => ?_,
    fun s touched t a before h after hpos hkeyed hheld ha hnone hsplit hfull hbefore hh => ?_,
    fun s touched t hkeyed => ?_⟩
  · obtain ⟨l, d, hd, hl, hlgr⟩ := State.trunkReset_ledger cause hpos hkeyed hedits hstaged hroom
    obtain ⟨htags, hholdings, hstations, -⟩ := hkeyed
    intro t departing present claimOf holds heldOf released created
    have hdeparting : (departing.map Station.tag).Nodup := hstations.sublist (List.filter_sublist.map _)
    have hpresent : (present.map Station.tag).Nodup := hstations.sublist (List.filter_sublist.map _)
    rw [Ledger.releaseAll_eq _ htags hdeparting, List.filterMap_map] at hd
    have hdtags : d.claims.map StationClaim.tag =
        (s.lgr.claims.map StationClaim.tag).filter (fun t => !(departing.map Station.tag).contains t) := by
      rw [hd]
      exact filter_map_key StationClaim.tag (fun t => !(departing.map Station.tag).contains t) s.lgr.claims
    have hltags : (l.claims.map StationClaim.tag).Nodup := by
      rw [hl.tags, hdtags]
      exact htags.filter _
    have hlholdings : l.holdings = s.lgr.holdings := by rw [hl.holdings, hd]
    replace hlgr : t.lgr = _ := hlgr.trans (Ledger.convertedAll_eq _ _ _ hltags (hlholdings ▸ hholdings) hpresent)
    rw [hlholdings] at hlgr
    have hclaimed : ∀ e ∈ present, l.claimedOf e.tag = s.lgr.claimedOf e.tag := by
      intro e he
      rw [hl.claimedOf, Ledger.claimedOf, Ledger.claimedOf, hd]
      exact congrArg _ (Ledger.account?_of_left (departing_apart hstations he))
    have hcreated : (present.map Station.tag).filterMap (l.created t.streams (s.rst.epoch + 1)) = created := by
      rw [List.filterMap_map]
      refine List.filterMap_congr (fun e he => ?_)
      show l.created t.streams (s.rst.epoch + 1) e.tag = _
      unfold Ledger.created
      rw [hlholdings, hclaimed e he, Ledger.claimedOf, Option.map_map]
      rfl
    have hcount : (present.map Station.tag).countP (fun t => (l.account? (.station t)).isSome) =
        (present.filter (fun e => (claimOf e.tag).isSome)).length := by
      rw [List.countP_map, ← List.countP_eq_length_filter]
      refine List.countP_congr (fun e he => ?_)
      have := congrArg Option.isSome (hclaimed e he)
      unfold Ledger.claimedOf at this
      rw [Option.isSome_map, Option.isSome_map] at this
      exact iff_of_eq (congrArg (· = true) this)
    have hfields : t.lgr.freeUnits = d.freeUnits ∧ t.lgr.freeChannels = d.freeChannels ∧
        t.lgr.host.claimed = s.lgr.host.claimed ∧ t.lgr.host.held = s.lgr.host.held := by
      have hclaimedHost := hl.claimed .host
      have hheldHost := hl.held .host
      rw [hd] at hclaimedHost hheldHost
      rw [hlgr]
      exact ⟨hl.freeUnits, hl.freeChannels, hclaimedHost, hheldHost⟩
    obtain ⟨hunits, hchannels, hhost, hheldHost⟩ := hfields
    refine ⟨by rw [hunits, hd]; rfl, by rw [hchannels, hd]; rfl, ?_, ?_, hhost, hheldHost, ?_⟩
    · have hclaims := congrArg (fun l : Ledger => l.claims.map StationClaim.tag) hlgr
      refine hclaims.trans ?_
      simp only
      rw [filter_map_key StationClaim.tag (fun t => !(present.map Station.tag).contains t), hl.tags, hdtags]
      rw [filter_map_key StationClaim.tag (fun t => !s.rst.stations.any (fun e => e.tag == t))]
      exact releasedTags_eq _
    · refine (congrArg Ledger.holdings hlgr).trans ?_
      simp only
      rw [hcreated]
      refine congrArg (· ++ created) (List.map_congr_left (fun h _ => ?_))
      unfold Ledger.merged
      by_cases hmem : h.tag ∈ present.map Station.tag
      · obtain ⟨e, he, htag⟩ := List.mem_map.1 hmem
        have hclaim : l.claimedOf h.tag = (claimOf h.tag).map (fun a => (a.claimed, a.held)) := htag ▸ hclaimed e he
        rw [if_pos (List.contains_iff_mem.2 hmem), if_pos (List.any_eq_true.2 ⟨e, he, by simpa using htag⟩), hclaim]
        cases claimOf h.tag <;> rfl
      · rw [if_neg (fun h => hmem (List.contains_iff_mem.1 h)), if_neg (by
          rw [List.any_eq_true]
          rintro ⟨e, he, htag⟩
          exact hmem (List.mem_map.2 ⟨e, he, by simpa using htag⟩))]
    · refine (congrArg Ledger.revision hlgr).trans ?_
      simp only
      rw [hcreated, hcount, hl.revision, hd]
      show s.lgr.revision + BitVec.ofNat 8 released.length + _ = _
      rw [BitVec.add_assoc, ← BitVec.ofNat_add, Nat.add_assoc]
  · obtain ⟨hclaims, hholdings, -⟩ := hkeyed
    have hmem : h ∈ s.lgr.holdings := by rw [hsplit]; simp
    have hended := State.endHolding_eq hpos.nodup hholdings hheld hmem
    have hrest : s.lgr.holdings.filter (fun x => x.tag != h.tag) = before ++ after := by
      rw [hsplit, List.map_append, List.map_cons] at hholdings
      obtain ⟨hnew, -⟩ := List.nodup_cons.1 (List.nodup_middle.1 hholdings)
      rw [hsplit, List.filter_append, List.filter_cons_of_neg (by simp), ← List.filter_append]
      refine List.filter_eq_self.2 (fun x hx => ?_)
      have : x.tag ≠ h.tag := fun heq => hnew (by
        rw [← heq, ← List.map_append]
        exact List.mem_map_of_mem hx)
      simpa using this
    rw [State.convertClaim_creates touched ha hnone, State.makeRoom_eq hsplit hfull hbefore hh, hended]
    intro u
    refine ⟨rfl, rfl, rfl, rfl, ?_, eraseP_eq_filter StationClaim.tag t _ hclaims, ?_, ?_, rfl, rfl, rfl, rfl⟩
    · show List.filter _ s.lgr.holdings ++ _ = _
      rw [hrest]
      rfl
    · show s.lgr.revision + 1 + 2 = _
      rw [BitVec.add_assoc]
      rfl
    · have hbody : holdingReleasedBody .overflow h = 2 :: tagBytes h.tag ++ be16 h.units ++ setBytes h.channels
          ++ byteOf h.streams.length :: h.streams.map (fun x => byteOf x.id) := by
        unfold holdingReleasedBody countedList
        rw [flatten_map_singleton]
        rfl
      rw [← hbody]
      rfl
  · obtain ⟨hclaims, hholdings, -⟩ := hkeyed
    intro listed converted
    refine ⟨State.convertClaim_none touched, ?_⟩
    rintro c hc rfl
    intro a left
    refine ⟨fun h hmem htag => State.convertClaim_merges hclaims hholdings touched hc hmem htag, fun hnone hroom => ?_⟩
    show State.convertClaim (s, touched) c.tag = _
    rw [State.convertClaim_creates touched (Ledger.account?_of_mem hclaims hc) hnone,
      show s.makeRoom touched = s from if_pos hroom]
    unfold State.newHolding
    rw [eraseP_eq_filter StationClaim.tag c.tag _ hclaims]
    rfl

end Sys2Proof.Machine
end

section
/-! SUPPORT. The operations that leave the cycle, the reclaim window, the holdings' tags and the sending on the trunk as
they are (R1, R16, R31, R150). -/

namespace Sys2Proof.Machine

/-- Between the two states the cycle, the window, the tags of holdings and what is sent on the trunk stand still, and an
empty roster stays empty. -/
structure State.Still (s t : State) : Prop where
  csq : t.csq = s.csq
  rcu : t.rcu = s.rcu
  tags : t.lgr.holdings.map Holding.tag = s.lgr.holdings.map Holding.tag
  sending : t.tpt.sending = s.tpt.sending
  share : t.tpt.share = s.tpt.share
  stations : s.rst.stations = [] → t.rst.stations = []

namespace State.Still

theorem rfl {s : State} : s.Still s := ⟨Eq.refl _, Eq.refl _, Eq.refl _, Eq.refl _, Eq.refl _, id⟩

theorem trans {s t u : State} (a : s.Still t) (b : t.Still u) : s.Still u :=
  ⟨b.csq.trans a.csq, b.rcu.trans a.rcu, b.tags.trans a.tags, b.sending.trans a.sending, b.share.trans a.share,
    fun h => b.stations (a.stations h)⟩

theorem foldl {α : Type} (f : State → α → State) (h : ∀ (s : State) (a : α), s.Still (f s a)) (l : List α) (s : State) :
    s.Still (l.foldl f s) := by
  induction l generalizing s with
  | nil => exact rfl
  | cons a l ih => exact (h s a).trans (ih _)

/-- A change of the ledger that keeps the holdings' tags. -/
theorem of_ledger {s : State} {l : Ledger} (h : l.holdings.map Holding.tag = s.lgr.holdings.map Holding.tag) :
    s.Still { s with lgr := l } := ⟨Eq.refl _, Eq.refl _, h, Eq.refl _, Eq.refl _, id⟩

/-- A change of records, edits and slot observations. -/
theorem of_streams {s : State} {streams : List StreamRecord} {g : Staging} :
    s.Still { s with streams := streams, stg := g } := ⟨Eq.refl _, Eq.refl _, Eq.refl _, Eq.refl _, Eq.refl _, id⟩

/-- A change of the Host Link and the Report Unit. -/
theorem of_link {s : State} {h : HostLink} {r : Reports} : s.Still { s with hlk := h, rpu := r } :=
  ⟨Eq.refl _, Eq.refl _, Eq.refl _, Eq.refl _, Eq.refl _, id⟩

/-- A change of the roster that invents no entry. -/
theorem of_roster {s : State} {r : Roster} (h : s.rst.stations = [] → r.stations = []) : s.Still { s with rst := r } :=
  ⟨Eq.refl _, Eq.refl _, Eq.refl _, Eq.refl _, Eq.refl _, h⟩

end State.Still

/-! ### Reports, notices and records -/

theorem State.offer_still (s : State) (k : ReportKind) (body : List Byte) : s.Still (s.offer k body) := .of_link

theorem Roster.update_nil {r : Roster} {number : Nat} {f : Station → Station} (h : r.stations = []) :
    (r.update number f).stations = [] := by
  unfold Roster.update
  rw [h]
  rfl

theorem State.joinNotice_still (s : State) (number : Nat) (n : Notice) : s.Still (s.joinNotice number n) := by
  unfold State.joinNotice
  split
  · exact .rfl
  · exact ⟨rfl, rfl, rfl, rfl, rfl, Roster.update_nil⟩

theorem State.handNotice_still (s : State) (number : Nat) (kind : NoticeKind) (body : List Byte) :
    s.Still (s.handNotice number kind body) := by
  unfold State.handNotice
  split
  · exact .rfl
  · split
    · exact s.joinNotice_still _ _
    · unfold State.parkNotice
      simp only
      split
      · exact ⟨rfl, rfl, rfl, rfl, rfl, id⟩
      · exact ⟨rfl, rfl, rfl, rfl, rfl, Roster.update_nil⟩

theorem State.noticeIfPresent_still (s : State) (t : Tag) (kind : NoticeKind) (body : List Byte) :
    s.Still (s.noticeIfPresent t kind body) := by
  unfold State.noticeIfPresent
  split
  · exact .rfl
  · exact s.handNotice_still _ _ _

theorem State.tellOutcome_still (s : State) (recipient : Option Tag) (e : Edit) (o : EditOutcome) :
    s.Still (s.tellOutcome recipient e o) := by
  unfold State.tellOutcome
  split
  · exact s.noticeIfPresent_still _ _ _
  · exact .rfl

theorem State.putStream_still (s : State) (r : StreamRecord) : s.Still (s.putStream r) := .of_streams

theorem State.announce_still (s : State) (r : StreamRecord) (new : Option StreamState) (cause : ChangeCause) (late : Bool) :
    s.Still (s.announce r new cause late) := by
  unfold State.announce
  simp only
  split
  · exact s.offer_still _ _
  · exact (s.offer_still _ _).trans (State.noticeIfPresent_still _ _ _ _)

theorem State.changeState_still (s : State) (r : StreamRecord) (new : StreamState) (cause : ChangeCause) (late : Bool) :
    s.Still (s.changeState r new cause late) := (s.putStream_still _).trans (State.announce_still _ _ _ _ _)

theorem State.removeRecord_still (s : State) (id : Nat) : s.Still (s.removeRecord id) := by
  unfold State.removeRecord
  split
  · exact .rfl
  · next r _ => exact ⟨rfl, rfl, (s.lgr.freeStream_tags r).2, rfl, rfl, fun h => h⟩

theorem State.removeRecords_still (s : State) (ids : List Nat) : s.Still (s.removeRecords ids) :=
  .foldl _ State.removeRecord_still ids s

theorem State.eachStream_still (s : State) (f : StreamRecord → State → State) (h : ∀ r (s : State), s.Still (f r s)) :
    s.Still (s.eachStream f) := by
  refine .foldl _ (fun s id => ?_) _ s
  split
  · exact h _ s
  · exact .rfl

theorem Ledger.uncharge_tags (l : Ledger) (p : Party) (units : Nat) :
    (l.uncharge p units).holdings.map Holding.tag = l.holdings.map Holding.tag :=
  congrArg _ (l.update_frame p _).2.2.1

theorem State.undoEdit_still (s : State) (e : Edit) : s.Still (s.undoEdit e) := by
  unfold State.undoEdit
  split
  · exact s.removeRecord_still _
  · simp only
    split
    · exact (s.putStream_still _).trans (.of_ledger (Ledger.uncharge_tags ..))
    · exact s.putStream_still _
  · exact .rfl

theorem State.dropEdit_still (s : State) (e : Edit) : s.Still (s.dropEdit e) :=
  (State.Still.of_streams (streams := s.streams)).trans (State.undoEdit_still _ e)

theorem State.dropEdits_still (s : State) (l : List Edit) : s.Still (s.dropEdits l) := .foldl _ State.dropEdit_still l s

theorem State.reportDiscards_still (s : State) (why : DiscardReason) (l : List Edit) : s.Still (s.reportDiscards why l) := by
  unfold State.reportDiscards
  split
  · exact .rfl
  · exact s.offer_still _ _

theorem State.tellDiscards_still (s : State) (l : List (Edit × Option Tag)) : s.Still (s.tellDiscards l) :=
  .foldl _ (fun s _ => s.tellOutcome_still _ _ _) l s

/-! ### Departures and the boundary's work -/

theorem State.completeDeparture_still (s : State) (e : Station) : s.Still (s.completeDeparture e) := by
  unfold State.completeDeparture
  split
  · exact .rfl
  · refine ⟨rfl, rfl, congrArg _ (s.lgr.releaseClaim_holdings e.tag), rfl, rfl, fun h => ?_⟩
    refine (Roster.touch_frame _ e.tag).2.1.trans ?_
    unfold State.removeEntry
    rw [h]
    rfl

theorem State.completeDepartures_still (s : State) : s.Still s.completeDepartures :=
  .foldl _ State.completeDeparture_still _ s

theorem State.beginDeparture_still (s : State) (e : Station) (cause : DepartCause) : s.Still (s.beginDeparture e cause) := by
  unfold State.beginDeparture
  simp only
  refine .trans ?_ (State.reportDiscards_still _ _ _)
  have hentry : s.Still { s with
      rst := s.rst.update e.number (fun x => { x with state := .departing cause (s.departingStreams e.tag) }) } :=
    .of_roster Roster.update_nil
  exact (hentry.trans (State.dropEdits_still _ _)).trans (.of_streams (g := (State.dropEdits _ _).stg))

theorem State.removeRetiring_still (r : StreamRecord) (s : State) : s.Still (State.removeRetiring r s) := by
  unfold State.removeRetiring
  split
  · exact (s.removeRecord_still _).trans (State.announce_still _ _ _ _ _)
  · exact .rfl

theorem State.suspendDeparted_still (d : List Tag) (r : StreamRecord) (s : State) :
    s.Still (State.suspendDeparted d r s) := by
  unfold State.suspendDeparted
  split
  · split
    · exact s.changeState_still _ _ _ _
    · exact s.changeState_still _ _ _ _
    · exact .rfl
  · exact .rfl

theorem State.applyMark_still (r : StreamRecord) (s : State) : s.Still (State.applyMark r s) := by
  unfold State.applyMark
  split
  · split
    · exact s.changeState_still _ _ _ _
    · exact s.putStream_still _
  · exact .rfl

theorem State.restore_still (n : Cycle) (r : StreamRecord) (s : State) : s.Still (State.restore n r s) := by
  unfold State.restore
  split
  · simp only
    split
    · exact s.changeState_still _ _ _ _
    · exact s.changeState_still _ _ _ _
    · exact s.changeState_still _ _ _ _
  · exact .rfl

theorem State.activate_still (n : Cycle) (r : StreamRecord) (s : State) : s.Still (State.activate n r s) := by
  unfold State.activate
  split
  · exact s.changeState_still _ _ _ _
  · exact .rfl

theorem State.returnTalker_still (n : Cycle) (r : StreamRecord) (s : State) : s.Still (State.returnTalker n r s) := by
  unfold State.returnTalker
  split
  · exact s.changeState_still _ _ _ _
  · exact .rfl

theorem State.removals_still (s : State) : s.Still s.removals := by
  unfold State.removals
  exact (((s.eachStream_still _ State.removeRetiring_still).trans (State.reportDiscards_still _ _ _)).trans
    (State.tellDiscards_still _ _)).trans (State.completeDepartures_still _)

theorem State.boundaryWork_still (s : State) (n : Cycle) (marks : Bool) : s.Still (s.boundaryWork n marks) := by
  obtain ⟨u, hu⟩ : ∃ u, u = s.removals.eachStream (State.suspendDeparted s.rst.departing) := ⟨_, rfl⟩
  have hfirst : s.Still u := hu ▸ s.removals_still.trans (State.eachStream_still _ _ (State.suspendDeparted_still _))
  have hmarks : u.Still (if marks then u.eachStream State.applyMark else u) := by
    split
    · exact u.eachStream_still _ State.applyMark_still
    · exact .rfl
  unfold State.boundaryWork
  simp only
  rw [← hu]
  exact (((hfirst.trans hmarks).trans (State.eachStream_still _ _ (State.restore_still n))).trans
    (State.eachStream_still _ _ (State.activate_still n))).trans (State.eachStream_still _ _ (State.returnTalker_still n))

/-! ### The commit -/

theorem State.commitEdit_still (s : State) (n : Cycle) (e : Edit) : s.Still (s.commitEdit n e).1 := by
  unfold State.commitEdit
  split
  · exact .rfl
  · split
    · split
      · exact s.putStream_still _
      · exact .rfl
    · split
      · exact s.removeRecord_still _
      · exact .rfl
    · split
      · simp only
        split
        · exact (s.putStream_still _).trans (.of_ledger (Ledger.uncharge_tags ..))
        · exact s.putStream_still _
      · exact .rfl
    · split
      · exact s.putStream_still _
      · exact .rfl
    · split
      · split
        · exact s.putStream_still _
        · exact s.putStream_still _
      · exact .rfl

theorem State.commitUpTo_still (n : Cycle) (k : Nat) (s : State) : s.Still (State.commitUpTo n k s).1 := by
  induction k generalizing s with
  | zero => exact .rfl
  | succ k ih =>
    unfold State.commitUpTo
    split
    · exact .rfl
    · next e rest _ =>
      have hhead : s.Still (s.commitHead n e rest).1 :=
        ((State.Still.of_streams (streams := s.streams)).trans (State.commitEdit_still _ n e)).trans
          (State.tellOutcome_still _ _ _ _)
      exact hhead.trans (ih _)

theorem State.commit_still (s : State) (n : Cycle) : s.Still (s.commit n) := by
  unfold State.commit
  split
  · exact .rfl
  · simp only
    split
    · exact State.commitUpTo_still n _ s
    · exact (State.commitUpTo_still n _ s).trans (State.offer_still _ _ _)

/-! ### Requests -/

theorem Ledger.exchangeUnits_holdings (l : Ledger) (budget : Nat) (rights : Rights) (p : Party) (e n : Nat) :
    (l.exchangeUnits budget rights p e n).1.holdings = l.holdings := by
  have hclaim : (l.claimUnits p e n).holdings = l.holdings := by simp [Ledger.claimUnits, Ledger.ensure_holdings]
  have hrelease : (l.releaseUnits p e n).holdings = l.holdings := by simp [Ledger.releaseUnits, Ledger.dropEmpty_holdings]
  unfold Ledger.exchangeUnits
  generalize (!(if n = e then rights.query else rights.claim)) = refused
  simp only
  split_ifs
  · rfl
  · rfl
  · rfl
  · rfl
  · exact hclaim
  · rfl
  · rfl
  · exact hrelease

theorem Ledger.moveChannels_holdings (l : Ledger) (p : Party) (a b : ChannelSet) :
    (l.moveChannels p a b).holdings = l.holdings := by
  unfold Ledger.moveChannels
  simp only
  rw [Ledger.dropEmpty_holdings]
  split
  · simp
  · simp [Ledger.ensure_holdings]

theorem Ledger.exchangeChannels_holdings (l : Ledger) (rights : Rights) (p : Party) (e n : BitVec 256) :
    (l.exchangeChannels rights p e n).1.holdings = l.holdings := by
  unfold Ledger.exchangeChannels
  generalize (!(if n = e then rights.query else rights.claim)) = refused
  simp only
  split_ifs
  · rfl
  · rfl
  · rfl
  · rfl
  · rfl
  · rfl
  · exact Ledger.moveChannels_holdings ..

theorem Ledger.chargeEdit_holdings {l m : Ledger} {r : StreamRecord} {op : EditOp} (h : l.chargeEdit r op = some m) :
    m.holdings = l.holdings := by
  unfold Ledger.chargeEdit at h
  split at h
  · obtain ⟨-, rfl, -⟩ := Ledger.charge_some h
    exact (l.update_frame _ _).2.2.1
  · exact (Option.some.inj h) ▸ rfl

theorem Ledger.chargeAndBind_holdings {l m : Ledger} {a : AdmitArgs} {id : Nat} (h : l.chargeAndBind a id = .ok m) :
    m.holdings = l.holdings := by
  unfold Ledger.chargeAndBind at h
  split at h
  · exact absurd h nofun
  · next l1 h1 =>
    split at h
    · exact absurd h nofun
    · next l2 h2 =>
      obtain rfl := Except.ok.inj h
      obtain ⟨-, rfl, -⟩ := Ledger.charge_some h1
      obtain ⟨-, rfl, -⟩ := Ledger.bind_some h2
      simp

theorem takeExchangeUnits_still (p : Party) (body : List Byte) (s : State) : s.Still (takeExchangeUnits p body s).1 := by
  unfold takeExchangeUnits
  split
  · exact .rfl
  · exact .of_ledger (congrArg _ (Ledger.exchangeUnits_holdings ..))

theorem takeExchangeChannels_still (p : Party) (body : List Byte) (s : State) :
    s.Still (takeExchangeChannels p body s).1 := by
  unfold takeExchangeChannels
  split
  · exact .rfl
  · exact .of_ledger (congrArg _ (Ledger.exchangeChannels_holdings ..))

theorem takeAdmit_still (p : Party) (body : List Byte) (s : State) : s.Still (takeAdmit p body s).1 := by
  unfold takeAdmit
  split
  · exact .rfl
  · split
    · exact .rfl
    · simp only
      split
      · exact .rfl
      · next l hl =>
        exact (State.Still.of_ledger (congrArg _ (Ledger.chargeAndBind_holdings hl))).trans .of_streams

theorem State.submitEdit_still (s : State) (kind : Kind) (p : Party) (id units : Nat) :
    s.Still (s.submitEdit kind p id units).1 := by
  unfold State.submitEdit
  split
  · exact .rfl
  · exact .rfl
  · simp only
    split
    · exact .rfl
    · next l hl =>
      exact (State.Still.of_ledger (congrArg _ (Ledger.chargeEdit_holdings hl))).trans .of_streams

theorem takeStreamEdit_still (kind : Kind) (p : Party) (body : List Byte) (s : State) :
    s.Still (takeStreamEdit kind p body s).1 := by
  unfold takeStreamEdit
  split
  · exact .rfl
  · exact s.submitEdit_still _ _ _ _

theorem takeResize_still (p : Party) (body : List Byte) (s : State) : s.Still (takeResize p body s).1 := by
  unfold takeResize
  split
  · exact .rfl
  · exact s.submitEdit_still _ _ _ _

theorem takeWithdraw_still (p : Party) (body : List Byte) (s : State) : s.Still (takeWithdraw p body s).1 := by
  unfold takeWithdraw
  split
  · exact .rfl
  · split_ifs
    · exact .rfl
    · exact .rfl
    · split
      · exact .rfl
      · split_ifs
        · exact .rfl
        · simp only
          split
          · exact (s.dropEdit_still _).trans (State.noticeIfPresent_still _ _ _ _)
          · exact s.dropEdit_still _

theorem partyRequest_still {kind : Kind} {p : Party} {body : List Byte} {s : State} {x : State × Reply}
    (h : partyRequest kind p body s = some x) : s.Still x.1 := by
  unfold partyRequest at h
  split at h
  case h_11 => exact absurd h nofun
  all_goals obtain rfl := Option.some.inj h
  · exact takeExchangeUnits_still p body s
  · exact takeExchangeChannels_still p body s
  · exact .rfl
  · exact takeAdmit_still p body s
  · exact takeStreamEdit_still _ _ _ _
  · exact takeResize_still _ _ _
  · exact takeStreamEdit_still _ _ _ _
  · exact takeStreamEdit_still _ _ _ _
  · exact takeWithdraw_still _ _ _
  · exact .rfl

theorem State.giveRights_still (s : State) (t : Tag) (rights : Rights) :
    s.Still { s with rst := (s.rst.giveRights t rights).1 } :=
  .of_roster (fun h => (Roster.giveRights_frame s.rst t rights).2.1.trans h)

theorem State.evictPresent_still (s : State) (e : Station) : s.Still (s.evictPresent e) :=
  (s.handNotice_still _ _ _).trans (State.beginDeparture_still _ _ _)

theorem State.resetStreams_still (s : State) : s.Still s.resetStreams := by
  unfold State.resetStreams
  simp only
  exact ((((s.removeRecords_still _).trans (State.completeDepartures_still _)).trans (State.dropEdits_still _ _)).trans
    (State.reportDiscards_still _ _ _)).trans (.of_streams (g := (State.reportDiscards _ _ _).stg))

theorem State.transmit_still (s : State) : s.Still s.transmit := by
  rw [s.transmit_eq]
  exact .of_link

end Sys2Proof.Machine
end

section
/-! SUPPORT. Waiters, the cycle, the reclaim window and silence through every operation (R1, R16, R30, R31, R150). -/

namespace Sys2Proof.Machine

/-- Waiters, the cycle, the reclaim window and silence stand where the part state has them. -/
structure State.Placed (s : State) : Prop where
  cycle : s.csq.inPlace
  window : s.windowInPlace
  silent : s.silentInPlace

/-- The part is in STARTING or RUNNING. -/
def State.active (s : State) : Prop := s.csq.partState = .starting ∨ s.csq.partState = .running

/-- In STARTING and RUNNING nothing need be silent. -/
theorem State.silentInPlace_of_active {s : State} (h : s.active) : s.silentInPlace := by
  rcases h with h | h
  · exact ⟨fun hs => absurd hs (by rw [h]; simp), fun hs => absurd hs (by rw [h]; simp)⟩
  · exact ⟨fun hs => absurd hs (by rw [h]; simp), fun hs => absurd hs (by rw [h]; simp)⟩

/-- The window stays in place where it stands still and the holdings are as many as before, or none as before. -/
theorem State.windowInPlace.of_eq {s t : State} (h : s.windowInPlace) (hrcu : t.rcu = s.rcu)
    (hnone : t.lgr.holdings = [] ↔ s.lgr.holdings = []) : t.windowInPlace := by
  obtain ⟨hopen, hclosed⟩ := h
  refine ⟨?_, by rw [hrcu]; exact hclosed⟩
  rw [hrcu, hopen]
  exact not_congr hnone.symm

theorem State.Still.holdings {s t : State} (h : s.Still t) : t.lgr.holdings = [] ↔ s.lgr.holdings = [] := by
  rw [← List.map_eq_nil_iff (f := Holding.tag), h.tags, List.map_eq_nil_iff]

theorem State.Placed.still {s t : State} (hs : s.Placed) (h : s.Still t) : t.Placed where
  cycle := h.csq ▸ hs.cycle
  window := hs.window.of_eq h.rcu h.holdings
  silent := by
    obtain ⟨hsilent, hquiescent⟩ := hs.silent
    refine ⟨?_, ?_⟩
    · rw [h.csq, h.sending, h.share]
      exact hsilent
    · rw [h.csq]
      exact fun hq => ⟨h.stations (hquiescent hq).1, h.holdings.2 (hquiescent hq).2⟩

/-- The reset values (R14, R60, R163, R178). -/
theorem State.Placed.atReset (cfg : ConfigRecord) (rate : Nat) (pending : List Instr) :
    (State.atReset cfg rate pending).Placed where
  cycle := ⟨fun h => absurd rfl h, fun h => absurd rfl h, fun _ => rfl, fun _ => rfl⟩
  window := ⟨⟨nofun, fun h => absurd rfl h⟩, fun _ => rfl⟩
  silent := ⟨fun _ => ⟨rfl, rfl⟩, fun _ => ⟨rfl, rfl⟩⟩

/-! ### The ends of holdings -/

/-- Holdings may have ended between the two states; the rest of what is placed stands still. -/
structure State.Fewer (s t : State) : Prop where
  csq : t.csq = s.csq
  rcu : t.rcu = s.rcu
  none : s.lgr.holdings = [] → t.lgr.holdings = []
  sending : t.tpt.sending = s.tpt.sending
  share : t.tpt.share = s.tpt.share
  stations : s.rst.stations = [] → t.rst.stations = []

theorem State.Still.fewer {s t : State} (h : s.Still t) : s.Fewer t :=
  ⟨h.csq, h.rcu, h.holdings.2, h.sending, h.share, h.stations⟩

theorem State.Fewer.trans {s t u : State} (a : s.Fewer t) (b : t.Fewer u) : s.Fewer u :=
  ⟨b.csq.trans a.csq, b.rcu.trans a.rcu, fun h => b.none (a.none h), b.sending.trans a.sending, b.share.trans a.share,
    fun h => b.stations (a.stations h)⟩

theorem State.Fewer.silent {s t : State} (h : s.Fewer t) (hs : s.silentInPlace) : t.silentInPlace := by
  obtain ⟨hsilent, hquiescent⟩ := hs
  refine ⟨?_, ?_⟩
  · rw [h.csq, h.sending, h.share]
    exact hsilent
  · rw [h.csq]
    exact fun hq => ⟨h.stations (hquiescent hq).1, h.none (hquiescent hq).2⟩

theorem Ledger.releaseHolding_none {l : Ledger} (t : Tag) (h : l.holdings = []) : (l.releaseHolding t).holdings = [] := by
  unfold Ledger.releaseHolding Ledger.holding?
  rw [h]
  exact h

theorem State.endHolding_fewer (s : State) (h : Holding) : s.Fewer (s.endHolding h) :=
  (s.removeRecords_still _).fewer.trans ⟨rfl, rfl, Ledger.releaseHolding_none h.tag, rfl, rfl, id⟩

/-- A window left without holdings closes (R157). -/
theorem State.Placed.closeIfEmptied {s t : State} (hs : s.Placed) (h : s.Fewer t) : t.closeIfEmptied.Placed := by
  have hsilent := h.silent hs.silent
  have hcycle : t.csq.inPlace := h.csq ▸ hs.cycle
  obtain ⟨hopen, hclosed⟩ := hs.window
  unfold State.closeIfEmptied
  split
  · next hempty =>
    rw [Bool.and_eq_true, List.isEmpty_iff] at hempty
    exact ⟨hcycle, ⟨⟨nofun, fun hne => absurd hempty.2 hne⟩, fun _ => rfl⟩, hsilent⟩
  · next hleft =>
    rw [Bool.and_eq_true, List.isEmpty_iff] at hleft
    refine ⟨hcycle, ⟨⟨fun ho hne => hleft ⟨ho, hne⟩, fun hne => ?_⟩, by rw [h.rcu]; exact hclosed⟩, hsilent⟩
    rw [h.rcu]
    exact hopen.2 (fun hnone => hne (h.none hnone))

theorem State.Placed.discardHolding {s : State} (hs : s.Placed) (h : Holding) (cause : ReleaseCause) :
    (s.discardHolding h cause).Placed := by
  have hended := (s.endHolding_fewer h).trans
    ((s.endHolding h).offer_still .holdingReleased (holdingReleasedBody cause h)).fewer
  unfold State.discardHolding
  simp only
  split
  · exact hs.closeIfEmptied (hended.trans (State.handNotice_still ..).fewer)
  · exact hs.closeIfEmptied hended

theorem State.Placed.reclaimHolding {s : State} (hs : s.Placed) (number : Nat) (h : Holding) :
    (s.reclaimHolding number h).Placed := by
  have hconverted : s.Fewer { s with
      lgr := s.lgr.convertHolding h s.streams
      streams := s.streams.map (fun (r : StreamRecord) =>
        if (h.streams.map HeldStream.id).contains r.id then r.leaveHeld else r) } := by
    refine ⟨rfl, rfl, fun hnone => ?_, rfl, rfl, id⟩
    unfold Ledger.convertHolding
    simp [Ledger.ensure_holdings, hnone]
  exact hs.closeIfEmptied (hconverted.trans (State.offer_still _ .reclaimed (s.reclaimedBody number h)).fewer)

/-! ### The window's count and close -/

/-- The first holding's end leaves the others, in order. -/
theorem State.endHolding_head {s : State} {h : Holding} {tags : List Tag}
    (hs : s.lgr.holdings.map Holding.tag = h.tag :: tags) : (s.endHolding h).lgr.holdings.map Holding.tag = tags := by
  have htags := (s.removeRecords_still (h.streams.map HeldStream.id)).tags.trans hs
  unfold State.endHolding
  simp only
  generalize s.removeRecords (h.streams.map HeldStream.id) = u at htags
  cases hl : u.lgr.holdings with
  | nil => rw [hl] at htags; exact absurd htags nofun
  | cons k l =>
    rw [hl] at htags
    obtain ⟨hk, hl'⟩ := List.cons.inj htags
    unfold Ledger.releaseHolding Ledger.holding?
    rw [hl, List.find?_cons_of_pos (by simpa using hk), List.eraseP_cons_of_pos (by simpa using hk)]
    exact hl'

theorem State.expireHoldings_fewer (l : List Holding) : ∀ {s : State}, s.lgr.holdings.map Holding.tag = l.map Holding.tag →
    s.Fewer (l.foldl State.expireHolding s) ∧ (l.foldl State.expireHolding s).lgr.holdings = [] := by
  induction l with
  | nil => exact fun h => ⟨State.Still.rfl.fewer, List.map_eq_nil_iff.1 h⟩
  | cons h l ih =>
    intro s hs
    have htold := (s.endHolding h).noticeIfPresent_still h.tag .claimReleased
      (claimReleasedBody 2 h.units h.channels h.streams.length)
    obtain ⟨hfewer, hnone⟩ := ih (s := s.expireHolding h) (htold.tags.trans (State.endHolding_head hs))
    exact ⟨((s.endHolding_fewer h).trans htold.fewer).trans hfewer, hnone⟩

theorem State.expireWindow_window (s : State) :
    (s.expireWindow).windowInPlace ∧ (s.silentInPlace → s.expireWindow.silentInPlace) ∧ s.expireWindow.csq = s.csq := by
  obtain ⟨hfewer, hnone⟩ := State.expireHoldings_fewer s.lgr.holdings (s := s) rfl
  exact ⟨⟨⟨nofun, fun h => absurd hnone h⟩, fun _ => rfl⟩, fun h => hfewer.silent h, hfewer.csq⟩

theorem State.Placed.expireWindow {s : State} (hs : s.Placed) : s.expireWindow.Placed := by
  obtain ⟨hwindow, hsilent, hcsq⟩ := s.expireWindow_window
  exact ⟨hcsq ▸ hs.cycle, hwindow, hsilent hs.silent⟩

/-- The countdown keeps the window in place (R155). -/
theorem State.windowInPlace.countDown {s : State} (hs : s.windowInPlace) : s.countDown.windowInPlace := by
  obtain ⟨hopen, hclosed⟩ := hs
  unfold State.countDown
  split
  · next ho =>
    simp only
    split
    · exact (State.expireWindow_window _).1
    · exact ⟨hopen, fun h => absurd (ho.symm.trans h) nofun⟩
  · exact ⟨hopen, hclosed⟩

/-- A boundary keeps the window in place (R24). -/
theorem State.windowInPlace.boundary {s : State} (hs : s.windowInPlace) (timing : Timing) (stretch : Nat) :
    (s.boundary timing stretch).windowInPlace := by
  obtain ⟨u, hu⟩ : ∃ u, u = { s with csq := { s.csq with lastCycle := some s.csq.nextCycle } } := ⟨_, rfl⟩
  have hwindow : u.windowInPlace := by rw [hu]; exact hs
  have hwork := (u.commit_still s.csq.nextCycle).trans (State.boundaryWork_still _ s.csq.nextCycle true)
  have hcount := (hwindow.of_eq hwork.rcu hwork.holdings).countDown
  unfold State.boundary
  simp only
  rw [← hu]
  exact hcount.of_eq (State.formPlan_rcu ..) (by rw [State.formPlan_lgr])

/-- A part in RUNNING outside a stretch, without start waiters. -/
theorem State.Placed.running {s : State} (hrun : s.csq.partState = .running) (hstarts : s.csq.startWaiters = [])
    (hphase : s.csq.phase ≠ .stretch) (hwindow : s.windowInPlace) : s.Placed where
  cycle := ⟨fun h => absurd hstarts h, fun _ => hrun, fun h => absurd h hphase, fun h => absurd hrun h⟩
  window := hwindow
  silent := State.silentInPlace_of_active (.inr hrun)

/-- What a boundary leaves of the cycle and the window (R24). -/
theorem State.boundary_placement {s : State} (hrun : s.csq.partState = .running) (hs : s.windowInPlace) (timing : Timing)
    (stretch : Nat) : (s.boundary timing stretch).csq.partState = .running ∧
      (s.boundary timing stretch).csq.startWaiters = s.csq.startWaiters ∧
      (s.boundary timing stretch).csq.phase ≠ .stretch ∧ (s.boundary timing stretch).windowInPlace := by
  obtain ⟨-, -, -, -, -, hpart, -, hstarts, -, -, hphase⟩ := s.boundary_frame timing stretch
  exact ⟨hpart.trans hrun, hstarts, by rw [hphase]; nofun, hs.boundary timing stretch⟩

/-! ### The trunk reset and the halt -/

/-- A conversion leaves a holding where one stood (R151, R153). -/
theorem State.convertClaim_holdings {s : State} {touched : List Tag} {t : Tag} (h : s.lgr.holdings ≠ []) :
    (State.convertClaim (s, touched) t).1.lgr.holdings ≠ [] := by
  unfold State.convertClaim
  simp only
  split
  · exact h
  · unfold State.mergeHolding
    simp only
    intro hnone
    have := congrArg List.length hnone
    rw [updateFirst_length] at this
    exact h (List.length_eq_zero_iff.1 this)
  · unfold State.newHolding
    simp

theorem State.convertFold_holdings (tags : List Tag) : ∀ {s : State} {touched : List Tag}, s.lgr.holdings ≠ [] →
    (tags.foldl State.convertClaim (s, touched)).1.lgr.holdings ≠ [] := by
  induction tags with
  | nil => exact fun h => h
  | cons t tags ih =>
    intro s touched h
    rw [List.foldl_cons, ← Prod.mk.eta (p := State.convertClaim (s, touched) t)]
    exact ih (State.convertClaim_holdings h)

/-- The window opens at a trunk reset exactly where a holding exists (R154). -/
theorem State.windowInPlace.trunkReset {s : State} (hs : s.windowInPlace) (cause : ResetCause) :
    (s.trunkReset cause).windowInPlace := by
  obtain ⟨hopen, hclosed⟩ := hs
  rw [State.trunkReset_shares s cause rfl rfl]
  obtain ⟨converted, hconverted⟩ : ∃ c, c = ((s.nextEpoch.resetStreams.rst.presentTags.foldl State.convertClaim
    (s.nextEpoch.resetStreams, [])).1) := ⟨_, rfl⟩
  rw [← hconverted]
  have hnone : converted.lgr.holdings = [] → s.lgr.holdings = [] := by
    intro h
    by_contra hne
    have hahead : s.nextEpoch.resetStreams.lgr.holdings ≠ [] :=
      fun hnil => hne ((State.resetStreams_still s.nextEpoch).holdings.1 hnil)
    exact State.convertFold_holdings _ hahead (hconverted ▸ h)
  refine ⟨?_, ?_⟩
  · show (if converted.lgr.holdings = [] then s.rcu else _).isOpen = true ↔ converted.lgr.holdings ≠ []
    split
    · next h => exact ⟨fun ho => absurd (hnone h) (hopen.1 ho), fun hne => absurd h hne⟩
    · next h => exact ⟨fun _ => h, fun _ => rfl⟩
  · show (if converted.lgr.holdings = [] then s.rcu else _).isOpen = false → (if converted.lgr.holdings = [] then s.rcu else _).remaining = 0
    split
    · exact hclosed
    · exact nofun

theorem State.Placed.trunkReset {s : State} (hwindow : s.windowInPlace) (hwaiters : s.csq.haltWaiters = [])
    (cause : ResetCause) : (s.trunkReset cause).Placed := by
  obtain ⟨-, -, -, hpart, -, hphase, -, -, -, -, -, hhalts, -⟩ := s.trunkReset_frame cause
  refine ⟨⟨fun _ => hpart, fun h => absurd (hhalts.trans hwaiters) h, fun _ => hhalts.trans hwaiters, fun _ => hphase⟩,
    hwindow.trunkReset cause, State.silentInPlace_of_active (.inl hpart)⟩

/-- A part that enters HALTED without waiters. -/
theorem State.Placed.halted {s : State} (hpart : s.csq.partState = .halted) (hphase : s.csq.phase = .none)
    (hstarts : s.csq.startWaiters = []) (hhalts : s.csq.haltWaiters = []) (hsending : s.tpt.sending = none)
    (hshare : s.tpt.share = none) (hwindow : s.windowInPlace) : s.Placed where
  cycle := ⟨fun h => absurd hstarts h, fun h => absurd hhalts h, fun _ => hhalts, fun _ => hphase⟩
  window := hwindow
  silent := ⟨fun _ => ⟨hsending, hshare⟩, fun h => absurd (hpart.symm.trans h) nofun⟩

/-- The abandonment of a roll call leaves the window in place (R5, R140). -/
theorem State.windowInPlace.abandonRollCall {s : State} (hs : s.windowInPlace) : s.abandonRollCall.windowInPlace :=
  hs.of_eq s.completeDepartures_still.rcu s.completeDepartures_still.holdings

theorem State.Placed.abandonRollCall {s : State} (hwindow : s.windowInPlace) (hwaiters : s.csq.haltWaiters = []) :
    s.abandonRollCall.Placed := by
  obtain ⟨-, -, -, -, -, -, hcsq, -⟩ := s.abandonRollCall_frame
  exact .halted (by rw [hcsq]) (by rw [hcsq]) (by rw [hcsq]) (by rw [hcsq]; exact hwaiters) rfl rfl hwindow.abandonRollCall

theorem State.Placed.takeCause {s : State} (hwindow : s.windowInPlace) (cause : ResetCause) :
    (s.takeCause cause).Placed := by
  have hreset := hwindow.trunkReset cause
  have hplaced := State.Placed.trunkReset (cause := cause) hwindow
  unfold State.takeCause
  simp only
  generalize s.trunkReset cause = u at hreset hplaced
  split
  · obtain ⟨-, -, -, -, -, -, hcsq, -⟩ := u.abandonRollCall_frame
    have hleft := hreset.abandonRollCall
    have hsending : u.abandonRollCall.tpt.sending = none := rfl
    have hshare : u.abandonRollCall.tpt.share = none := rfl
    generalize u.abandonRollCall = v at hcsq hleft hsending hshare
    unfold State.answerHalts
    exact .halted (congrArg Sequencer.partState hcsq) (congrArg Sequencer.phase hcsq)
      (congrArg Sequencer.startWaiters hcsq) rfl hsending hshare hleft
  · next h => exact hplaced (by simpa [Sequencer.haltPending] using h)

end Sys2Proof.Machine
end

section
/-! SUPPORT. Waiters, the cycle, the reclaim window and silence through every command (R1, R16, R30, R31, R150). -/

namespace Sys2Proof.Machine

/-! ### The host's requests -/

theorem State.Placed.waitStart_trunkReset {s : State} (hs : s.Placed) (hpart : s.csq.partState ≠ .running) (tag : Byte)
    (cause : ResetCause) : ((s.waitStart tag).trunkReset cause).Placed := by
  obtain ⟨-, hhalts, -⟩ := hs.cycle
  exact .trunkReset (s := s.waitStart tag) hs.window (by_contra (fun h => hpart (hhalts h))) cause

theorem takeStart_placed {s : State} (hs : s.Placed) (tag : Byte) (body : List Byte) : (takeStart tag body s).1.Placed := by
  unfold takeStart
  split
  · exact hs
  · split
    · next h => exact hs.waitStart_trunkReset (by rw [h]; nofun) tag .start
    · next h => exact hs.waitStart_trunkReset (by rw [h]; nofun) tag .start
    · exact hs
    · exact hs

theorem takeTrunkReset_placed {s : State} (hs : s.Placed) (tag : Byte) (body : List Byte) :
    (takeTrunkReset tag body s).1.Placed := by
  have hcause : ((s.waitStart tag).takeCause .trunkReset).Placed := .takeCause (s := s.waitStart tag) hs.window .trunkReset
  unfold takeTrunkReset
  split
  · exact hs
  · split
    · exact hs
    · exact hs
    · exact hcause
    · exact hcause

theorem takeHalt_placed {s : State} (hs : s.Placed) (tag : Byte) (body : List Byte) : (takeHalt tag body s).1.Placed := by
  obtain ⟨hstarts, hhalts, hstretch, hnone⟩ := hs.cycle
  unfold takeHalt
  split
  · exact hs
  · split
    · exact hs
    · exact hs
    · next h => exact .abandonRollCall hs.window (by_contra (fun hne => absurd (h.symm.trans (hhalts hne)) nofun))
    · next h =>
      have hempty : s.csq.startWaiters = [] := by_contra (fun hne => absurd (h.symm.trans (hstarts hne)) nofun)
      split
      · next hphase => exact .halted rfl rfl hempty (hstretch hphase) rfl rfl hs.window
      · next hphase =>
        exact ⟨⟨hstarts, fun _ => h, fun hp => absurd hp hphase, hnone⟩, hs.window, hs.silent⟩

theorem takeReset_placed {s : State} (hs : s.Placed) (tag : Byte) (body : List Byte) : (takeReset tag body s).1.Placed := by
  obtain ⟨-, -, -, hnone⟩ := hs.cycle
  unfold takeReset
  split
  · exact hs
  · refine ⟨⟨fun h => absurd rfl h, fun h => absurd rfl h, fun _ => rfl, fun h => ?_⟩, hs.window, hs.silent⟩
    show s.csq.phase.afterReset = .none
    rw [hnone h]
    rfl

theorem takeDiscardHolding_placed {s : State} (hs : s.Placed) (body : List Byte) :
    (takeDiscardHolding body s).1.Placed := by
  unfold takeDiscardHolding
  split
  · exact hs
  · split
    · exact hs
    · exact hs.discardHolding _ _

theorem State.evict_placed {s : State} (hs : s.Placed) (t : Tag) : (s.evict t).1.Placed := by
  unfold State.evict
  split
  · split
    · exact hs.still (s.evictPresent_still _)
    · exact hs
  · split
    · exact hs.discardHolding _ _
    · exact hs

theorem takeEvict_placed {s : State} (hs : s.Placed) (body : List Byte) : (takeEvict body s).1.Placed := by
  unfold takeEvict
  split
  · exact hs
  · simp only
    split
    · exact (State.evict_placed hs _).still (State.giveRights_still _ _ _)
    · exact State.evict_placed hs _

theorem takeSetRights_still (body : List Byte) (s : State) : s.Still (takeSetRights body s).1 := by
  unfold takeSetRights
  split
  · exact .rfl
  · exact s.giveRights_still _ _

theorem takeConfigure_still (body : List Byte) (s : State) : s.Still (takeConfigure body s).1 := by
  unfold takeConfigure
  simp only
  split
  · exact .rfl
  · exact ⟨rfl, rfl, rfl, rfl, rfl, id⟩

theorem takeFreeze_still (kind : Kind) (frozen : Bool) (body : List Byte) (s : State) :
    s.Still (takeFreeze kind frozen body s).1 := by
  unfold takeFreeze
  split
  · exact .rfl
  · exact .of_streams (streams := s.streams)

theorem takeReportAck_still (body : List Byte) (s : State) : s.Still (takeReportAck body s).1 := by
  unfold takeReportAck
  split
  · split
    · exact .rfl
    · exact .of_link (h := s.hlk)
  · exact .rfl

theorem hostOwner_placed {kind : Kind} {tag : Byte} {body : List Byte} {s : State} {x : State × Option Reply}
    (hs : s.Placed) (h : hostOwner kind tag body s = some x) : x.1.Placed := by
  unfold hostOwner at h
  split at h
  case h_20 =>
    obtain ⟨y, hy, hx⟩ := Option.bind_eq_some_iff.1 h
    obtain rfl := Option.some.inj hx
    exact hs.still (partyRequest_still hy)
  case h_18 => exact absurd h nofun
  case h_19 => exact absurd h nofun
  all_goals obtain rfl := Option.some.inj h
  · exact hs.still (takeConfigure_still _ _)
  · exact hs
  · exact takeStart_placed hs _ _
  · exact takeHalt_placed hs _ _
  · exact takeReset_placed hs _ _
  · exact takeTrunkReset_placed hs _ _
  · exact hs
  · exact hs
  · exact takeDiscardHolding_placed hs _
  · exact hs.still (takeFreeze_still _ _ _ _)
  · exact hs.still (takeFreeze_still _ _ _ _)
  · exact hs
  · exact hs
  · exact hs
  · exact hs.still (takeSetRights_still _ _)
  · exact takeEvict_placed hs _
  · exact hs.still (takeReportAck_still _ _)

/-! ### The Host Link -/

theorem State.Placed.link {s : State} (hs : s.Placed) (h : HostLink) : State.Placed { s with hlk := h } :=
  hs.still (.of_link (r := s.rpu))

theorem State.takeHostRequest_placed {s t : State} (hs : s.Placed) {q : HostRequest} (h : s.takeHostRequest q = some t) :
    t.Placed := by
  have hopen : (s.openEntry q).Placed := hs.link _
  unfold State.takeHostRequest at h
  split at h
  · next s2 r hx =>
    obtain rfl := Option.some.inj h
    obtain ⟨k, -, hk⟩ := Option.bind_eq_some_iff.1 hx
    exact (hostOwner_placed hopen hk).link _
  · next s2 hx =>
    obtain rfl := Option.some.inj h
    obtain ⟨k, -, hk⟩ := Option.bind_eq_some_iff.1 hx
    exact hostOwner_placed hopen hk
  · exact absurd h nofun

theorem State.judgeFresh_placed {s : State} (hs : s.Placed) (q : HostRequest) : (s.judgeFresh q).Placed := by
  unfold State.judgeFresh
  split
  · exact hs.link _
  · split_ifs
    · exact hs.link _
    · cases ht : s.takeHostRequest q with
      | none => exact hs.link _
      | some t => exact State.takeHostRequest_placed hs ht

theorem State.judge_placed {s : State} (hs : s.Placed) (q : HostRequest) : (s.judge q).Placed := by
  unfold State.judge
  split_ifs
  · exact hs
  · exact hs.link _
  · split
    · split_ifs
      · exact hs.link _
      · exact State.judgeFresh_placed (hs.link _) q
    · exact State.judgeFresh_placed hs q

theorem State.abandonFrame_placed {s : State} (hs : s.Placed) (cause : Byte) (kind tag : Option Byte) :
    (s.abandonFrame cause kind tag).Placed := hs.link _

theorem State.finishFrame_placed {s : State} (hs : s.Placed) (bytes : List Byte) (damaged : Bool) :
    (s.finishFrame bytes damaged).Placed := by
  unfold State.finishFrame
  simp only
  split
  · split
    · exact State.judge_placed (hs.link _) _
    · exact State.abandonFrame_placed hs _ _ _
  · exact State.abandonFrame_placed hs _ _ _

theorem State.receiveByte_placed {s : State} (hs : s.Placed) (b : HostByte) : (s.receiveByte b).Placed := by
  unfold State.receiveByte
  split
  · split
    · exact hs.link _
    · exact hs
  · unfold State.assemble
    simp only
    split_ifs
    · exact State.abandonFrame_placed hs _ _ _
    · exact State.abandonFrame_placed hs _ _ _
    · exact State.finishFrame_placed hs _ _
    · exact hs.link _

theorem State.receiveBytes_placed (bytes : List HostByte) : ∀ {s : State}, s.Placed →
    (bytes.foldl State.receiveByte s).Placed := by
  induction bytes with
  | nil => exact fun hs => hs
  | cons b bytes ih => exact fun hs => ih (State.receiveByte_placed hs b)

theorem State.byteTimeout_placed {s : State} (hs : s.Placed) : s.byteTimeout.Placed := by
  unfold State.byteTimeout
  split
  · exact hs
  · exact State.abandonFrame_placed hs _ _ _

theorem State.replySent_placed {s : State} (hs : s.Placed) (rateA rateB : Bool) : (s.replySent rateA rateB).Placed := by
  unfold State.replySent
  split
  · split
    · exact .atReset _ _ _
    · exact hs.link _
  · exact hs

theorem State.answerSent_placed {s : State} (hs : s.Placed) : s.answerSent.Placed := by
  unfold State.answerSent
  split
  · exact hs.link _
  · exact hs

theorem State.reportSent_placed {s : State} (hs : s.Placed) : s.reportSent.Placed := by
  unfold State.reportSent
  split
  · exact hs.still .of_link
  · exact hs

/-! ### Stations -/

theorem State.Placed.enterPortion {s : State} (hs : s.Placed) (h : s.stationPortion = true) : s.enterPortion.Placed := by
  obtain ⟨hstarts, hhalts, hstretch, -⟩ := hs.cycle
  have hrun := State.stationPortion_running h
  refine ⟨⟨hstarts, hhalts, fun hp => ?_, fun hp => absurd hrun hp⟩, hs.window, State.silentInPlace_of_active (.inr hrun)⟩
  change (if s.tpt.edge then s.csq.phase else .window) = .stretch at hp
  split at hp
  · exact hstretch hp
  · exact absurd hp nofun

theorem stationOwner_placed {kind : Kind} {e : Station} {body : List Byte} {s : State} {x : State × Reply}
    (hs : s.Placed) (h : stationOwner kind e body s = some x) : x.1.Placed := by
  unfold stationOwner at h
  split at h
  · obtain rfl := Option.some.inj h
    unfold takeLeave
    split
    · exact hs
    · exact hs.still (s.beginDeparture_still _ _)
  · obtain rfl := Option.some.inj h
    unfold takeReclaim
    split
    · exact hs
    · split
      · exact hs
      · split
        · exact hs
        · exact hs.reclaimHolding _ _
  · exact hs.still (partyRequest_still h)

theorem State.executeStation_placed {s : State} (hs : s.Placed) (e : Station) (kind : Byte) (body : List Byte) :
    (s.executeStation e kind body).1.Placed := by
  unfold State.executeStation
  split
  · exact hs
  · cases h : (Kind.ofCode kind).bind (fun k => stationOwner k e body s) with
    | none => exact hs
    | some x =>
      obtain ⟨k, -, hk⟩ := Option.bind_eq_some_iff.1 h
      exact stationOwner_placed hs hk

theorem State.pushFrame_still (s : State) (f : OutFrame) : s.Still (s.pushFrame f) := ⟨rfl, rfl, rfl, rfl, rfl, id⟩

theorem State.takeRequest_placed {s : State} (hs : s.Placed) (number epoch : Byte) (seq : BitVec 4) (kind : Byte)
    (body : List Byte) : (s.takeRequest number epoch seq kind body).Placed := by
  unfold State.takeRequest
  split
  · exact hs
  · split_ifs
    · exact hs
    · unfold State.repeatReply
      split
      · exact hs.still (s.pushFrame_still _)
      · exact hs
    · exact hs
    · unfold State.answerStation
      exact ((State.executeStation_placed hs _ _ _).still (State.pushFrame_still _ _)).still (.of_roster Roster.update_nil)

theorem State.stationFrame_placed {s : State} (hs : s.Placed) (number epoch : Byte) (seq : BitVec 4) (kind : Byte)
    (body : List Byte) : (s.stationFrame number epoch seq kind body).Placed := by
  unfold State.stationFrame
  split
  · next h => exact State.takeRequest_placed (hs.enterPortion h) _ _ _ _ _
  · exact hs

theorem State.request_placed {s : State} (hs : s.Placed) (sender : Sender) (kind : Kind) (body : List Byte) :
    (s.request sender kind body).Placed := by
  unfold State.request
  split
  · exact State.judge_placed hs _
  · exact State.stationFrame_placed hs _ _ _ _ _

/-- In STARTING and RUNNING the cycle and the window alone are to stay in place. -/
theorem State.Placed.of_active {s t : State} (hs : s.Placed) (hactive : s.active) (hcsq : t.csq = s.csq) (hrcu : t.rcu = s.rcu)
    (hlgr : t.lgr = s.lgr) : t.Placed where
  cycle := hcsq ▸ hs.cycle
  window := hs.window.of_eq hrcu (by rw [hlgr])
  silent := State.silentInPlace_of_active (by unfold State.active; rw [hcsq]; exact hactive)

theorem State.takeJoin_placed {s : State} (hs : s.Placed) (t : Tag) (epoch : Byte) : (s.takeJoin t epoch).Placed := by
  unfold State.takeJoin
  split
  · next h =>
    have hrun := State.stationPortion_running h
    have hentered := hs.enterPortion h
    split
    · obtain ⟨hcsq, -, hlgr, -, -, -, hrcu, -⟩ := s.enterPortion.joinStation_frame t
      exact hentered.of_active (.inr hrun) hcsq hrcu hlgr
    · exact hentered
  · exact hs

theorem State.takeRollAnswer_placed {s : State} (hs : s.Placed) (t : Tag) (epoch : Byte) :
    (s.takeRollAnswer t epoch).Placed := by
  unfold State.takeRollAnswer
  split
  · next h =>
    have hstarting : s.csq.partState = .starting := by
      unfold State.answerPortion at h
      simp only [Bool.and_eq_true, beq_iff_eq] at h
      exact h.1.1.1
    simp only
    split
    · obtain ⟨hcsq, -, hlgr, -, -, -, hrcu, -⟩ := s.endShare.answerRollCall_frame t
      exact hs.of_active (.inl hstarting) hcsq hrcu hlgr
    · exact hs.of_active (.inl hstarting) rfl rfl rfl
  · exact hs

/-! ### The reset burst and transmissions -/

theorem State.burst_still (s : State) (n : Nat) : s.Still { s with tpt := { s.tpt with burst := n } } :=
  ⟨rfl, rfl, rfl, rfl, rfl, id⟩

theorem State.countBurst_placed {s : State} (hs : s.Placed) (units : Nat) : (s.countBurst units).Placed := by
  have hcounted := hs.still (s.burst_still (min Config.burstUnits (s.tpt.burst + units)))
  unfold State.countBurst
  simp only
  split
  · exact .takeCause hcounted.window _
  · exact hcounted

theorem State.takeBurst_placed {s : State} (hs : s.Placed) (units : Nat) (quiet : Bool) :
    (s.takeBurst units quiet).Placed := by
  unfold State.takeBurst
  split_ifs
  · exact (State.countBurst_placed hs units).still (State.burst_still _ 0)
  · exact State.countBurst_placed hs units
  · exact hs

theorem State.discardTransmission_placed {s : State} (hs : s.Placed) (why : DiscardCause) :
    (s.discardTransmission why).Placed := by
  cases why with
  | brokenBurst => exact hs.still (s.burst_still 0)
  | tooLong => exact hs
  | checkFailed => exact hs
  | unreadable => exact hs
  | heldNominalInstant => exact hs

theorem State.takeFrame_placed {s : State} (hs : s.Placed) (x : Received) : (s.takeFrame x).Placed := by
  cases x with
  | request number epoch seq kind body => exact State.stationFrame_placed hs _ _ _ _ _
  | join t epoch => exact State.takeJoin_placed hs _ _
  | rollAnswer t epoch => exact State.takeRollAnswer_placed hs _ _
  | other => exact hs

theorem State.takeTransmission_placed {s : State} (hs : s.Placed) (bytes : List Byte) :
    (s.takeTransmission bytes).Placed := by
  unfold State.takeTransmission
  split_ifs
  · unfold State.takePattern
    split
    · exact State.takeBurst_placed (hs.still (s.burst_still 0)) _ _
    · exact hs
  · exact hs
  · cases receive bytes with
    | none => exact hs
    | some x => exact State.takeFrame_placed hs x

/-! ### The instants -/

theorem State.nominalInstant_placed {s : State} (hs : s.Placed) (busy : Bool) : (s.nominalInstant busy).Placed := by
  obtain ⟨hstarts, hhalts, hstretch, hnone⟩ := hs.cycle
  unfold State.nominalInstant
  split
  · next h =>
    obtain ⟨hrun, hphase⟩ := h
    have hempty : s.csq.startWaiters = [] := by_contra (fun hne => absurd (hrun.symm.trans (hstarts hne)) nofun)
    split_ifs
    · exact .halted rfl rfl hempty rfl rfl rfl hs.window
    · next hpending _ =>
      have hwaiters : s.csq.haltWaiters = [] := by simpa [Sequencer.haltPending] using hpending
      exact ⟨⟨hstarts, hhalts, fun _ => hwaiters, fun hne => absurd hrun hne⟩, hs.window,
        State.silentInPlace_of_active (.inr hrun)⟩
    · obtain ⟨hpart, hwaiters, hphase', hwindow⟩ :=
        State.boundary_placement (s := s.setLateRun 0) hrun hs.window .onTime 0
      unfold State.onTimeBoundary
      generalize (s.setLateRun 0).boundary .onTime 0 = u at hpart hwaiters hphase' hwindow
      exact .running hpart (hwaiters.trans hempty) hphase' hwindow
  · exact hs

theorem State.stretchEnd_placed {s : State} (hs : s.Placed) (quietAt : Option Nat) : (s.stretchEnd quietAt).Placed := by
  obtain ⟨hstarts, -⟩ := hs.cycle
  unfold State.stretchEnd
  split
  · next h =>
    have hrun : s.csq.partState = .running := by
      unfold State.stretching at h
      simp only [Bool.and_eq_true, beq_iff_eq] at h
      exact h.1
    have hempty : s.csq.startWaiters = [] := by_contra (fun hne => absurd (hrun.symm.trans (hstarts hne)) nofun)
    split
    · exact .takeCause hs.window _
    · obtain ⟨u, hu, hcsq, hwindow⟩ : ∃ u : State, s.lateBoundary (stretchOutcome quietAt).1 (stretchOutcome quietAt).2 =
          u.boundary (stretchOutcome quietAt).1 (stretchOutcome quietAt).2 ∧
          u.csq = { s.csq with lateRun := s.csq.lateRun + 1 } ∧ u.windowInPlace := by
        refine ⟨_, rfl, ?_, ?_⟩
        · split <;> rfl
        · split <;> exact hs.window
      rw [hu]
      obtain ⟨hpart, hwaiters, hphase, hleft⟩ := State.boundary_placement (s := u) (by rw [hcsq]; exact hrun) hwindow
        (stretchOutcome quietAt).1 (stretchOutcome quietAt).2
      exact .running hpart (hwaiters.trans (by rw [hcsq]; exact hempty)) hphase hleft
  · exact hs

theorem State.trunkFault_placed {s : State} (hs : s.Placed) : s.trunkFault.Placed := by
  unfold State.trunkFault
  split
  · exact .takeCause hs.window _
  · exact hs

theorem State.windowExpiry_placed {s : State} (hs : s.Placed) : s.windowExpiry.Placed := by
  unfold State.windowExpiry
  split
  · exact hs.expireWindow
  · exact hs

theorem takeSlotObservation_placed {s : State} (hs : s.Placed) (seen : SlotSeen) : (takeSlotObservation seen s).Placed := by
  unfold takeSlotObservation
  split
  · next h =>
    have hrun : s.csq.partState = .running := by
      unfold State.watching at h
      simp only [Bool.and_eq_true, beq_iff_eq] at h
      exact h.1
    unfold State.observeSlot
    split
    · exact hs
    · simp only
      split
      · exact hs.of_active (.inr hrun) rfl rfl rfl
      · exact hs.of_active (.inr hrun) rfl rfl rfl
  · exact hs

theorem takeStopCount_placed {s : State} (hs : s.Placed) (id : Nat) : (takeStopCount id s).Placed := by
  unfold takeStopCount
  split
  · exact hs
  · split
    · exact hs.still (s.putStream_still _)
    · exact hs

theorem State.openShare_placed {s : State} (hs : s.Placed) (unitsLeft : Nat) : (s.openShare unitsLeft).Placed := by
  unfold State.openShare
  split
  · next h =>
    obtain ⟨hrun, -⟩ := h
    obtain ⟨hstarts, hhalts, -, -⟩ := hs.cycle
    have hopen : State.Placed { s with csq := { s.csq with phase := .window }, tpt := { s.tpt with edge := false } } :=
      ⟨⟨hstarts, hhalts, nofun, fun hne => absurd hrun hne⟩, hs.window, State.silentInPlace_of_active (.inr hrun)⟩
    simp only
    split
    · exact hopen.of_active (.inr hrun) rfl rfl rfl
    · obtain ⟨hcsq, -, hlgr, -, -, -, -, hrcu, -⟩ := State.continueShare_frame
        { s with csq := { s.csq with phase := .window }, tpt := { s.tpt with edge := false } } Config.shareUnits
      exact hopen.of_active (.inr hrun) hcsq hrcu hlgr
  · exact hs

theorem State.frameSent_eq_self {s : State} (hsending : s.tpt.sending = none) (hshare : s.tpt.share = none) :
    s.frameSent = s := by
  unfold State.frameSent State.queuedFrameSent
  rw [hsending, hshare]

theorem State.frameSent_placed {s : State} (hs : s.Placed) : s.frameSent.Placed := by
  by_cases hactive : s.active
  · have hcontinue (u : State) (left : Nat) (hcsq : u.csq = s.csq) (hrcu : u.rcu = s.rcu) (hlgr : u.lgr = s.lgr) :
        (u.continueShare left).Placed := by
      obtain ⟨hc, -, hl, -, -, -, -, hr, -⟩ := u.continueShare_frame left
      exact hs.of_active hactive (hc.trans hcsq) (hr.trans hrcu) (hl.trans hlgr)
    unfold State.frameSent
    split
    · exact hs.of_active hactive rfl rfl rfl
    · exact hcontinue s _ rfl rfl rfl
    · unfold State.queuedFrameSent
      split
      · next left f rest _ _ =>
        obtain ⟨hc, -, hl, -, -, -, hr, -⟩ := State.unpark_frame { s with tpt := { s.tpt with outbound := rest } }
        exact hcontinue _ _ hc hr hl
      · exact hs
  · obtain ⟨hsilent, -⟩ := hs.silent
    obtain ⟨hsending, hshare⟩ := hsilent (by
      unfold State.active at hactive
      cases h : s.csq.partState <;> simp_all)
    rw [State.frameSent_eq_self hsending hshare]
    exact hs

theorem State.callPeriod_placed {s : State} (hs : s.Placed) : s.callPeriod.Placed := by
  unfold State.callPeriod
  split
  · next h => exact hs.of_active (.inl h.1) rfl rfl rfl
  · exact hs

theorem State.rollCallEnd_placed {s : State} (hs : s.Placed) : s.rollCallEnd.Placed := by
  unfold State.rollCallEnd
  split
  · obtain ⟨u, hu, hrun, hwindow⟩ : ∃ u : State,
        s.endRollCall = (u.boundary .onTime 0).answerStarts ⟨.done, s.rollCallBody⟩ ∧
        u.csq.partState = .running ∧ u.windowInPlace := ⟨_, rfl, rfl, hs.window⟩
    obtain ⟨hpart, -, hphase, hleft⟩ := State.boundary_placement hrun hwindow .onTime 0
    rw [hu]
    generalize u.boundary .onTime 0 = v at hpart hphase hleft
    exact .running hpart rfl hphase hleft
  · exact hs

/-! ### A step -/

theorem outcome_placed {fits : Bool} {u t : State} (hu : u.Placed) (h : outcome fits u = .next t) : t.Placed := by
  obtain ⟨-, rfl⟩ := outcome_next h
  exact hu.still u.transmit_still

theorem sent_placed {u t : State} (hu : u.Placed) (h : outcome true u = .next t) : t.Placed := outcome_placed hu h

theorem exec_placed {c : Instr} {s t : State} (hs : s.Placed) (h : exec c s = .next t) : t.Placed := by
  cases c with
  | powerOnReset rateA rateB => exact sent_placed (.atReset _ _ _) h
  | hostFrame bytes => exact sent_placed (State.receiveBytes_placed bytes hs) h
  | hostByteReceived byte => exact sent_placed (State.receiveByte_placed hs byte) h
  | interByteTimeout => exact sent_placed (State.byteTimeout_placed hs) h
  | replySent rateA rateB => exact sent_placed (State.replySent_placed hs rateA rateB) h
  | answerSent => exact sent_placed (State.answerSent_placed hs) h
  | reportFrameSent => exact sent_placed (State.reportSent_placed hs) h
  | reportResendDue seq => exact sent_placed (hs.still (.of_link (h := s.hlk))) h
  | exchangeUnits sender body => exact outcome_placed (State.request_placed hs sender _ body) h
  | exchangeChannels sender body => exact outcome_placed (State.request_placed hs sender _ body) h
  | ledgerRead sender body => exact outcome_placed (State.request_placed hs sender _ body) h
  | admitStream sender body => exact outcome_placed (State.request_placed hs sender _ body) h
  | retire sender body => exact outcome_placed (State.request_placed hs sender _ body) h
  | resize sender body => exact outcome_placed (State.request_placed hs sender _ body) h
  | suspend sender body => exact outcome_placed (State.request_placed hs sender _ body) h
  | resume sender body => exact outcome_placed (State.request_placed hs sender _ body) h
  | withdraw sender body => exact outcome_placed (State.request_placed hs sender _ body) h
  | streamRead sender body => exact outcome_placed (State.request_placed hs sender _ body) h
  | requestFrame bytes => exact sent_placed (State.takeTransmission_placed hs bytes) h
  | leave number epoch seq body => exact outcome_placed (State.stationFrame_placed hs _ _ _ _ _) h
  | reclaim number epoch seq body => exact outcome_placed (State.stationFrame_placed hs _ _ _ _ _) h
  | join tag epoch => exact sent_placed (State.takeJoin_placed hs tag epoch) h
  | rollAnswer tag epoch => exact sent_placed (State.takeRollAnswer_placed hs tag epoch) h
  | trunkTransmissionDiscarded why => exact sent_placed (State.discardTransmission_placed hs why) h
  | resetBurst units quiet => exact sent_placed (State.takeBurst_placed hs units quiet) h
  | nominalInstant busy => exact sent_placed (State.nominalInstant_placed hs busy) h
  | stretchEnd quietAt => exact outcome_placed (State.stretchEnd_placed hs quietAt) h
  | trunkFault => exact sent_placed (State.trunkFault_placed hs) h
  | reclaimWindowExpiry => exact sent_placed (State.windowExpiry_placed hs) h
  | slotObservation seen => exact sent_placed (takeSlotObservation_placed hs seen) h
  | stopCountReached id => exact sent_placed (takeStopCount_placed hs id) h
  | openWindowShare unitsLeft => exact sent_placed (State.openShare_placed hs unitsLeft) h
  | outboundFrameSent => exact sent_placed (State.frameSent_placed hs) h
  | rollCallPeriod => exact sent_placed (State.callPeriod_placed hs) h
  | rollCallEnd => exact sent_placed (State.rollCallEnd_placed hs) h
  | _ => exact outcome_placed (State.judge_placed hs _) h

/-- Settles O57: `exec_placed`, command by command. -/
theorem partStateKept : Obligations.PartStateKept := by
  intro s t hcycle hwindow hsilent h
  have hs : s.Placed := ⟨hcycle, hwindow, hsilent⟩
  unfold step at h
  split at h
  · obtain rfl := Host.Outcome.next.inj h
    exact ⟨hcycle, hwindow, hsilent⟩
  · next c rest _ =>
    obtain ⟨hc, hw, hq⟩ := exec_placed (s := { s with pending := rest }) ⟨hcycle, hwindow, hsilent⟩ h
    exact ⟨hc, hw, hq⟩

end Sys2Proof.Machine
end

section
/-! SUPPORT. The claim records against the roster, through each elementary change (R1, R37, R74, R132, R145). -/

namespace Sys2Proof.Machine

variable {commits : Prop}

/-! ### What an edit's commit or discard does to its record -/

/-- The record asks of its owner's account what it asked before, and stays RETIRING and HELD where it was. -/
structure StreamRecord.Stays (r q : StreamRecord) : Prop where
  id : q.id = r.id
  owner : q.owner = r.owner
  channel : q.channel = r.channel
  charge : q.charge = r.charge
  units : q.isHeld = true → q.units = r.units
  held : q.isHeld = r.isHeld
  retiring : r.isRetiring = true → q.isRetiring = true

theorem StreamRecord.Keeps.stays {r q : StreamRecord} (h : r.Keeps q) : r.Stays q :=
  ⟨h.id, h.owner, h.channel, by unfold StreamRecord.charge; rw [h.units, h.pendingResize], fun _ => h.units, h.held, h.retiring⟩

theorem StreamRecord.not_held_iff {r : StreamRecord} : r.isHeld = false ↔ ∀ v, r.state ≠ .held v := by
  unfold StreamRecord.isHeld
  cases hst : r.state <;> simp

/-- A record that is neither RETIRING nor HELD changes its state for one that is not HELD. -/
theorem StreamRecord.Stays.of_state {r q : StreamRecord} (hq : q.id = r.id ∧ q.owner = r.owner ∧ q.channel = r.channel ∧
    q.units = r.units ∧ q.pendingResize = r.pendingResize) (hq' : ∀ v, q.state ≠ .held v) (hr : ∀ v, r.state ≠ .held v)
    (hret : r.isRetiring = false) : r.Stays q := by
  obtain ⟨hid, howner, hchannel, hunits, hpending⟩ := hq
  exact ⟨hid, howner, hchannel, by unfold StreamRecord.charge; rw [hunits, hpending], fun _ => hunits,
    (StreamRecord.not_held_iff.2 hq').trans (StreamRecord.not_held_iff.2 hr).symm, fun h => absurd (hret.symm.trans h) nofun⟩

theorem StreamRecord.not_held_of_inService {r : StreamRecord} (h : r.inService = true) : r.isHeld = false :=
  Bool.eq_false_iff.2 (fun hh => StreamRecord.not_inService_of_held hh h)

/-- A commit leaves the state as it was, removes the record, changes its state, or changes its units (R100, R101). -/
theorem State.commitEdit_cases {s : State} {e : Edit} {r : StreamRecord} (n : Cycle) (hr : s.stream? e.stream = some r) :
    (s.commitEdit n e).1 = s ∨ (s.commitEdit n e).1 = s.removeRecord r.id ∨
    (∃ q, r.Stays q ∧ (s.commitEdit n e).1 = s.putStream q) ∨
    ∃ units direction, e.op = .resize units direction ∧ r.inService = true ∧
      (s.commitEdit n e).1 = { s.putStream { r with units := units, pendingResize := none } with
        lgr := if direction = .down then s.lgr.uncharge r.owner (r.units - units) else s.lgr } := by
  unfold State.commitEdit
  rw [hr]
  cases hop : e.op with
  | admitStream a =>
    simp only
    split
    · next hst =>
      exact .inr (.inr (.inl ⟨{ r with state := (s.enterService r n).1 }, .of_state ⟨rfl, rfl, rfl, rfl, rfl⟩
        (s.enterService_plain r n).2 (by simp [hst]) (by simp [StreamRecord.isRetiring, hst]), rfl⟩))
    · exact .inl rfl
  | retire =>
    simp only
    split
    · exact .inr (.inl rfl)
    · exact .inl rfl
  | resize units direction =>
    simp only
    split
    · next hin =>
      refine .inr (.inr (.inr ⟨units, direction, rfl, hin, ?_⟩))
      split <;> rfl
    · exact .inl rfl
  | suspend =>
    simp only
    split
    · next hin =>
      exact .inr (.inr (.inl ⟨{ r with state := .suspended .owner, restoreMark := false },
        .of_state ⟨rfl, rfl, rfl, rfl, rfl⟩ nofun (StreamRecord.not_held_iff.1 (StreamRecord.not_held_of_inService hin))
        (StreamRecord.not_retiring_of_inService hin), rfl⟩))
    · exact .inl rfl
  | resume =>
    simp only
    split
    · next c hst =>
      have hplain : (∀ v, r.state ≠ .held v) ∧ r.isRetiring = false := by
        rw [hst]
        exact ⟨nofun, by simp [StreamRecord.isRetiring, hst]⟩
      split
      · exact .inr (.inr (.inl ⟨{ r with state := (startRule r.start n).1, vacantRun := 0, overlongRun := 0 },
          .of_state ⟨rfl, rfl, rfl, rfl, rfl⟩ (startRule_plain r.start n).2 hplain.1 hplain.2, rfl⟩))
      · exact .inr (.inr (.inl ⟨{ r with state := .suspended .absent },
          .of_state ⟨rfl, rfl, rfl, rfl, rfl⟩ nofun hplain.1 hplain.2, rfl⟩))
    · exact .inl rfl

/-- A discard removes the record of an ADMIT, and takes the pending units from that of a RESIZE (R106). -/
theorem State.undoEdit_cases {s : State} {e : Edit} {r : StreamRecord} (hr : s.stream? e.stream = some r) :
    s.undoEdit e = s ∨ s.undoEdit e = s.removeRecord r.id ∨
    ∃ units direction, e.op = .resize units direction ∧
      s.undoEdit e = { s.putStream { r with pendingResize := none } with
        lgr := if direction = .up then s.lgr.uncharge r.owner (units - r.units) else s.lgr } := by
  unfold State.undoEdit
  rw [hr]
  cases hop : e.op with
  | admitStream a => exact .inr (.inl rfl)
  | resize units direction =>
    refine .inr (.inr ⟨units, direction, rfl, ?_⟩)
    simp only
    split <;> rfl
  | retire => exact .inl rfl
  | suspend => exact .inl rfl
  | resume => exact .inl rfl

/-! ### Claim records and departures -/

/-- Station claim records are those of stations in the roster, and none exists in STARTING; the streams of a DEPARTING
station are RETIRING or HELD. -/
structure State.Stationed (s : State) : Prop where
  numbered : ∀ t ∈ s.lgr.claims.map StationClaim.tag, ∃ e ∈ s.rst.stations, e.tag = t
  starting : s.csq.partState = .starting → s.lgr.claims = []
  leaving : ∀ e ∈ s.rst.stations, e.state ≠ .present → ∀ r ∈ s.streams, r.owner = .station e.tag →
    r.isRetiring = true ∨ r.isHeld = true

theorem State.claimsInPlace_iff (s : State) : s.claimsInPlace ↔ s.Stationed :=
  ⟨fun ⟨h1, h2, h3⟩ => ⟨List.forall_mem_map.2 h1, h2, h3⟩, fun ⟨h1, h2, h3⟩ => ⟨fun _ hc => h1 _ (List.mem_map_of_mem hc), h2, h3⟩⟩

/-- Records of the one table come from records of the other with the same owner, RETIRING or HELD as they, but for those of
PRESENT stations. -/
def State.streamsFrom (s t : State) : Prop :=
  ∀ r ∈ t.streams, ∀ tag, r.owner = .station tag →
    (∃ q ∈ s.streams, q.owner = .station tag ∧
      (q.isRetiring = true ∨ q.isHeld = true → r.isRetiring = true ∨ r.isHeld = true)) ∨
    ∃ e ∈ s.rst.stations, e.tag = tag ∧ e.state = .present

theorem State.streamsFrom_of_subset {s t : State} (h : t.streams ⊆ s.streams) : s.streamsFrom t :=
  fun r hr _ ho => .inl ⟨r, h hr, ho, id⟩

/-- A record put in another's place. -/
theorem State.streamsFrom_put {s t : State} {r q : StreamRecord} (hr : r ∈ s.streams) (howner : q.owner = r.owner)
    (hstate : r.isRetiring = true ∨ r.isHeld = true → q.isRetiring = true ∨ q.isHeld = true)
    (hstreams : t.streams = (s.putStream q).streams) : s.streamsFrom t := by
  intro x hx tag ho
  rw [hstreams] at hx
  rcases mem_updateFirst _ _ _ hx with hx | ⟨-, -, -, rfl⟩
  · exact .inl ⟨x, hx, ho, id⟩
  · exact .inl ⟨r, hr, howner ▸ ho, hstate⟩

/-- Claim records are added for one party only. -/
def Ledger.claimsFrom (l : Ledger) (p : Party) (l' : Ledger) : Prop :=
  ∀ t ∈ l'.claims.map StationClaim.tag, t ∈ l.claims.map StationClaim.tag ∨ p = .station t

theorem Ledger.claimsFrom_of_eq {l l' : Ledger} {p : Party}
    (h : l'.claims.map StationClaim.tag = l.claims.map StationClaim.tag) : l.claimsFrom p l' :=
  fun _ ht => .inl (h ▸ ht)

theorem Ledger.claimsFrom_of_sublist {l l' : Ledger} {p : Party} (h : l'.claims.Sublist l.claims) : l.claimsFrom p l' :=
  fun _ ht => .inl ((h.map _).subset ht)

theorem Ledger.claimsFrom.trans {l l' l'' : Ledger} {p : Party} (a : l.claimsFrom p l') (b : l'.claimsFrom p l'') :
    l.claimsFrom p l'' :=
  fun t ht => (b t ht).elim (a t) .inr

theorem Ledger.ensure_claimsFrom (l : Ledger) (p : Party) : l.claimsFrom p (l.ensure p) := by
  unfold Ledger.ensure
  split
  · exact fun _ h => .inl h
  · split
    · exact fun _ h => .inl h
    · intro _ ht
      rw [List.map_append, List.mem_append] at ht
      exact ht.imp_right (fun h => congrArg Party.station (List.mem_singleton.1 h).symm)

theorem Ledger.dropEmpty_claimsFrom (l : Ledger) (p : Party) : l.claimsFrom p (l.dropEmpty p) := by
  unfold Ledger.dropEmpty
  split
  · exact fun _ h => .inl h
  · split
    · split
      · exact Ledger.claimsFrom_of_sublist List.eraseP_sublist
      · exact fun _ h => .inl h
    · exact fun _ h => .inl h

theorem Ledger.update_claimsFrom (l : Ledger) (p q : Party) (f : Account → Account) : l.claimsFrom q (l.update p f) :=
  Ledger.claimsFrom_of_eq (l.update_frame p f).2.2.2.2

theorem Ledger.exchangeUnits_claimsFrom (l : Ledger) (budget : Nat) (rights : Rights) (p : Party) (e n : Nat) :
    l.claimsFrom p (l.exchangeUnits budget rights p e n).1 := by
  have hclaim : l.claimsFrom p (l.claimUnits p e n) := (l.ensure_claimsFrom p).trans (Ledger.update_claimsFrom _ p p _)
  have hrelease : l.claimsFrom p (l.releaseUnits p e n) := (l.update_claimsFrom p p _).trans (Ledger.dropEmpty_claimsFrom _ p)
  unfold Ledger.exchangeUnits
  generalize (!(if n = e then rights.query else rights.claim)) = refused
  simp only
  split_ifs
  all_goals first | exact hclaim | exact hrelease | exact fun _ h => .inl h

theorem Ledger.exchangeChannels_claimsFrom (l : Ledger) (rights : Rights) (p : Party) (e n : BitVec 256) :
    l.claimsFrom p (l.exchangeChannels rights p e n).1 := by
  have hmove (a b : ChannelSet) : l.claimsFrom p (l.moveChannels p a b) := by
    unfold Ledger.moveChannels
    simp only
    refine .trans (.trans ?_ (Ledger.update_claimsFrom _ p p _)) (Ledger.dropEmpty_claimsFrom _ p)
    split
    · exact fun _ h => .inl h
    · exact l.ensure_claimsFrom p
  unfold Ledger.exchangeChannels
  generalize (!(if n = e then rights.query else rights.claim)) = refused
  simp only
  split_ifs
  all_goals first | exact hmove _ _ | exact fun _ h => .inl h

/-! ### Through each elementary change -/

/-- What keeps claim records and departures in place: no entry goes, none becomes DEPARTING, and claim records and streams
come for PRESENT stations only. -/
theorem State.Stationed.keep {s t : State} (h : s.Stationed) (hs : s.Records) (hroster : s.rst.Keeps t.rst)
    (hstart : t.csq.partState = .starting → s.csq.partState = .starting)
    (hclaims : ∃ p, s.admitsParty p ∧ s.lgr.claimsFrom p t.lgr) (hstreams : s.streamsFrom t) : t.Stationed := by
  obtain ⟨p, hp, hclaims⟩ := hclaims
  refine ⟨fun tag htag => ?_, fun hst => ?_, fun x hx hxs r hr ho => ?_⟩
  · have hold : ∃ e ∈ s.rst.stations, e.tag = tag := by
      rcases hclaims tag htag with htag | rfl
      · exact h.numbered tag htag
      · obtain ⟨-, e, he, het, -⟩ := hp tag rfl
        exact ⟨e, he, het⟩
    obtain ⟨e, he, het⟩ := hold
    obtain ⟨x, hx, hxe, -⟩ := hroster.stays e he
    exact ⟨x, hx, hxe.trans het⟩
  · have hnone := h.starting (hstart hst)
    rw [List.eq_nil_iff_forall_not_mem]
    intro c hc
    rcases hclaims c.tag (List.mem_map_of_mem hc) with hold | rfl
    · rw [hnone] at hold
      exact absurd hold List.not_mem_nil
    · exact absurd ((hstart hst).symm.trans (hp c.tag rfl).1) nofun
  · obtain ⟨e, he, hex, hes⟩ := hroster.present x hx hxs
    rcases hstreams r hr x.tag ho with ⟨q, hq, hqo, hqr⟩ | ⟨y, hy, hyx, hys⟩
    · exact hqr (h.leaving e he hes q hq (hex ▸ hqo))
    · have : e = y := List.inj_on_of_nodup_map hs.roster.tags he hy (hex.trans hyx.symm)
      exact absurd (this ▸ hys) hes

/-- No party's claim record is added. -/
theorem State.no_claims {s t : State} (h : ∀ p, s.lgr.claimsFrom p t.lgr) :
    ∃ p, s.admitsParty p ∧ s.lgr.claimsFrom p t.lgr := ⟨.host, nofun, h .host⟩

theorem State.Stationed.of_eq {s t : State} (h : s.Stationed) (hs : s.Records) (hroster : s.rst.Keeps t.rst)
    (hstart : t.csq.partState = .starting → s.csq.partState = .starting) (hlgr : t.lgr = s.lgr) (hstreams : t.streams = s.streams) :
    t.Stationed :=
  h.keep hs hroster hstart (State.no_claims (fun _ => hlgr ▸ fun _ h => .inl h))
    (State.streamsFrom_of_subset (hstreams ▸ List.Subset.refl _))

theorem State.removeRecord_rest (s : State) (id : Nat) : (s.removeRecord id).rst = s.rst ∧ (s.removeRecord id).csq = s.csq ∧
    ∀ p, s.lgr.claimsFrom p (s.removeRecord id).lgr := by
  refine ⟨?_, ?_, fun p => Ledger.claimsFrom_of_eq (s.removeRecords_tags [id]).1⟩
  · unfold State.removeRecord; split <;> rfl
  · unfold State.removeRecord; split <;> rfl

theorem State.Stationed.removeRecord {s : State} (h : s.Stationed) (hs : s.Records) (id : Nat) : (s.removeRecord id).Stationed := by
  obtain ⟨hrst, hcsq, hclaims⟩ := s.removeRecord_rest id
  exact h.keep hs (hrst ▸ .rfl) (hcsq ▸ fun h => h) (State.no_claims hclaims)
    (State.streamsFrom_of_subset (s.removeRecord_subset id))

theorem State.Stationed.endHolding {s : State} (h : s.Stationed) (hs : s.Records) (x : Holding) : (s.endHolding x).Stationed := by
  have hremoved (ids : List Nat) : ∀ {s : State}, s.Stationed → s.Records → (s.removeRecords ids).Stationed := by
    induction ids with
    | nil => exact fun h _ => h
    | cons id ids ih => exact fun h hs => ih (h.removeRecord hs id) (hs.removeRecord id)
  refine (hremoved _ h hs).keep (hs.removeRecords _) .rfl (fun h => h) (State.no_claims (fun _ => ?_))
    (State.streamsFrom_of_subset (List.Subset.refl _))
  unfold State.endHolding Ledger.releaseHolding
  simp only
  split
  · exact fun _ h => .inl h
  · exact fun _ h => .inl h

end Sys2Proof.Machine
end

section
/-! SUPPORT. The claim records against the roster, through commits, discards, departures and a trunk reset (R1, R37, R74,
R132, R145). -/

namespace Sys2Proof.Machine

variable {commits : Prop}

/-- The host's and a station's ADMIT is for a station that is PRESENT (R93, R166). -/
theorem State.admits_present {s : State} {p : Party} {a : AdmitRequest} (hp : s.admitsParty p)
    (hf : s.admitFailure p a = none) {tag : Tag} (ho : (admitArgs p a).owner = .station tag) :
    ∃ e ∈ s.rst.stations, e.tag = tag ∧ e.state = .present := by
  cases p with
  | station t =>
    obtain ⟨-, e, he, het, hes⟩ := hp t rfl
    exact ⟨e, he, het.trans (Party.station.inj ho), hes⟩
  | host =>
    have hown := firstFailure_none hf (s.admitOwnership .host (admitArgs .host a)) (by simp)
    unfold State.admitOwnership at hown
    rw [ho] at hown
    have hpresent := require_none.1 hown
    unfold Roster.isPresent Station.isPresent at hpresent
    obtain ⟨e, he, hcond⟩ := List.any_eq_true.1 hpresent
    rw [Bool.and_eq_true, beq_iff_eq, beq_iff_eq] at hcond
    exact ⟨e, he, hcond⟩

/-- What a commit or a discard makes of the record of its edit (R100, R101, R106). -/
theorem State.Stationed.editDone {s t : State} (h : s.Stationed) (hs : s.Records) {r : StreamRecord} (hr : r ∈ s.streams)
    {edits : List Edit}
    (ht : t = { s with stg := { s.stg with edits := edits } } ∨
      t = State.removeRecord { s with stg := { s.stg with edits := edits } } r.id ∨
      ∃ q l, q.owner = r.owner ∧ (r.isRetiring = true ∨ r.isHeld = true → q.isRetiring = true ∨ q.isHeld = true) ∧
        l.claims.map StationClaim.tag = s.lgr.claims.map StationClaim.tag ∧
        t = { State.putStream { s with stg := { s.stg with edits := edits } } q with lgr := l }) :
    t.Stationed := by
  rcases ht with rfl | rfl | ⟨q, l, howner, hstate, htags, rfl⟩
  · exact h.of_eq hs .rfl (fun h => h) rfl rfl
  · obtain ⟨hrst, hcsq, hclaims⟩ := State.removeRecord_rest { s with stg := { s.stg with edits := edits } } r.id
    refine h.keep hs ?_ ?_ (State.no_claims hclaims)
      (State.streamsFrom_of_subset (State.removeRecord_subset { s with stg := { s.stg with edits := edits } } r.id))
    · rw [hrst]; exact .rfl
    · rw [hcsq]; exact fun h => h
  · exact h.keep hs .rfl (fun h => h) (State.no_claims (fun _ => Ledger.claimsFrom_of_eq htags))
      (State.streamsFrom_put hr howner hstate rfl)

/-- A ledger from which units may have been uncharged keeps its tags. -/
theorem Ledger.uncharged_tags (l : Ledger) (p : Party) (u : Nat) {c : Prop} [Decidable c] :
    (if c then l.uncharge p u else l).claims.map StationClaim.tag = l.claims.map StationClaim.tag := by
  split
  · exact (l.update_frame p _).2.2.2.2
  · rfl

theorem State.Stationed.commitEdit {s : State} (h : s.Stationed) (hs : s.Records) (n : Cycle) {e : Edit} {rest : List Edit}
    (he : e ∈ s.stg.edits) : (State.commitEdit { s with stg := { s.stg with edits := rest } } n e).1.Stationed := by
  obtain ⟨r, hr⟩ := Option.isSome_iff_exists.1 (hs.editsInPlace.2.2.1 e he)
  obtain ⟨hmem, -⟩ := State.stream?_some hr
  refine h.editDone hs hmem (edits := rest) ?_
  rcases State.commitEdit_cases (s := { s with stg := { s.stg with edits := rest } }) n hr with
    heq | heq | ⟨q, hq, heq⟩ | ⟨units, direction, -, -, heq⟩
  · exact .inl heq
  · exact .inr (.inl heq)
  · exact .inr (.inr ⟨q, s.lgr, hq.owner, Or.imp hq.retiring (fun h => hq.held.trans h), rfl, heq⟩)
  · exact .inr (.inr ⟨{ r with units := units, pendingResize := none }, _, rfl, fun h => h, Ledger.uncharged_tags .., heq⟩)

theorem State.Stationed.dropEdit {s : State} (h : s.Stationed) (hs : s.Records) {e : Edit} (he : e ∈ s.stg.edits) :
    (s.dropEdit e).Stationed := by
  obtain ⟨r, hr⟩ := Option.isSome_iff_exists.1 (hs.editsInPlace.2.2.1 e he)
  obtain ⟨hmem, -⟩ := State.stream?_some hr
  refine h.editDone hs hmem (edits := s.stg.edits.filter (fun x => x.number != e.number)) ?_
  unfold State.dropEdit
  rcases State.undoEdit_cases (s := { s with stg := { s.stg with
      edits := s.stg.edits.filter (fun x => x.number != e.number) } }) hr with heq | heq | ⟨units, direction, -, heq⟩
  · exact .inl heq
  · exact .inr (.inl heq)
  · exact .inr (.inr ⟨{ r with pendingResize := none }, _, rfl, fun h => h, Ledger.uncharged_tags .., heq⟩)

/-- A station of one entry becomes DEPARTING with its streams (R74, R144). -/
theorem State.Stationed.depart {s : State} (h : s.Stationed) (hs : s.Records) {e : Station} {cause : DepartCause} {count : Nat}
    (he : ∃ x ∈ s.rst.stations, x.tag = e.tag ∧ x.number = e.number)
    (hstaged : ∀ r ∈ s.streams, r.owner = .station e.tag → r.state ≠ .staged) :
    State.Stationed { s with
      rst := s.rst.update e.number (fun x => { x with state := .departing cause count })
      streams := s.streams.map (fun r => r.depart e.tag) } := by
  obtain ⟨y, hy, hyt, hyn⟩ := he
  have hstations : ∀ x ∈ (s.rst.update e.number (fun x => { x with state := .departing cause count })).stations,
      (x ∈ s.rst.stations ∨ x.tag = e.tag) := by
    intro x hx
    rcases mem_updateFirst _ _ _ hx with hx | ⟨z, hz, hzn, rfl⟩
    · exact .inl hx
    · have : z = y := List.inj_on_of_nodup_map hs.roster.numbers_nodup hz hy ((eq_of_beq hzn).trans hyn.symm)
      exact .inr (this ▸ hyt)
  have htags : (s.rst.update e.number (fun x => { x with state := .departing cause count })).stations.map Station.tag =
      s.rst.stations.map Station.tag := updateFirst_map Station.tag _ _ (by intros; rfl) _
  refine ⟨fun t ht => ?_, h.starting, fun x hx hxs => List.forall_mem_map.2 (fun r hr ho => ?_)⟩
  · obtain ⟨z, hz, rfl⟩ := h.numbered t ht
    have : z.tag ∈ s.rst.stations.map Station.tag := List.mem_map_of_mem hz
    rw [← htags] at this
    obtain ⟨x, hx, hxz⟩ := List.mem_map.1 this
    exact ⟨x, hx, hxz⟩
  · obtain ⟨-, howner, -, -, -, hheld, hret⟩ := r.depart_plain e.tag
    rw [howner] at ho
    rcases hstations x hx with hx | htag
    · rw [hheld]
      exact (h.leaving x hx hxs r hr ho).imp_left hret
    · rw [htag] at ho
      by_cases hin : r.inService = true
      · left
        unfold StreamRecord.depart
        rw [if_pos ⟨ho, hin⟩]
        rfl
      · rw [hheld]
        by_contra hnot
        rw [not_or] at hnot
        refine hstaged r hr ho (StreamRecord.staged_of_other hin ?_ (by simpa using hnot.2))
        rw [Bool.eq_false_iff]
        exact fun hr' => hnot.1 (hret hr')

/-- A departure completes with its tag's claim record (R145). -/
theorem State.Stationed.completeDeparture {s : State} (h : s.Stationed) (hs : s.Records) {e : Station}
    (he : e ∈ s.rst.stations) : (s.completeDeparture e).Stationed := by
  have hclaims : (s.lgr.releaseClaim e.tag).claims = s.lgr.claims.filter (fun c => c.tag != e.tag) := by
    rw [Ledger.releaseClaim_eq hs.claims]
  have hmem (t : Tag) (ht : t ∈ (s.lgr.releaseClaim e.tag).claims.map StationClaim.tag) :
      t ∈ s.lgr.claims.map StationClaim.tag ∧ t ≠ e.tag := by
    rw [hclaims] at ht
    obtain ⟨c, hc, rfl⟩ := List.mem_map.1 ht
    obtain ⟨hc, hne⟩ := List.mem_filter.1 hc
    exact ⟨List.mem_map_of_mem hc, by simpa using hne⟩
  unfold State.completeDeparture
  split
  · exact h
  · refine ⟨fun t ht => ?_, fun hst => ?_, fun x hx hxs r hr ho => ?_⟩
    · obtain ⟨ht, hne⟩ := hmem t (by simpa using ht)
      obtain ⟨x, hx, rfl⟩ := h.numbered t ht
      refine ⟨x, ?_, rfl⟩
      have hother : (x.number == e.number) = false := by
        rw [beq_eq_false_iff_ne]
        exact fun hn => hne (congrArg _ (List.inj_on_of_nodup_map hs.roster.numbers_nodup hx he hn))
      simpa using (List.mem_eraseP_of_neg (by simp [hother])).2 hx
    · have hnone := h.starting (by simpa using hst)
      have : (s.lgr.releaseClaim e.tag).claims = [] := by rw [hclaims, hnone]; rfl
      simpa using this
    · refine h.leaving x ?_ hxs r (by simpa using hr) ho
      have hx : x ∈ s.rst.stations.eraseP (fun x => x.number == e.number) := by simpa using hx
      exact List.mem_of_mem_eraseP hx

/-- A trunk reset leaves no station in the roster (R132). -/
theorem State.Stationed.of_empty {s : State} (hclaims : s.lgr.claims = []) (hstations : s.rst.stations = []) : s.Stationed :=
  ⟨fun t ht => absurd ht (by rw [hclaims]; exact List.not_mem_nil), fun _ => hclaims,
    fun e he => absurd he (by rw [hstations]; exact List.not_mem_nil)⟩

/-! ### The conversions -/

theorem Ledger.releaseHolding_claims (l : Ledger) (t : Tag) : (l.releaseHolding t).claims = l.claims := by
  unfold Ledger.releaseHolding
  split <;> rfl

theorem State.makeRoom_claims (s : State) (touched : List Tag) :
    (s.makeRoom touched).lgr.claims.map StationClaim.tag = s.lgr.claims.map StationClaim.tag := by
  unfold State.makeRoom
  split
  · rfl
  · split
    · rfl
    · unfold State.endHolding
      simpa [Ledger.releaseHolding_claims] using (s.removeRecords_tags _).1

/-- A conversion takes its tag's claim record, and no other (R151). -/
theorem State.convertClaim_claims {s : State} (hn : (s.lgr.claims.map StationClaim.tag).Nodup) (touched : List Tag) (t : Tag) :
    (State.convertClaim (s, touched) t).1.lgr.claims.map StationClaim.tag =
      (s.lgr.claims.map StationClaim.tag).filter (fun x => x != t) := by
  have herase {l : List StationClaim} (hl : l.map StationClaim.tag = s.lgr.claims.map StationClaim.tag) :
      (l.eraseP (fun c => c.tag == t)).map StationClaim.tag = (s.lgr.claims.map StationClaim.tag).filter (fun x => x != t) := by
    rw [eraseP_eq_filter StationClaim.tag t _ (hl ▸ hn), ← hl, List.filter_map]
    rfl
  unfold State.convertClaim
  simp only
  split
  · next hnone =>
    refine (List.filter_eq_self.2 (fun x hx => ?_)).symm
    rw [bne_iff_ne]
    rintro rfl
    have := s.lgr.account?_isSome x
    rw [hnone, List.contains_iff_mem.2 hx] at this
    exact absurd this nofun
  · exact herase rfl
  · exact herase (s.makeRoom_claims touched)

theorem State.convertFold_claims (tags : List Tag) : ∀ {s : State}, (s.lgr.claims.map StationClaim.tag).Nodup →
    ∀ touched, (tags.foldl State.convertClaim (s, touched)).1.lgr.claims.map StationClaim.tag =
      (s.lgr.claims.map StationClaim.tag).filter (fun x => !tags.contains x) := by
  induction tags with
  | nil => exact fun _ _ => by simp
  | cons t tags ih =>
    intro s hn touched
    have hone := State.convertClaim_claims hn touched t
    obtain ⟨u, hu⟩ : ∃ u, u = State.convertClaim (s, touched) t := ⟨_, rfl⟩
    rw [List.foldl_cons, ← hu]
    rw [← hu] at hone
    have := ih (s := u.1) (hone ▸ hn.filter _) u.2
    rw [this, hone, List.filter_filter]
    refine List.filter_congr (fun x _ => ?_)
    by_cases hx : x = t <;> simp [hx]

/-- The state behind a trunk reset's shares: no station is in the roster, and no claim record is left (R132). -/
theorem State.restart_claims {s : State} (h : s.Stationed) (hs : s.Records) (hpresent : ∀ e ∈ s.rst.stations, e.state = .present) :
    s.restart.lgr.claims = [] ∧ s.restart.rst.stations = [] := by
  have hall := State.convertFold_claims s.rst.presentTags (s := { s with streams := s.streams.map StreamRecord.atTrunkReset })
    hs.claims []
  have hnone : (s.lgr.claims.map StationClaim.tag).filter (fun x => !s.rst.presentTags.contains x) = [] := by
    rw [List.filter_eq_nil_iff]
    intro t ht
    obtain ⟨e, he, rfl⟩ := h.numbered t ht
    have : e.tag ∈ s.rst.presentTags :=
      List.mem_map_of_mem (List.mem_filter.2 ⟨he, by simp [Station.isPresent, hpresent e he]⟩)
    simpa using this
  rw [hnone, List.map_eq_nil_iff] at hall
  unfold State.restart State.convertClaims
  exact ⟨by simpa using hall, by simp [State.clearRoster]⟩

/-! ### The ledger's part of an acceptance -/

/-- An edit accepted charges the increase of an upward RESIZE, and else nothing (R96). -/
theorem Ledger.chargeEdit_cases {l l' : Ledger} {r : StreamRecord} {op : EditOp} (h : l.chargeEdit r op = some l') :
    (l' = l ∧ ∀ units, op ≠ .resize units .up) ∨ ∃ units, op = .resize units .up ∧
      (l.account r.owner).committed + (units - r.units) ≤ (l.account r.owner).claimed ∧
      l' = l.update r.owner (fun a => { a with committed := a.committed + (units - r.units) }) := by
  unfold Ledger.chargeEdit at h
  split at h
  · next units =>
    obtain ⟨hle, heq, -⟩ := Ledger.charge_some h
    exact .inr ⟨units, rfl, hle, heq⟩
  · next hop => exact .inl ⟨(Option.some.inj h).symm, fun units => hop units⟩

/-- An ADMIT accepted charges its units and binds its channel (R96). -/
theorem Ledger.chargeAndBind_ok {l l' : Ledger} {a : AdmitArgs} {id : Nat} (h : l.chargeAndBind a id = .ok l') :
    (l.account a.owner).committed + a.units ≤ (l.account a.owner).claimed ∧
    hasChannel (l.account a.owner).held a.channel = true ∧
    l' = l.update a.owner (fun x => { x with committed := x.committed + a.units, bound := bindIn x.bound a.channel id }) := by
  unfold Ledger.chargeAndBind at h
  split at h
  · exact absurd h nofun
  · next l1 h1 =>
    split at h
    · exact absurd h nofun
    · next l2 h2 =>
      obtain rfl := Except.ok.inj h
      obtain ⟨hle, rfl, -⟩ := Ledger.charge_some h1
      obtain ⟨hheld, rfl, -⟩ := Ledger.bind_some h2
      refine ⟨hle, ?_, Ledger.update_update ..⟩
      have hkept := l.account_update_kept a.owner a.owner (fun x => { x with committed := x.committed + a.units })
        Account.held (fun _ => rfl)
      exact hkept ▸ hheld

/-- Claim records stay those of stations in the roster, and a departing station's streams RETIRING or HELD, through every
elementary change. -/
theorem State.Act.stationed {s t : State} (hact : State.Act True commits s t) (hs : s.Records) (h : s.Stationed) :
    t.Stationed := by
  cases hact with
  | roster hk => exact h.of_eq hs hk (fun h => h) rfl rfl
  | cycle _ hstart => exact h.of_eq hs .rfl hstart rfl rfl
  | put hr hk =>
    exact h.keep hs .rfl (fun h => h) (State.no_claims (fun _ _ h => .inl h))
      (State.streamsFrom_put hr hk.owner (Or.imp hk.retiring (fun h => hk.held.trans h)) rfl)
  | remove id => exact h.removeRecord hs id
  | commit _ hedits => exact h.commitEdit hs _ (hedits ▸ List.mem_cons_self)
  | drop he => exact h.dropEdit hs (he trivial)
  | @stage kind p id units r l hf hr hl =>
    obtain ⟨-, -, -, hheld, -, howner, -, hret⟩ := editOpFor_staged kind r units
    refine h.keep hs .rfl (fun h => h) (State.no_claims (fun q => ?_)) (State.streamsFrom_put (State.stream?_some hr).1 howner
      (Or.imp (fun h => hret.trans h) (fun h => hheld.trans h)) rfl)
    rcases Ledger.chargeEdit_cases hl with ⟨rfl, -⟩ | ⟨u, -, -, rfl⟩
    · exact fun _ h => .inl h
    · exact s.lgr.update_claimsFrom r.owner q _
  | @admitStream p a l hp hf hl =>
    refine h.keep hs .rfl (fun h => h) (State.no_claims (fun q => ?_)) (fun r hr tag ho => ?_)
    · obtain ⟨-, -, rfl⟩ := Ledger.chargeAndBind_ok hl
      exact s.lgr.update_claimsFrom _ q _
    · have hin : r = newRecord (s.lowestFree.getD 0) (admitArgs p a) ∨ r ∈ s.streams := by simpa using hr
      rcases hin with rfl | hr
      · exact .inr (State.admits_present hp hf ho)
      · exact .inl ⟨r, hr, ho, id⟩
  | @units rights p e n hp =>
    exact h.keep hs .rfl (fun h => h) ⟨p, hp, s.lgr.exchangeUnits_claimsFrom _ rights p e n⟩ (State.streamsFrom_of_subset (List.Subset.refl _))
  | @channels rights p e n hp =>
    exact h.keep hs .rfl (fun h => h) ⟨p, hp, s.lgr.exchangeChannels_claimsFrom rights p e n⟩ (State.streamsFrom_of_subset (List.Subset.refl _))
  | endHolding _ => exact h.endHolding hs _
  | @reclaim tag x hp hh =>
    obtain rfl : x.tag = tag := by simpa using List.find?_some hh
    obtain ⟨-, e, he, het, hes⟩ := hp x.tag rfl
    refine h.keep hs .rfl (fun h => h) ⟨_, hp, ?_⟩ (List.forall_mem_map.2 (fun r hr tag ho => ?_))
    · exact (s.lgr.ensure_claimsFrom _).trans (Ledger.update_claimsFrom _ _ _ _)
    · by_cases hin : (x.streams.map HeldStream.id).contains r.id = true
      · rw [if_pos hin] at ho
        rw [r.leaveHeld_plain.2.1, (hs.held_owner (List.mem_of_find?_eq_some hh) hr (by simpa using hin)).1] at ho
        exact .inr ⟨e, he, het.trans (Party.station.inj ho), hes⟩
      · rw [if_neg hin] at ho ⊢
        exact .inl ⟨r, hr, ho, id⟩
  | depart hd => exact h.depart hs (hd trivial).1 (hd trivial).2
  | complete _ hc => exact h.completeDeparture hs (hc trivial).1
  | clear hst => exact .of_empty (h.starting (hst trivial)) (by simp [State.clearRoster])
  | restart hd => exact .of_empty (State.restart_claims h hs (hd trivial).2.2).1 (State.restart_claims h hs (hd trivial).2.2).2
  | reset _ => exact .of_empty rfl rfl
  | configure _ _ =>
    exact h.keep hs .rfl (fun h => h) (State.no_claims (fun _ _ h => .inl h)) (State.streamsFrom_of_subset (List.Subset.refl _))
  | _ => exact h.of_eq hs .rfl (fun h => h) rfl rfl

end Sys2Proof.Machine
end

section
/-! SUPPORT. What a party's claim record and holding bear of its streams, party by party: what leaves it, and what an
account may become (R36, R38, R39, R53, R55, R65, R152). -/

namespace Sys2Proof.Machine

/-! ### Party by party -/

/-- A party's account bears its streams that are not HELD, and its holding those that are. -/
structure State.AccountsFor (s : State) (p : Party) : Prop where
  account : (s.lgr.account p).carries (s.carriedBy p)
  holding : ∀ h ∈ s.lgr.holdings, p = .station h.tag → h.carries (s.heldFor h.tag)
  held : ∀ r ∈ s.streams, r.owner = p → r.isHeld = true → ∃ h ∈ s.lgr.holdings, p = .station h.tag

theorem State.mem_carriedBy {s : State} {p : Party} {r : StreamRecord} :
    r ∈ s.carriedBy p ↔ r ∈ s.streams ∧ r.owner = p ∧ r.isHeld = false := by
  simp [State.carriedBy]

theorem State.mem_heldFor {s : State} {t : Tag} {r : StreamRecord} :
    r ∈ s.heldFor t ↔ r ∈ s.streams ∧ r.owner = .station t ∧ r.isHeld = true := by
  simp [State.heldFor]

/-- An account with nothing in it bears no stream, and any account that bears one bears its charge and channel. -/
theorem Account.carries_empty : Account.empty.carries [] := ⟨rfl, le_rfl, .refl _, nofun⟩

theorem Account.carries.eq_nil {l : List StreamRecord} (h : Account.empty.carries l) : l = [] := by
  obtain ⟨-, -, hbound, -⟩ := h
  exact List.map_eq_nil_iff.1 hbound.nil_eq.symm

theorem State.accountsInPlace_iff {s : State} (hn : (s.lgr.claims.map StationClaim.tag).Nodup) :
    s.accountsInPlace ↔ ∀ p, s.AccountsFor p := by
  have hfind {c : StationClaim} (hc : c ∈ s.lgr.claims) : s.lgr.account (.station c.tag) = c.account := by
    unfold Ledger.account
    rw [Ledger.account?_of_mem hn hc]
    rfl
  constructor
  · rintro ⟨hhost, hclaims, hholdings, hborne⟩ p
    refine ⟨?_, fun h hh _ => hholdings h hh, fun r hr ho hheld => ?_⟩
    · cases p with
      | host => exact hhost
      | station t =>
        by_cases hc : ∃ c ∈ s.lgr.claims, c.tag = t
        · obtain ⟨c, hc, rfl⟩ := hc
          rw [hfind hc]
          exact hclaims c hc
        · have hempty : s.lgr.account (.station t) = .empty := by
            refine Ledger.account_of_none (Option.not_isSome_iff_eq_none.1 ?_)
            rwa [Ledger.account?_station_isSome]
          have hnil : s.carriedBy (.station t) = [] := by
            rw [List.eq_nil_iff_forall_not_mem]
            intro r hr
            obtain ⟨hr, ho, hheld⟩ := State.mem_carriedBy.1 hr
            have := hborne r hr
            rw [if_neg (by simp [hheld]), ho] at this
            rcases this with hhost | ⟨c, hmem, hct⟩
            · exact absurd hhost nofun
            · exact hc ⟨c, hmem, (Party.station.inj hct).symm⟩
          rw [hempty, hnil]
          exact Account.carries_empty
    · have := hborne r hr
      rw [if_pos hheld, ho] at this
      exact this
  · intro h
    refine ⟨(h .host).account, fun c hc => hfind hc ▸ (h _).account, fun x hx => (h _).holding x hx rfl, fun r hr => ?_⟩
    split
    · next hheld => exact (h r.owner).held r hr rfl hheld
    · next hheld =>
      cases ho : r.owner with
      | host => exact .inl rfl
      | station t =>
        refine .inr ?_
        by_contra hnone
        have hempty : s.lgr.account (.station t) = .empty := by
          refine Ledger.account_of_none (Option.not_isSome_iff_eq_none.1 ?_)
          rw [Ledger.account?_station_isSome]
          rintro ⟨c, hc, rfl⟩
          exact hnone ⟨c, hc, rfl⟩
        have hacc := (h (.station t)).account
        rw [hempty] at hacc
        have hmem : r ∈ s.carriedBy (.station t) := State.mem_carriedBy.2 ⟨hr, ho, by simpa using hheld⟩
        rw [hacc.eq_nil] at hmem
        exact absurd hmem List.not_mem_nil

/-! ### What leaves it -/

/-- What an account looks at in a record. -/
def StreamRecord.load (r : StreamRecord) : Nat × Nat × Nat := (r.charge, r.channel, r.id)

/-- An account bears the same loads in any order. -/
theorem Account.carries.perm {a : Account} {l l' : List StreamRecord} (h : a.carries l)
    (hp : (l'.map StreamRecord.load).Perm (l.map StreamRecord.load)) : a.carries l' := by
  obtain ⟨hsum, hle, hbound, hheld⟩ := h
  have hcharge : (l'.map StreamRecord.charge).Perm (l.map StreamRecord.charge) := by
    have := hp.map Prod.fst
    rwa [List.map_map, List.map_map] at this
  have hchannel : (l'.map (fun r => (r.channel, r.id))).Perm (l.map (fun r => (r.channel, r.id))) := by
    have := hp.map Prod.snd
    rwa [List.map_map, List.map_map] at this
  exact ⟨hsum.trans hcharge.sum_eq.symm, hle, hbound.trans hchannel.symm, hheld⟩

/-- The streams of other parties and their accounts change. -/
theorem State.AccountsFor.frame {s t : State} {p : Party} (h : s.AccountsFor p) (haccount : t.lgr.account p = s.lgr.account p)
    (hholdings : ∀ x : Holding, p = .station x.tag → (x ∈ t.lgr.holdings ↔ x ∈ s.lgr.holdings))
    (hstreams : t.streams.filter (fun r => r.owner == p) = s.streams.filter (fun r => r.owner == p)) : t.AccountsFor p := by
  have hcarried : t.carriedBy p = s.carriedBy p := by
    have := congrArg (List.filter (fun r => !r.isHeld)) hstreams
    simpa [List.filter_filter, Bool.and_comm, State.carriedBy] using this
  have hheld (x : Holding) (hx : p = .station x.tag) : t.heldFor x.tag = s.heldFor x.tag := by
    have := congrArg (List.filter (fun r => r.isHeld)) hstreams
    rw [hx] at this
    simpa [List.filter_filter, Bool.and_comm, State.heldFor] using this
  refine ⟨?_, fun x hx hp => ?_, fun r hr ho hrh => ?_⟩
  · rw [haccount, hcarried]
    exact h.account
  · rw [hheld x hp]
    exact h.holding x ((hholdings x hp).1 hx) hp
  · have hr : r ∈ s.streams.filter (fun r => r.owner == p) := by
      rw [← hstreams]
      exact List.mem_filter.2 ⟨hr, by simp [ho]⟩
    obtain ⟨x, hx, hp⟩ := h.held r (List.mem_filter.1 hr).1 ho hrh
    exact ⟨x, (hholdings x hp).2 hx, hp⟩

/-- Records change in place, and ask for what they asked for. -/
theorem State.AccountsFor.map {s t : State} {p : Party} (h : s.AccountsFor p) (f : StreamRecord → StreamRecord)
    (hstreams : t.streams = s.streams.map f) (hf : ∀ r ∈ s.streams, r.Stays (f r))
    (haccount : t.lgr.account p = s.lgr.account p) (hholdings : t.lgr.holdings = s.lgr.holdings) : t.AccountsFor p := by
  have hcarried : t.carriedBy p = (s.carriedBy p).map f := by
    unfold State.carriedBy
    rw [hstreams, List.filter_map]
    refine congrArg _ (List.filter_congr (fun r hr => ?_))
    simp [(hf r hr).owner, (hf r hr).held]
  have hheld (tag : Tag) : t.heldFor tag = (s.heldFor tag).map f := by
    unfold State.heldFor
    rw [hstreams, List.filter_map]
    refine congrArg _ (List.filter_congr (fun r hr => ?_))
    simp [(hf r hr).owner, (hf r hr).held]
  refine ⟨?_, fun x hx hp => ?_, ?_⟩
  · rw [haccount, hcarried]
    refine h.account.perm (.of_eq ?_)
    rw [List.map_map]
    refine List.map_congr_left (fun r hr => ?_)
    have hs := hf r (State.mem_carriedBy.1 hr).1
    simp [StreamRecord.load, hs.charge, hs.channel, hs.id]
  · rw [hheld]
    obtain ⟨hlist, hsum, hchannels⟩ := h.holding x (hholdings ▸ hx) hp
    refine ⟨?_, hsum, List.forall_mem_map.2 (fun r hr => ?_)⟩
    · rw [hlist, List.map_map]
      refine List.map_congr_left (fun r hr => ?_)
      obtain ⟨hr, -, hrh⟩ := State.mem_heldFor.1 hr
      have hs := hf r hr
      simp [hs.id, hs.units (hs.held.trans hrh)]
    · rw [(hf r (State.mem_heldFor.1 hr).1).channel]
      exact hchannels r hr
  · rw [hstreams, hholdings, List.forall_mem_map]
    intro r hr ho hrh
    exact h.held r hr ((hf r hr).owner ▸ ho) ((hf r hr).held ▸ hrh)

end Sys2Proof.Machine
end

section
/-! SUPPORT. What claim records and holdings bear, through the removal of records, changes of a record's units, and ADMIT
(R53 to R56, R77, R96, R101, R106). -/

namespace Sys2Proof.Machine

/-! ### Parts of the table -/

section
variable {l : List StreamRecord} {r : StreamRecord} (hn : (l.map StreamRecord.id).Nodup) (hr : r ∈ l)
include hn hr

/-- The record of an id is the one found there. -/
theorem record_of_id {x : StreamRecord} (hx : x ∈ l) : x.id = r.id ↔ x = r :=
  ⟨fun h => List.inj_on_of_nodup_map hn hx hr h, fun h => h ▸ rfl⟩

/-- A part of the table that a record is not in stands without it. -/
theorem filter_without {P : StreamRecord → Bool} (hP : P r = false) :
    (l.filter (fun x => x.id != r.id)).filter P = l.filter P := by
  rw [List.filter_filter]
  refine List.filter_congr (fun x hx => ?_)
  by_cases h : x.id = r.id
  · rw [(record_of_id hn hr hx).1 h, hP, Bool.false_and]
  · simp [h]

/-- A part of the table is the record and what stands without it. -/
theorem filter_perm_cons {P : StreamRecord → Bool} (hP : P r = true) :
    (l.filter P).Perm (r :: (l.filter (fun x => x.id != r.id)).filter P) := by
  have hone : l.filter (fun x => x.id == r.id) = [r] := by
    rw [filter_key_eq StreamRecord.id r.id l hn, find?_of_mem StreamRecord.id r l hn hr]
    rfl
  have hsplit := (List.filter_append_perm (fun x => x.id == r.id) l).symm.filter P
  rw [hone, List.filter_append, List.filter_cons_of_pos hP, List.filter_nil] at hsplit
  exact hsplit

end

/-- A record put in another's place: what is left of a part without the record. -/
theorem filter_put_without (l : List StreamRecord) {r q : StreamRecord} (hid : q.id = r.id) :
    (l.map (fun x => if x.id = r.id then q else x)).filter (fun x => x.id != r.id) = l.filter (fun x => x.id != r.id) := by
  rw [List.filter_map]
  have hcond : (fun x : StreamRecord => x.id != r.id) ∘ (fun x => if x.id = r.id then q else x) = fun x => x.id != r.id := by
    funext x
    by_cases hx : x.id = r.id
    · simp [hx, hid]
    · simp [hx]
  rw [hcond]
  conv_rhs => rw [← List.map_id (l.filter _)]
  refine List.map_congr_left (fun x hx => ?_)
  rw [if_neg (by simpa using (List.mem_filter.1 hx).2)]
  rfl

theorem put_mem {l : List StreamRecord} {r : StreamRecord} (hr : r ∈ l) {q : StreamRecord} : q ∈ l.map (fun x => if x.id = r.id then q else x) :=
  List.mem_map.2 ⟨r, hr, if_pos rfl⟩

theorem put_ids {l : List StreamRecord} (hn : (l.map StreamRecord.id).Nodup) {r q : StreamRecord} (hid : q.id = r.id) :
    ((l.map (fun x => if x.id = r.id then q else x)).map StreamRecord.id).Nodup := by
  have : (l.map (fun x => if x.id = r.id then q else x)).map StreamRecord.id = l.map StreamRecord.id := by
    rw [List.map_map]
    refine List.map_congr_left (fun x _ => ?_)
    by_cases hx : x.id = r.id
    · simp [hx, hid]
    · simp [hx]
  rwa [this]

/-! ### One party's account changes -/

variable {s t : State} {p : Party}

/-- A party's account is another, and bears the party's streams that are not HELD; its HELD ones are as before. -/
theorem State.AccountsFor.of_account (h : s.AccountsFor p) (hholdings : t.lgr.holdings = s.lgr.holdings)
    (hheld : t.streams.filter (fun r => r.owner == p && r.isHeld) = s.streams.filter (fun r => r.owner == p && r.isHeld))
    (haccount : (t.lgr.account p).carries (t.carriedBy p)) : t.AccountsFor p := by
  refine ⟨haccount, fun x hx hp => ?_, fun r hr ho hrh => ?_⟩
  · have : t.heldFor x.tag = s.heldFor x.tag := by
      unfold State.heldFor
      rw [← hp]
      exact hheld
    rw [this]
    exact h.holding x (hholdings ▸ hx) hp
  · have hmem : r ∈ s.streams.filter (fun r => r.owner == p && r.isHeld) := by
      rw [← hheld]
      exact List.mem_filter.2 ⟨hr, by simp [ho, hrh]⟩
    rw [hholdings]
    exact h.held r (List.mem_filter.1 hmem).1 ho hrh

theorem Ledger.account_update {l : Ledger} (h : (l.account? p).isSome = true) (f : Account → Account) :
    (l.update p f).account p = f (l.account p) := by
  unfold Ledger.account
  rw [l.account?_update]
  obtain ⟨a, ha⟩ := Option.isSome_iff_exists.1 h
  rw [ha]
  rfl

/-- A party that carries a stream has a claim record. -/
theorem State.AccountsFor.isSome (h : s.AccountsFor p) {r : StreamRecord} (hr : r ∈ s.carriedBy p) :
    (s.lgr.account? p).isSome = true := by
  refine Ledger.account?_isSome_of_ne (fun hempty => ?_)
  have hacc := h.account
  rw [hempty] at hacc
  rw [hacc.eq_nil] at hr
  exact absurd hr List.not_mem_nil

/-- An account without one of the streams that it bears (R54, R56). -/
theorem Account.carries.without {a : Account} {r : StreamRecord} {l : List StreamRecord} (h : a.carries (r :: l))
    (hchannel : ∀ x ∈ l, x.channel ≠ r.channel) :
    Account.carries { a with
      committed := a.committed - r.charge
      bound := a.bound.filter (fun b => b.1 != r.channel) } l := by
  obtain ⟨hsum, hle, hbound, hheld⟩ := h
  rw [List.map_cons, List.sum_cons] at hsum
  refine ⟨?_, (Nat.sub_le _ _).trans hle, ?_, fun b hb => hheld b (List.mem_filter.1 hb).1⟩
  · show a.committed - max r.units (r.pendingResize.getD 0) = _
    omega
  · have hrest : (l.map (fun r => (r.channel, r.id))).filter (fun b => b.1 != r.channel) = l.map (fun r => (r.channel, r.id)) := by
      rw [List.filter_eq_self]
      exact List.forall_mem_map.2 (fun x hx => by simpa using hchannel x hx)
    have := hbound.filter (fun b => b.1 != r.channel)
    rwa [List.map_cons, List.filter_cons_of_neg (by simp), hrest] at this

/-- An account with another charge for one of the streams that it bears (R53, R54). -/
theorem Account.carries.recharge {a : Account} {r q : StreamRecord} {l : List StreamRecord} (h : a.carries (r :: l))
    (hq : q.id = r.id ∧ q.channel = r.channel) {c : Nat} (hc : c + r.charge = a.committed + q.charge) (hle : c ≤ a.claimed) :
    Account.carries { a with committed := c } (q :: l) := by
  obtain ⟨hsum, -, hbound, hheld⟩ := h
  refine ⟨?_, hle, ?_, hheld⟩
  · rw [List.map_cons, List.sum_cons] at hsum ⊢
    unfold StreamRecord.charge at hc
    show c = _
    omega
  · rw [List.map_cons] at hbound ⊢
    rwa [hq.1, hq.2]

/-- An account with one more stream (R53, R55). -/
theorem Account.carries.with {a : Account} {r : StreamRecord} {l : List StreamRecord} (h : a.carries l)
    (hle : a.committed + r.charge ≤ a.claimed) (hchannel : hasChannel a.held r.channel = true) :
    Account.carries { a with
      committed := a.committed + r.charge
      bound := bindIn a.bound r.channel r.id } (r :: l) := by
  obtain ⟨hsum, -, hbound, hheld⟩ := h
  have hperm := insertBy_perm (fun (a b : Nat × Nat) => a.1 < b.1) (r.channel, r.id) a.bound
  refine ⟨?_, hle, hperm.trans (hbound.cons _), fun b hb => ?_⟩
  · rw [List.map_cons, List.sum_cons, ← hsum]
    exact Nat.add_comm _ _
  · rcases List.mem_cons.1 (hperm.subset hb) with rfl | hb
    · exact hchannel
    · exact hheld b hb

end Sys2Proof.Machine
end

section
/-! SUPPORT. What claim records and holdings bear, through the removal of records and the acceptance, discard and commit of
edits (R53 to R56, R77, R96, R101, R106). -/

namespace Sys2Proof.Machine

/-- Ids, channels, claim records and holdings are one each. -/
structure State.Apart (s : State) : Prop where
  ids : (s.streams.map StreamRecord.id).Nodup
  channels : s.channelsApart
  claims : (s.lgr.claims.map StationClaim.tag).Nodup
  holdings : (s.lgr.holdings.map Holding.tag).Nodup

theorem State.Records.apart {s : State} (hs : s.Records) : s.Apart :=
  ⟨hs.positioned.nodup, hs.channelsApart, hs.claims, hs.holdings⟩

theorem State.Apart.removeRecord {s : State} (hs : s.Apart) (id : Nat) : (s.removeRecord id).Apart := by
  have hsub : (s.removeRecord id).streams.Sublist s.streams := by
    rw [State.removeRecord_streams hs.ids]
    exact List.filter_sublist
  obtain ⟨hclaims, hholdings⟩ := s.removeRecords_tags [id]
  exact ⟨hs.ids.sublist (hsub.map _), hs.channels.sublist (hsub.map _), hclaims.symm ▸ hs.claims, hholdings.symm ▸ hs.holdings⟩

/-! ### Removal -/

/-- With unique keys, a change of the first element of a key is a change of the one element that has it. -/
theorem mem_updateFirst_key {α β : Type} [DecidableEq β] (key : α → β) (f : α → α) (k : β) {l : List α} (hn : (l.map key).Nodup)
    {x : α} : x ∈ updateFirst (fun a => key a == k) f l ↔ (x ∈ l ∧ key x ≠ k) ∨ ∃ y ∈ l, key y = k ∧ x = f y := by
  rw [updateFirst_key key f k l hn, List.mem_map]
  constructor
  · rintro ⟨y, hy, rfl⟩
    by_cases hk : key y = k
    · exact .inr ⟨y, hy, hk, if_pos hk⟩
    · rw [if_neg hk]
      exact .inl ⟨hy, hk⟩
  · rintro (⟨hx, hk⟩ | ⟨y, hy, hk, rfl⟩)
    · exact ⟨x, hx, if_neg hk⟩
    · exact ⟨y, hy, if_pos hk⟩

/-- What a held stream's leaving makes of the holdings: its entry goes from the holding of its tag (R39). -/
theorem Ledger.mem_dropHeld {l : Ledger} (hn : (l.holdings.map Holding.tag).Nodup) (t : Tag) (id : Nat) {x : Holding} :
    x ∈ (l.dropHeld t id).holdings ↔ (x ∈ l.holdings ∧ x.tag ≠ t) ∨
      ∃ y ∈ l.holdings, y.tag = t ∧ x = { y with streams := y.streams.filter (fun z => z.id != id) } :=
  mem_updateFirst_key Holding.tag _ t hn

/-- A holding without one of the streams that it bears (R39, R54, R56). -/
theorem Holding.carries.without {x : Holding} {l : List StreamRecord} (h : x.carries l) (id : Nat) :
    Holding.carries { x with streams := x.streams.filter (fun z => z.id != id) } (l.filter (fun r => r.id != id)) := by
  obtain ⟨hlist, hsum, hchannels⟩ := h
  refine ⟨?_, ?_, fun r hr => hchannels r (List.mem_filter.1 hr).1⟩
  · simp only
    rw [hlist, List.filter_map]
    rfl
  · exact (List.Sublist.sum_le_sum (List.filter_sublist.map _) (fun _ _ => Nat.zero_le _)).trans hsum

/-- A record that goes takes its charge and its channel, or its entry in its holding, with it (R77). -/
theorem State.accounts_removeRecord {s : State} (hs : s.Apart) (h : ∀ p, s.AccountsFor p) (id : Nat) (p : Party) :
    (s.removeRecord id).AccountsFor p := by
  by_cases hfound : ∃ r ∈ s.streams, r.id = id
  swap
  · have : s.removeRecord id = s := by
      unfold State.removeRecord
      rw [Option.not_isSome_iff_eq_none.1 (fun hsome => hfound (State.stream?_isSome.1 hsome))]
    rw [this]
    exact h p
  obtain ⟨r, hr, rfl⟩ := hfound
  rw [State.removeRecord_eq hs.ids hr, Ledger.freeStream_eq]
  have hother (P : StreamRecord → Bool) (hP : P r = false) :
      (s.streams.filter (fun x => x.id != r.id)).filter P = s.streams.filter P := filter_without hs.ids hr hP
  have hplain (hheld : r.isHeld = false) : State.AccountsFor { s with
      streams := s.streams.filter (fun x => x.id != r.id)
      stg := { s.stg with edits := s.stg.edits.filter (fun e => e.stream != r.id) }
      lgr := s.lgr.update r.owner (fun a => { a with
        committed := a.committed - max r.units (r.pendingResize.getD 0)
        bound := a.bound.filter (fun b => b.1 != r.channel) }) } p := by
    by_cases hp : p = r.owner
    · subst hp
      refine (h r.owner).of_account (by simp) (hother _ (by simp [hheld])) ?_
      have hcarried := filter_perm_cons hs.ids hr (P := fun x => x.owner == r.owner && !x.isHeld) (by simp [hheld])
      have hmem : r ∈ s.carriedBy r.owner := State.mem_carriedBy.2 ⟨hr, rfl, hheld⟩
      rw [Ledger.account_update ((h r.owner).isSome hmem)]
      refine Account.carries.without ((h r.owner).account.perm (hcarried.symm.map _)) (fun x hx hc => ?_)
      obtain ⟨hx, hne⟩ := List.mem_filter.1 (List.mem_filter.1 hx).1
      rw [List.inj_on_of_nodup_map hs.channels hx hr hc] at hne
      simp at hne
    · refine (h p).frame (Ledger.account_update_of_ne _ hp _) (fun x _ => by simp) (hother _ ?_)
      simpa using fun ho => hp ho.symm
  cases hheld : r.isHeld with
  | false => exact hplain hheld
  | true =>
    cases ho : r.owner with
    | host =>
      obtain ⟨x, -, hx⟩ := (h r.owner).held r hr rfl hheld
      rw [ho] at hx
      exact absurd hx nofun
    | station t =>
      simp only
      by_cases hp : p = .station t
      · subst hp
        obtain ⟨y, hy, hyt⟩ := (h (.station t)).held r hr ho hheld
        have hmem : ∃ x ∈ (s.lgr.dropHeld t r.id).holdings, Party.station t = .station x.tag :=
          ⟨_, (Ledger.mem_dropHeld hs.holdings t r.id).2 (.inr ⟨y, hy, (Party.station.inj hyt).symm, rfl⟩), hyt⟩
        refine ⟨?_, fun x hx hxt => ?_, fun _ _ _ _ => hmem⟩
        · unfold State.carriedBy
          rw [hother _ (by simp [hheld])]
          exact (h (.station t)).account
        · rcases (Ledger.mem_dropHeld hs.holdings t r.id).1 hx with ⟨-, hne⟩ | ⟨y, hy, rfl, rfl⟩
          · exact absurd (Party.station.inj hxt).symm hne
          · have := Holding.carries.without ((h (.station y.tag)).holding y hy rfl) r.id
            unfold State.heldFor at this
            rwa [List.filter_comm] at this
      · refine (h p).frame rfl (fun x hx => ?_) (hother _ ?_)
        · have hne : x.tag ≠ t := fun hxt => hp (hx.trans (congrArg _ hxt))
          refine (Ledger.mem_dropHeld hs.holdings t r.id).trans ⟨?_, fun hmem => .inl ⟨hmem, hne⟩⟩
          rintro (⟨hmem, -⟩ | ⟨y, -, hyt, rfl⟩)
          · exact hmem
          · exact absurd hyt hne
        · rw [ho]
          simpa using fun ho => hp ho.symm

/-! ### Another charge -/

/-- A record that is not HELD asks for other units, and its owner's account is charged with the difference (R53, R54). -/
theorem State.accounts_recharge {s t : State} (hs : s.Apart) (h : ∀ p, s.AccountsFor p) {r q : StreamRecord}
    (hr : r ∈ s.streams) (hq : q.id = r.id ∧ q.owner = r.owner ∧ q.channel = r.channel) (hheld : r.isHeld = false)
    (hqheld : q.isHeld = false) (hstreams : t.streams = (s.putStream q).streams) (hholdings : t.lgr.holdings = s.lgr.holdings)
    (hothers : ∀ p, p ≠ r.owner → t.lgr.account p = s.lgr.account p) {c : Nat}
    (hc : c + r.charge = (s.lgr.account r.owner).committed + q.charge) (hle : c ≤ (s.lgr.account r.owner).claimed)
    (haccount : t.lgr.account r.owner = { s.lgr.account r.owner with committed := c }) (p : Party) : t.AccountsFor p := by
  obtain ⟨hid, howner, hchannel⟩ := hq
  have hmap : t.streams = s.streams.map (fun x => if x.id = r.id then q else x) := by
    rw [hstreams, State.putStream_map hs.ids, hid]
  have hids : (t.streams.map StreamRecord.id).Nodup := hmap ▸ put_ids hs.ids hid
  have hqmem : q ∈ t.streams := hmap ▸ put_mem hr
  have hrest : t.streams.filter (fun x => x.id != q.id) = s.streams.filter (fun x => x.id != r.id) := by
    rw [hmap, hid]
    exact filter_put_without _ hid
  have hother (P : StreamRecord → Bool) (hP : P r = false) (hP' : P q = false) : t.streams.filter P = s.streams.filter P := by
    rw [← filter_without hids hqmem hP', hrest, filter_without hs.ids hr hP]
  by_cases hp : p = r.owner
  · subst hp
    refine (h r.owner).of_account hholdings (hother _ (by simp [hheld]) (by simp [hqheld])) ?_
    have hold := filter_perm_cons hs.ids hr (P := fun x => x.owner == r.owner && !x.isHeld) (by simp [hheld])
    have hnew := filter_perm_cons hids hqmem (P := fun x => x.owner == r.owner && !x.isHeld) (by simp [hqheld, howner])
    rw [haccount]
    rw [hrest] at hnew
    exact (((h r.owner).account.perm (hold.symm.map _)).recharge ⟨hid, hchannel⟩ hc hle).perm (hnew.map _)
  · refine (h p).frame (hothers p hp) (fun x _ => by rw [hholdings]) (hother _ ?_ ?_)
    · simpa using fun ho => hp ho.symm
    · rw [howner]
      simpa using fun ho => hp ho.symm

/-- The account has nothing to change. -/
theorem State.accounts_put {s t : State} (hs : s.Apart) (h : ∀ p, s.AccountsFor p) {r q : StreamRecord} (hr : r ∈ s.streams)
    (hq : r.Stays q) (hstreams : t.streams = (s.putStream q).streams) (hlgr : t.lgr = s.lgr) (p : Party) : t.AccountsFor p := by
  have hmap := State.putStream_map hs.ids q
  refine (h p).map _ (hstreams.trans hmap) (fun x hx => ?_) (hlgr ▸ rfl) (hlgr ▸ rfl)
  split
  · next hxq =>
    rw [List.inj_on_of_nodup_map hs.ids hx hr (hxq.trans hq.id)]
    exact hq
  · exact ⟨rfl, rfl, rfl, rfl, fun _ => rfl, rfl, fun h => h⟩

/-- Units may be uncharged with the record's change (R54, R101, R106). -/
theorem State.accounts_uncharge {s t : State} (hs : s.Apart) (h : ∀ p, s.AccountsFor p) {r q : StreamRecord}
    (hr : r ∈ s.streams) (hq : q.id = r.id ∧ q.owner = r.owner ∧ q.channel = r.channel) (hheld : r.isHeld = false)
    (hqheld : q.isHeld = false) (hstreams : t.streams = (s.putStream q).streams) {c : Prop} [Decidable c] {u : Nat}
    (hlgr : t.lgr = if c then s.lgr.uncharge r.owner u else s.lgr) (hc : q.charge + (if c then u else 0) = r.charge)
    (p : Party) : t.AccountsFor p := by
  have hmem : r ∈ s.carriedBy r.owner := State.mem_carriedBy.2 ⟨hr, rfl, hheld⟩
  have hsome := (h r.owner).isSome hmem
  have hle := (h r.owner).account.2.1
  have hcharged : r.charge ≤ (s.lgr.account r.owner).committed := by
    rw [(h r.owner).account.1]
    exact List.le_sum_of_mem (List.mem_map_of_mem hmem)
  by_cases hcond : c
  · rw [if_pos hcond] at hlgr hc
    refine State.accounts_recharge hs h hr hq hheld hqheld hstreams (by rw [hlgr]; simp [Ledger.uncharge]) (fun p hp => ?_)
      (c := (s.lgr.account r.owner).committed - u) (by omega) (by omega) ?_ p
    · rw [hlgr]
      exact Ledger.account_update_of_ne _ hp _
    · rw [hlgr]
      exact Ledger.account_update hsome _
  · rw [if_neg hcond] at hlgr hc
    refine State.accounts_recharge hs h hr hq hheld hqheld hstreams (by rw [hlgr]) (fun p hp => by rw [hlgr])
      (c := (s.lgr.account r.owner).committed) (by omega) hle (by rw [hlgr]) p

end Sys2Proof.Machine
end

section
/-! SUPPORT. What claim records and holdings bear, through the acceptance, discard and commit of edits (R53 to R56, R96, R101,
R106). -/

namespace Sys2Proof.Machine

variable {strict : Prop}

/-- The list of edits alone changes. -/
theorem State.AccountsFor.withEdits {s : State} {p : Party} (h : s.AccountsFor p) (edits : List Edit) :
    State.AccountsFor { s with stg := { s.stg with edits := edits } } p :=
  h.frame rfl (fun _ _ => Iff.rfl) rfl

theorem State.Apart.withEdits {s : State} (h : s.Apart) (edits : List Edit) :
    State.Apart { s with stg := { s.stg with edits := edits } } :=
  ⟨h.ids, h.channels, h.claims, h.holdings⟩

theorem Direction.down_iff {a b : Nat} : (if a < b then Direction.up else if b < a then .down else .same) = .down ↔ b < a := by
  split_ifs <;> simp <;> omega

theorem Direction.up_iff {a b : Nat} : (if a < b then Direction.up else if b < a then .down else .same) = .up ↔ a < b := by
  split_ifs <;> simp <;> omega

/-- A discard uncharges what a RESIZE upward has charged (R106). -/
theorem State.accounts_dropEdit {s : State} (hs : s.Records) (hres : s.Resized strict) (h : ∀ p, s.AccountsFor p) {e : Edit}
    (he : e ∈ s.stg.edits) (p : Party) : (s.dropEdit e).AccountsFor p := by
  obtain ⟨r, hr⟩ := Option.isSome_iff_exists.1 (hs.editsInPlace.2.2.1 e he)
  obtain ⟨hmem, hid⟩ := State.stream?_some hr
  obtain ⟨s1, hs1⟩ : ∃ s1, s1 = { s with stg := { s.stg with edits := s.stg.edits.filter (fun x => x.number != e.number) } } :=
    ⟨_, rfl⟩
  have hr1 : s1.stream? e.stream = some r := hs1 ▸ hr
  have hmem1 : r ∈ s1.streams := hs1 ▸ hmem
  have hapart : s1.Apart := hs1 ▸ hs.apart.withEdits _
  have hacc : ∀ p, s1.AccountsFor p := fun p => hs1 ▸ (h p).withEdits _
  unfold State.dropEdit
  rw [← hs1]
  rcases State.undoEdit_cases hr1 with heq | heq | ⟨units, direction, hop, heq⟩
  · rw [heq]
    exact hacc p
  · rw [heq]
    exact State.accounts_removeRecord hapart hacc r.id p
  · obtain ⟨hheld, hdir⟩ := hres.fits r hmem e he hid.symm
    have hpending := hres.pending r hmem e he hid.symm
    rw [hop] at hdir hpending
    have hup := (EditOp.resize.inj (hdir units rfl)).2
    refine State.accounts_uncharge hapart hacc hmem1 (q := { r with pendingResize := none }) ⟨rfl, rfl, rfl⟩ hheld hheld
      (by rw [heq]) (c := direction = .up) (u := units - r.units) (by rw [heq]) ?_ p
    have hcond : direction = .up ↔ r.units < units := hup ▸ Direction.up_iff
    unfold StreamRecord.charge
    simp only
    rw [hpending]
    simp only [EditOp.resizedTo, Option.getD_some, Option.getD_none]
    split
    · next hd => have := hcond.1 hd; omega
    · next hd => have := mt hcond.2 hd; omega

/-- A commit uncharges what a RESIZE downward frees (R101). -/
theorem State.accounts_commitEdit {s : State} (hs : s.Records) (hres : s.Resized strict) (h : ∀ p, s.AccountsFor p) (n : Cycle)
    {e : Edit} {rest : List Edit} (he : e ∈ s.stg.edits) (p : Party) :
    (State.commitEdit { s with stg := { s.stg with edits := rest } } n e).1.AccountsFor p := by
  obtain ⟨r, hr⟩ := Option.isSome_iff_exists.1 (hs.editsInPlace.2.2.1 e he)
  obtain ⟨hmem, hid⟩ := State.stream?_some hr
  obtain ⟨s1, hs1⟩ : ∃ s1, s1 = { s with stg := { s.stg with edits := rest } } := ⟨_, rfl⟩
  have hr1 : s1.stream? e.stream = some r := hs1 ▸ hr
  have hmem1 : r ∈ s1.streams := hs1 ▸ hmem
  have hapart : s1.Apart := hs1 ▸ hs.apart.withEdits _
  have hacc : ∀ p, s1.AccountsFor p := fun p => hs1 ▸ (h p).withEdits _
  rw [← hs1]
  rcases State.commitEdit_cases n hr1 with heq | heq | ⟨q, hq, heq⟩ | ⟨units, direction, hop, -, heq⟩
  · rw [heq]
    exact hacc p
  · rw [heq]
    exact State.accounts_removeRecord hapart hacc r.id p
  · rw [heq]
    exact State.accounts_put hapart hacc hmem1 hq rfl rfl p
  · obtain ⟨hheld, hdir⟩ := hres.fits r hmem e he hid.symm
    have hpending := hres.pending r hmem e he hid.symm
    rw [hop] at hdir hpending
    have hdown := (EditOp.resize.inj (hdir units rfl)).2
    refine State.accounts_uncharge hapart hacc hmem1 (q := { r with units := units, pendingResize := none }) ⟨rfl, rfl, rfl⟩ hheld
      hheld (by rw [heq]) (c := direction = .down) (u := r.units - units) (by rw [heq]) ?_ p
    have hcond : direction = .down ↔ units < r.units := hdown ▸ Direction.down_iff
    unfold StreamRecord.charge
    simp only
    rw [hpending]
    simp only [EditOp.resizedTo, Option.getD_some, Option.getD_none]
    split
    · next hd => have := hcond.1 hd; omega
    · next hd => have := mt hcond.2 hd; omega

/-- An edit accepted charges the increase of an upward RESIZE (R96). -/
theorem State.accounts_stage {s : State} (hs : s.Records) (hres : s.Resized strict) (h : ∀ p, s.AccountsFor p) {kind : Kind}
    {q : Party} {id units : Nat} {r : StreamRecord} {l : Ledger} (hf : s.editFailure kind q id units = none)
    (hr : s.stream? id = some r) (hl : s.lgr.chargeEdit r (editOpFor kind r units) = some l) (p : Party) :
    (State.acceptEdit (State.putStream { s with lgr := l } (r.staged (editOpFor kind r units))) q
      (editOpFor kind r units) id).AccountsFor p := by
  obtain ⟨hadmits, hfresh⟩ := State.editFailure_state hf hr
  obtain ⟨hmem, hid⟩ := State.stream?_some hr
  obtain ⟨hdir, hpending, hunits, hheld, hid', howner, hchannel, hret⟩ := editOpFor_staged kind r units
  obtain ⟨hin, hfree⟩ := stateAdmits_inService hadmits
  obtain ⟨op, hop⟩ : ∃ op, op = editOpFor kind r units := ⟨_, rfl⟩
  rw [← hop] at hl hdir hpending hunits hheld hid' howner hchannel hret ⊢
  have hnone : r.pendingResize = none :=
    hres.idle r hmem (.inr (StreamRecord.not_retiring_of_inService hin)) (fun e he => hid ▸ hfresh e he)
  have hpending := hpending hnone
  have hold : r.charge = r.units := by
    unfold StreamRecord.charge
    rw [hnone]
    exact Nat.max_zero _
  have hnew : (r.staged op).charge = max r.units (op.resizedTo.getD 0) := by
    unfold StreamRecord.charge
    rw [hunits, hpending]
  have hsome := (h r.owner).isSome (State.mem_carriedBy.2 ⟨hmem, rfl, hfree⟩)
  have hle := (h r.owner).account.2.1
  obtain ⟨t, ht⟩ : ∃ t, t = State.acceptEdit (State.putStream { s with lgr := l } (r.staged op)) q op id := ⟨_, rfl⟩
  have hstreams : t.streams = (s.putStream (r.staged op)).streams := ht ▸ rfl
  have hlgr : t.lgr = l := ht ▸ rfl
  rw [← ht]
  rcases Ledger.chargeEdit_cases hl with ⟨rfl, hnot⟩ | ⟨u, hup, hroom, rfl⟩
  · refine State.accounts_recharge hs.apart h hmem ⟨hid', howner, hchannel⟩ hfree (hheld.trans hfree) hstreams
      (by rw [hlgr]) (fun _ _ => by rw [hlgr]) (c := (s.lgr.account r.owner).committed) ?_ hle (by rw [hlgr]) p
    rw [hold, hnew]
    cases hto : op.resizedTo with
    | none => simp
    | some u =>
      have hd := hdir u (by rw [hto]; rfl)
      have hnlt : ¬ r.units < u := fun hlt => hnot u (by rw [hd, if_pos hlt])
      simp only [Option.getD_some]
      omega
  · have hlt : r.units < u := by
      have hd := hdir u (by rw [hup]; rfl)
      rw [hup] at hd
      exact Direction.up_iff.1 (EditOp.resize.inj hd).2.symm
    refine State.accounts_recharge hs.apart h hmem ⟨hid', howner, hchannel⟩ hfree (hheld.trans hfree) hstreams
      (by rw [hlgr]; simp) (fun q hq => by rw [hlgr, Ledger.account_update_of_ne _ hq])
      (c := (s.lgr.account r.owner).committed + (u - r.units)) ?_ hroom (by rw [hlgr, Ledger.account_update hsome]) p
    rw [hold, hnew, hup]
    simp only [EditOp.resizedTo, Option.getD_some]
    omega

end Sys2Proof.Machine
end

section
/-! SUPPORT. What claim records and holdings bear, through ADMIT, the exchanges with the free pool, the end of a holding and
the completion of a departure (R41 to R47, R51, R57, R82, R96, R145). -/

namespace Sys2Proof.Machine

/-! ### ADMIT -/

/-- A part of the list that the new element is not in stays. -/
theorem filter_insertBy_of_neg {α : Type} (before : α → α → Bool) (x : α) (P : α → Bool) (hP : P x = false) (l : List α) :
    (insertBy before x l).filter P = l.filter P := by
  induction l with
  | nil => simp [insertBy, hP]
  | cons a l ih =>
    unfold insertBy
    split
    · rw [List.filter_cons, List.filter_cons, ih]
    · rw [List.filter_cons_of_neg (by simp [hP])]

/-- An ADMIT accepted charges its owner's account with the new record, and binds its channel (R96). -/
theorem State.accounts_admitStream {s : State} (h : ∀ p, s.AccountsFor p) {a : AdmitArgs} {id : Nat} {l : Ledger}
    (hl : s.lgr.chargeAndBind a id = .ok l) (q : Party) (op : EditOp) (p : Party) :
    (State.acceptEdit (State.addRecord { s with lgr := l } (newRecord id a)) q op id).AccountsFor p := by
  obtain ⟨hroom, hchannel, rfl⟩ := Ledger.chargeAndBind_ok hl
  have hsome : (s.lgr.account? a.owner).isSome = true := by
    refine Ledger.account?_isSome_of_ne (fun hempty => ?_)
    rw [hempty] at hchannel
    simp [Account.empty, hasChannel] at hchannel
  obtain ⟨t, ht⟩ : ∃ t, t = State.acceptEdit (State.addRecord { s with lgr := s.lgr.update a.owner (fun x => { x with
    committed := x.committed + a.units, bound := bindIn x.bound a.channel id }) } (newRecord id a)) q op id := ⟨_, rfl⟩
  have hstreams : t.streams = insertBy (fun a b => a.id < b.id) (newRecord id a) s.streams := ht ▸ rfl
  have hlgr : t.lgr = s.lgr.update a.owner (fun x => { x with
    committed := x.committed + a.units, bound := bindIn x.bound a.channel id }) := ht ▸ rfl
  have hother (P : StreamRecord → Bool) (hP : P (newRecord id a) = false) : t.streams.filter P = s.streams.filter P := by
    rw [hstreams]
    exact filter_insertBy_of_neg _ _ P hP _
  rw [← ht]
  by_cases hp : p = a.owner
  · subst hp
    refine (h a.owner).of_account (by rw [hlgr]; simp) (hother _ (by simp [newRecord, StreamRecord.isHeld])) ?_
    have hnew : (t.carriedBy a.owner).Perm (newRecord id a :: s.carriedBy a.owner) := by
      have := (insertBy_perm (fun (a b : StreamRecord) => a.id < b.id) (newRecord id a) s.streams).filter
        (fun r => r.owner == a.owner && !r.isHeld)
      rw [List.filter_cons_of_pos (by simp [newRecord, StreamRecord.isHeld]), ← hstreams] at this
      exact this
    have hcharge : (newRecord id a).charge = a.units := Nat.max_zero _
    rw [hlgr, Ledger.account_update hsome]
    have := (h a.owner).account.with (r := newRecord id a) (hcharge ▸ hroom) hchannel
    rw [hcharge] at this
    exact this.perm (hnew.map _)
  · refine (h p).frame (by rw [hlgr, Ledger.account_update_of_ne _ hp]) (fun x _ => by rw [hlgr]; simp) (hother _ ?_)
    simpa using fun ho : (newRecord id a).owner = p => hp ho.symm

/-! ### The exchanges with the free pool -/

/-- Streams and holdings stay, and a party's account is one that bears what it bore. -/
theorem State.AccountsFor.withLedger {s : State} {p : Party} (h : s.AccountsFor p) {l : Ledger}
    (hholdings : l.holdings = s.lgr.holdings) (haccount : (l.account p).carries (s.carriedBy p)) :
    State.AccountsFor { s with lgr := l } p :=
  h.of_account hholdings rfl haccount

theorem Ledger.account_ensure (l : Ledger) (p q : Party) : (l.ensure p).account q = l.account q := by
  by_cases hq : q = p
  · subst hq
    unfold Ledger.account
    rw [l.account?_ensure]
    rfl
  · cases p with
    | host => rfl
    | station t =>
      cases h : l.account? (.station t) with
      | some a => rw [Ledger.ensure_of_isSome (by rw [h]; rfl)]
      | none =>
        rw [Ledger.ensure_of_none h]
        cases q with
        | host => rfl
        | station u =>
          have hne : (t == u) = false := beq_eq_false_iff_ne.2 (fun htu => hq (by rw [htu]))
          simp [Ledger.account, Ledger.account?, List.find?_append, hne]

/-- A record that holds nothing goes, and its party's account is empty (R37). -/
theorem Ledger.account_dropEmpty {l : Ledger} (hn : (l.claims.map StationClaim.tag).Nodup) (p q : Party) :
    (l.dropEmpty p).account q = l.account q ∨ (l.account q).isBare ∧ (l.dropEmpty p).account q = .empty := by
  unfold Ledger.dropEmpty
  split
  · exact .inl rfl
  · next t =>
    split
    · next a ha =>
      split
      · next hbare =>
        rw [eraseP_eq_filter StationClaim.tag t _ hn]
        by_cases hq : q = .station t
        · subst hq
          refine .inr ⟨?_, ?_⟩
          · unfold Ledger.account
            rw [ha]
            exact hbare
          · refine Ledger.account_of_none (Option.not_isSome_iff_eq_none.1 ?_)
            rw [Ledger.account?_station_isSome]
            rintro ⟨c, hc, hct⟩
            have := (List.mem_filter.1 hc).2
            rw [hct] at this
            simp at this
        · left
          cases q with
          | host => rfl
          | station u =>
            unfold Ledger.account
            rw [Ledger.account?_of_claims rfl (fun hu => hq (congrArg _ hu))]
      · exact .inl rfl
    · exact .inl rfl

/-- An account that holds nothing bears no stream (R36). -/
theorem Account.carries.of_bare {a : Account} {l : List StreamRecord} (h : a.carries l) (hbare : a.isBare) :
    Account.empty.carries l := by
  obtain ⟨hsum, hle, hbound, hheld⟩ := h
  have hnil : a.bound = [] := by
    rw [List.eq_nil_iff_forall_not_mem]
    intro b hb
    have := hheld b hb
    rw [hbare.2] at this
    simp [hasChannel] at this
  rw [hnil] at hbound
  rw [List.map_eq_nil_iff.1 hbound.nil_eq.symm]
  exact Account.carries_empty

/-- Claimed units and held channels of one party's account become others that cover what it bears. -/
theorem Ledger.carries_update {l : Ledger} {p : Party} {f : Account → Account} {c : Party → List StreamRecord}
    (h : ∀ q, (l.account q).carries (c q)) (hf : ∀ a, a.carries (c p) → a = l.account p → (f a).carries (c p)) (q : Party) :
    ((l.update p f).account q).carries (c q) := by
  by_cases hq : q = p
  · subst hq
    cases ha : l.account? q with
    | none =>
      have hnone : (l.update q f).account? q = none := by rw [l.account?_update, ha]; rfl
      rw [Ledger.account_of_none hnone, ← Ledger.account_of_none ha]
      exact h q
    | some a =>
      rw [Ledger.account_update (by rw [ha]; rfl)]
      exact hf _ (h q) rfl
  · rw [Ledger.account_update_of_ne _ hq]
    exact h q

theorem Ledger.carries_dropEmpty {l : Ledger} (hn : (l.claims.map StationClaim.tag).Nodup) {c : Party → List StreamRecord}
    (h : ∀ q, (l.account q).carries (c q)) (p q : Party) : ((l.dropEmpty p).account q).carries (c q) := by
  rcases Ledger.account_dropEmpty hn p q with heq | ⟨hbare, heq⟩
  · rw [heq]; exact h q
  · rw [heq]; exact (h q).of_bare hbare

/-- An EXCHANGE_UNITS leaves each account what it bears (R42, R43). -/
theorem Ledger.carries_exchangeUnits {l : Ledger} (hn : (l.claims.map StationClaim.tag).Nodup) {c : Party → List StreamRecord}
    (h : ∀ q, (l.account q).carries (c q)) (budget : Nat) (rights : Rights) (p : Party) (e n : Nat) (q : Party) :
    ((l.exchangeUnits budget rights p e n).1.account q).carries (c q) := by
  have hclaim : ((l.claimUnits p e n).account q).carries (c q) := by
    have := Ledger.carries_update (l := l.ensure p) (p := p) (f := fun a => { a with claimed := a.claimed + (e - n) }) (c := c)
      (fun q => by rw [Ledger.account_ensure]; exact h q)
      (fun a ⟨hsum, hle, hbound, hheld⟩ _ => ⟨hsum, hle.trans (Nat.le_add_right _ _), hbound, hheld⟩) q
    exact this
  have hrelease (hfree : ¬ (l.account p).claimed - (l.account p).committed < n - e) :
      ((l.releaseUnits p e n).account q).carries (c q) := by
    unfold Ledger.releaseUnits
    simp only
    have hup : ∀ q, ((l.update p (fun a => { a with claimed := a.claimed - (n - e) })).account q).carries (c q) :=
      Ledger.carries_update h (fun a ⟨hsum, hle, hbound, hheld⟩ ha => by
        subst ha
        refine ⟨hsum, ?_, hbound, hheld⟩
        show (l.account p).committed ≤ (l.account p).claimed - (n - e)
        omega)
    refine Ledger.carries_dropEmpty (l := { l.update p (fun a => { a with claimed := a.claimed - (n - e) }) with freeUnits := n })
      ?_ hup p q
    simpa using hn
  unfold Ledger.exchangeUnits
  generalize (!(if n = e then rights.query else rights.claim)) = refused
  simp only
  split_ifs with h1 h2 h3 h4 h5 h6 h7
  all_goals first | exact hclaim | exact hrelease h7 | exact h q

/-- Channels released are none that the account has bound (R46). -/
theorem Account.carries.moved {a : Account} {l : List StreamRecord} (h : a.carries l) {released : ChannelSet} (claimed : ChannelSet)
    (hfree : released &&& a.boundSet = 0) :
    Account.carries { a with held := (a.held ||| claimed) &&& ~~~released } l := by
  obtain ⟨hsum, hle, hbound, hheld⟩ := h
  refine ⟨hsum, hle, hbound, fun b hb => ?_⟩
  have hb' := hheld b hb
  unfold hasChannel at hb' ⊢
  have hlt : b.1 < 40 := by
    by_contra hge
    rw [BitVec.getLsbD_of_ge _ _ (by omega)] at hb'
    exact absurd hb' nofun
  have hset : a.boundSet.getLsbD b.1 = true := by
    rw [Account.boundSet_eq, getLsbD_channelSetOf]
    exact ⟨hlt, List.mem_map_of_mem hb⟩
  have hnone : released.getLsbD b.1 = false := by
    have := congrArg (fun x => x.getLsbD b.1) hfree
    rw [BitVec.getLsbD_and, hset, Bool.and_true] at this
    exact this.trans (by simp)
  simp only [BitVec.getLsbD_and, BitVec.getLsbD_or, BitVec.getLsbD_not, hb', hnone, hlt, decide_true, Bool.true_or,
    Bool.not_false, Bool.and_self]

/-- An EXCHANGE_CHANNELS leaves each account what it bears (R46). -/
theorem Ledger.carries_exchangeChannels {l : Ledger} (hn : (l.claims.map StationClaim.tag).Nodup) {c : Party → List StreamRecord}
    (h : ∀ q, (l.account q).carries (c q)) (rights : Rights) (p : Party) (e n : BitVec 256) (q : Party) :
    ((l.exchangeChannels rights p e n).1.account q).carries (c q) := by
  have hmove (x y : ChannelSet) (hfree : ¬ y &&& ~~~x &&& (l.account p).boundSet ≠ 0) :
      ((l.moveChannels p x y).account q).carries (c q) := by
    rw [not_not] at hfree
    have hfrom (l1 : Ledger) (hl1 : ∀ q, l1.account q = l.account q) (hn1 : (l1.claims.map StationClaim.tag).Nodup) :
        (({ l1.update p (fun a => { a with held := (a.held ||| (x &&& ~~~y)) &&& ~~~(y &&& ~~~x) }) with
          freeChannels := y }.dropEmpty p).account q).carries (c q) := by
      have hup := Ledger.carries_update (l := l1) (p := p) (c := c)
        (f := fun a => { a with held := (a.held ||| (x &&& ~~~y)) &&& ~~~(y &&& ~~~x) })
        (fun q => hl1 q ▸ h q) (fun a ha heq => by subst heq; rw [hl1] at ha ⊢; exact ha.moved _ hfree)
      refine Ledger.carries_dropEmpty (l := { l1.update p (fun a => { a with
        held := (a.held ||| (x &&& ~~~y)) &&& ~~~(y &&& ~~~x) }) with freeChannels := y }) ?_ hup p q
      simpa using hn1
    unfold Ledger.moveChannels
    simp only
    split
    · exact hfrom l (fun _ => rfl) hn
    · exact hfrom (l.ensure p) (fun q => l.account_ensure p q) (Ledger.ensure_nodup hn p)
  unfold Ledger.exchangeChannels
  generalize (!(if n = e then rights.query else rights.claim)) = refused
  simp only
  split_ifs with h1 h2 h3 h4 h5 h6
  all_goals first | exact hmove _ _ h6 | exact h q

end Sys2Proof.Machine
end

section
/-! SUPPORT. What claim records and holdings bear, through the end of a holding, its return to its tag, and the completion of
a departure (R51, R57, R82, R145, R159). -/

namespace Sys2Proof.Machine

/-! ### The end of a holding -/

theorem State.Apart.removeRecords (ids : List Nat) : ∀ {s : State}, s.Apart → (s.removeRecords ids).Apart := by
  induction ids with
  | nil => exact fun h => h
  | cons id ids ih => exact fun h => ih (h.removeRecord id)

theorem State.accounts_removeRecords (ids : List Nat) : ∀ {s : State}, s.Apart → (∀ p, s.AccountsFor p) →
    ∀ p, (s.removeRecords ids).AccountsFor p := by
  induction ids with
  | nil => exact fun _ h => h
  | cons id ids ih => exact fun hs h => ih (hs.removeRecord id) (State.accounts_removeRecord hs h id)

theorem Ledger.releaseHolding_holdings {l : Ledger} (hn : (l.holdings.map Holding.tag).Nodup) (t : Tag) :
    (l.releaseHolding t).holdings = l.holdings.filter (fun x => x.tag != t) := by
  rw [← eraseP_eq_filter Holding.tag t _ hn]
  unfold Ledger.releaseHolding
  split
  · next hnone =>
    refine (List.eraseP_of_forall_not (fun x hx => ?_)).symm
    simpa [Ledger.holding?] using List.find?_eq_none.1 hnone x hx
  · rfl

theorem Ledger.account_releaseHolding (l : Ledger) (t : Tag) (p : Party) : (l.releaseHolding t).account p = l.account p := by
  unfold Ledger.releaseHolding
  split
  · rfl
  · cases p <;> rfl

/-- A holding that bears nothing may go (R51). -/
theorem State.accounts_releaseHolding {s : State} (hs : s.Apart) (h : ∀ p, s.AccountsFor p) {t : Tag}
    (hnone : ∀ r ∈ s.streams, r.owner = .station t → r.isHeld = false) (p : Party) :
    State.AccountsFor { s with lgr := s.lgr.releaseHolding t } p := by
  have hmem (x : Holding) : x ∈ (s.lgr.releaseHolding t).holdings ↔ x ∈ s.lgr.holdings ∧ x.tag ≠ t := by
    rw [Ledger.releaseHolding_holdings hs.holdings, List.mem_filter, bne_iff_ne]
  by_cases hp : p = .station t
  · subst hp
    refine ⟨?_, fun x hx hxt => ?_, fun r hr ho hrh => ?_⟩
    · show ((s.lgr.releaseHolding t).account (.station t)).carries (s.carriedBy (.station t))
      rw [Ledger.account_releaseHolding]
      exact (h _).account
    · exact absurd (Party.station.inj hxt).symm ((hmem x).1 hx).2
    · exact absurd ((hnone r hr ho).symm.trans hrh) nofun
  · refine (h p).frame (Ledger.account_releaseHolding ..) (fun x hx => ?_) rfl
    refine (hmem x).trans ⟨And.left, fun hmem => ⟨hmem, ?_⟩⟩
    rintro rfl
    exact hp hx

theorem State.accounts_endHolding {s : State} (hs : s.Apart) (h : ∀ p, s.AccountsFor p) {x : Holding}
    (hx : x ∈ s.lgr.holdings) (p : Party) : (s.endHolding x).AccountsFor p := by
  refine State.accounts_releaseHolding (hs.removeRecords _) (State.accounts_removeRecords _ hs h) (fun r hr ho => ?_) p
  rw [State.removeRecords_streams hs.ids] at hr
  obtain ⟨hr, hout⟩ := List.mem_filter.1 hr
  by_contra hrh
  rw [Bool.not_eq_false] at hrh
  have hlist := ((h (.station x.tag)).holding x hx rfl).1
  have hmem : r.id ∈ x.streams.map HeldStream.id := by
    rw [hlist, List.map_map]
    exact List.mem_map_of_mem (f := HeldStream.id ∘ fun r : StreamRecord => ⟨r.id, r.units⟩)
      (State.mem_heldFor.2 ⟨hr, ho, hrh⟩)
  simp only [Bool.not_eq_true', List.contains_eq_mem, decide_eq_false_iff_not] at hout
  exact hout hmem

theorem State.Apart.endHolding {s : State} (hs : s.Apart) (x : Holding) : (s.endHolding x).Apart := by
  have h := hs.removeRecords (x.streams.map HeldStream.id)
  unfold State.endHolding
  refine ⟨h.ids, h.channels, ?_, ?_⟩
  · simpa [Ledger.releaseHolding_claims] using h.claims
  · simp only
    rw [Ledger.releaseHolding_holdings h.holdings]
    exact h.holdings.sublist (List.filter_sublist.map _)

/-! ### The completion of a departure -/

/-- A claim record that bears nothing is released whole (R57, R145). -/
theorem State.accounts_completeDeparture {s : State} (hs : s.Records) (h : ∀ p, s.AccountsFor p) {e : Station}
    (hnone : s.carriedBy (.station e.tag) = []) (p : Party) : (s.completeDeparture e).AccountsFor p := by
  have hreleased : ∀ p, State.AccountsFor { s with lgr := s.lgr.releaseClaim e.tag } p := by
    intro p
    refine (h p).withLedger (Ledger.releaseClaim_holdings ..) ?_
    rw [Ledger.account_releaseClaim hs.claims]
    split
    · next hp =>
      rw [hp, hnone]
      exact Account.carries_empty
    · exact (h p).account
  unfold State.completeDeparture
  split
  · exact h p
  · exact (hreleased p).frame (by simp) (fun x _ => by simp) (by simp)

/-- A station that departs carries nothing any more (R74, R132, R145). -/
theorem State.carriedBy_departed {s : State} (hst : s.Stationed) (h : ∀ p, s.AccountsFor p) {e : Station}
    (he : e ∈ s.rst.stations) (hes : e.state ≠ .present)
    (hclear : s.csq.partState = .starting ∨ ∀ r ∈ s.streams, r.isRetiring = false) : s.carriedBy (.station e.tag) = [] := by
  rcases hclear with hstart | hclear
  · have hempty : s.lgr.account (.station e.tag) = .empty := by
      refine Ledger.account_of_none (Option.not_isSome_iff_eq_none.1 ?_)
      rw [Ledger.account?_station_isSome, hst.starting hstart]
      simp
    have hacc := (h (.station e.tag)).account
    rw [hempty] at hacc
    exact hacc.eq_nil
  · rw [List.eq_nil_iff_forall_not_mem]
    intro r hr
    obtain ⟨hr, ho, hheld⟩ := State.mem_carriedBy.1 hr
    rcases hst.leaving e he hes r hr ho with hret | hh
    · exact absurd ((hclear r hr).symm.trans hret) nofun
    · exact absurd (hheld.symm.trans hh) nofun

end Sys2Proof.Machine
end

section
/-! SUPPORT. What claim records and holdings bear, through the return of a holding to its tag (R80, R159). -/

namespace Sys2Proof.Machine

/-- An account that takes a holding bears its own streams and the holding's (R159). -/
theorem Account.carries.takeHolding {a : Account} {x : Holding} {l m streams : List StreamRecord} (ha : a.carries l)
    (hx : x.carries m) (hfind : ∀ r ∈ m, streams.find? (fun q => q.id == r.id) = some r)
    (hidle : ∀ r ∈ m, r.pendingResize = none) : (a.takeHolding x streams).carries (l ++ m) := by
  obtain ⟨hsum, hle, hbound, hheld⟩ := ha
  obtain ⟨hlist, hunits, hchannels⟩ := hx
  have hcharges : (x.streams.map HeldStream.charge).sum = (m.map (fun r => max r.units (r.pendingResize.getD 0))).sum := by
    rw [hlist, List.map_map]
    refine congrArg List.sum (List.map_congr_left (fun r hr => ?_))
    rw [hidle r hr]
    exact (Nat.max_zero _).symm
  have hperm : (a.takeHolding x streams).bound.Perm (a.bound ++ m.map (fun r => (r.channel, r.id))) := by
    have hall := bindAll_perm streams x.streams a.bound (fun y hy => by
      rw [hlist] at hy
      obtain ⟨r, hr, rfl⟩ := List.mem_map.1 hy
      exact Option.isSome_iff_exists.2 ⟨r, hfind r hr⟩)
    have hmap : x.streams.map (fun y => (((streams.find? (fun r => r.id == y.id)).map StreamRecord.channel).getD 0, y.id)) =
        m.map (fun r => (r.channel, r.id)) := by
      rw [hlist, List.map_map]
      refine List.map_congr_left (fun r hr => ?_)
      simp [hfind r hr]
    rw [hmap] at hall
    exact hall
  refine ⟨?_, Nat.add_le_add hle hunits, ?_, fun b hb => ?_⟩
  · show a.committed + (x.streams.map HeldStream.charge).sum = _
    rw [List.map_append, List.sum_append, hsum, hcharges]
  · rw [List.map_append]
    exact hperm.trans (hbound.append_right _)
  · show hasChannel (a.held ||| x.channels) b.1 = true
    rw [hasChannel_or, Bool.or_eq_true]
    rcases List.mem_append.1 (hperm.subset hb) with hb | hb
    · exact .inl (hheld b hb)
    · obtain ⟨r, hr, rfl⟩ := List.mem_map.1 hb
      exact .inr (hchannels r hr)

/-- A part of the table that a change does not touch. -/
theorem filter_map_of_fixed {α : Type} {f : α → α} {P : α → Bool} {l : List α} (hP : ∀ a ∈ l, P (f a) = P a)
    (hf : ∀ a ∈ l, P a = true → f a = a) : (l.map f).filter P = l.filter P := by
  rw [List.filter_map]
  have : l.filter (P ∘ f) = l.filter P := List.filter_congr (fun a ha => hP a ha)
  rw [this]
  conv_rhs => rw [← List.map_id (l.filter P)]
  refine List.map_congr_left (fun a ha => ?_)
  exact hf a (List.mem_filter.1 ha).1 (List.mem_filter.1 ha).2

/-! ### What a RECLAIM does to a record, and to the ledger -/

/-- The record when this holding is taken back (R80). -/
def StreamRecord.reclaimedBy (x : Holding) (r : StreamRecord) : StreamRecord :=
  if (x.streams.map HeldStream.id).contains r.id then r.leaveHeld else r

theorem StreamRecord.reclaimedBy_kept (x : Holding) (r : StreamRecord) :
    (r.reclaimedBy x).owner = r.owner ∧ (r.reclaimedBy x).load = r.load := by
  obtain ⟨hid, howner, hchannel, hunits, hpending, -⟩ := r.leaveHeld_plain
  unfold StreamRecord.reclaimedBy
  split
  · exact ⟨howner, by simp [StreamRecord.load, StreamRecord.charge, hid, hchannel, hunits, hpending]⟩
  · exact ⟨rfl, rfl⟩

theorem Ledger.account_convertHolding (l : Ledger) (x : Holding) (streams : List StreamRecord) (q : Party) :
    (l.convertHolding x streams).account q =
      if q = .station x.tag then (l.account q).takeHolding x streams else l.account q := by
  unfold Ledger.convertHolding
  show ((l.ensure (.station x.tag)).update (.station x.tag) (fun a => a.takeHolding x streams)).account q = _
  split
  · next hq =>
    subst hq
    rw [Ledger.account_update (by rw [Ledger.account?_ensure]; rfl), Ledger.account_ensure]
  · next hq => rw [Ledger.account_update_of_ne _ hq, Ledger.account_ensure]

theorem Ledger.mem_convertHolding {l : Ledger} (hn : (l.holdings.map Holding.tag).Nodup) (x : Holding)
    (streams : List StreamRecord) (y : Holding) :
    y ∈ (l.convertHolding x streams).holdings ↔ y ∈ l.holdings ∧ y.tag ≠ x.tag := by
  unfold Ledger.convertHolding
  simp only [Ledger.update_frame, Ledger.ensure_holdings]
  rw [eraseP_eq_filter Holding.tag x.tag _ hn, List.mem_filter, bne_iff_ne]

section
variable {s : State} (hs : s.Records) {x : Holding} (hx : x ∈ s.lgr.holdings)
include hs hx

/-- A holding lists its tag's HELD streams, and no other. -/
theorem State.Records.listed_iff (hborne : x.carries (s.heldFor x.tag)) {r : StreamRecord} (hr : r ∈ s.streams) :
    (x.streams.map HeldStream.id).contains r.id = true ↔ r.owner = .station x.tag ∧ r.isHeld = true := by
  rw [List.contains_iff_mem]
  refine ⟨hs.held_owner hx hr, fun ⟨ho, hh⟩ => ?_⟩
  rw [hborne.1, List.map_map]
  exact List.mem_map_of_mem (f := HeldStream.id ∘ fun r : StreamRecord => ⟨r.id, r.units⟩)
    (State.mem_heldFor.2 ⟨hr, ho, hh⟩)

/-- The tag's own streams, and they alone, leave HELD. -/
theorem State.Records.reclaimedBy_held (hborne : x.carries (s.heldFor x.tag)) {r : StreamRecord} (hr : r ∈ s.streams) :
    (r.reclaimedBy x).isHeld = (r.isHeld && r.owner != .station x.tag) ∧
    (r.owner ≠ .station x.tag → r.reclaimedBy x = r) := by
  have hin := hs.listed_iff hx hborne hr
  unfold StreamRecord.reclaimedBy
  split
  · next hc =>
    obtain ⟨ho, hh⟩ := hin.1 hc
    exact ⟨by simpa [ho, hh] using r.leaveHeld_plain.2.2.2.2.2.1, fun hne => absurd ho hne⟩
  · next hc =>
    refine ⟨?_, fun _ => rfl⟩
    cases hh : r.isHeld with
    | false => rfl
    | true => simpa using fun ho => hc (hin.2 ⟨ho, hh⟩)

end

/-- Of all a tag's streams, those that are not HELD come first, then those that are. -/
theorem State.streams_of_tag_perm (s : State) (t : Tag) :
    (s.streams.filter (fun r => r.owner == .station t)).Perm (s.carriedBy (.station t) ++ s.heldFor t) := by
  have hsplit := List.filter_append_perm (fun r => !r.isHeld) (s.streams.filter (fun r => r.owner == .station t))
  rw [List.filter_filter, List.filter_filter] at hsplit
  refine hsplit.symm.trans (.of_eq ?_)
  unfold State.carriedBy State.heldFor
  congr 1 <;> exact List.filter_congr (fun r _ => by simp [Bool.and_comm])

/-- No edit is pending for a HELD stream, and so no units are (R65, R79). -/
theorem State.Resized.none_of_held {s : State} {strict : Prop} (h : s.Resized strict) {r : StreamRecord} (hr : r ∈ s.streams)
    (hh : r.isHeld = true) : r.pendingResize = none := by
  refine h.idle r hr (.inr ?_) (fun e he hid => ?_)
  · by_contra hret
    rw [StreamRecord.not_held_of_retiring (by simpa using hret)] at hh
    exact absurd hh nofun
  · exact absurd ((h.fits r hr e he hid).1.symm.trans hh) nofun

/-- A holding taken back by its tag: the tag's claim record bears its streams (R80, R159). -/
theorem State.accounts_reclaim {s : State} (hs : s.Records) (hres : s.Resized False) (h : ∀ p, s.AccountsFor p) {t : Tag}
    {x : Holding} (hx : s.lgr.holding? t = some x) (p : Party) : State.AccountsFor { s with
      lgr := s.lgr.convertHolding x s.streams
      streams := s.streams.map (StreamRecord.reclaimedBy x) } p := by
  obtain rfl : x.tag = t := by simpa using List.find?_some hx
  have hmem : x ∈ s.lgr.holdings := List.mem_of_find?_eq_some hx
  have hborne := (h (.station x.tag)).holding x hmem rfl
  have hheld {r : StreamRecord} (hr : r ∈ s.streams) := hs.reclaimedBy_held hmem hborne hr
  have hholdings := Ledger.mem_convertHolding hs.holdings x s.streams
  by_cases hp : p = .station x.tag
  · subst hp
    refine ⟨?_, fun y hy hyt => absurd (Party.station.inj hyt).symm ((hholdings y).1 hy).2, fun r hr ho hh => ?_⟩
    · have hall : State.carriedBy { s with
            lgr := s.lgr.convertHolding x s.streams, streams := s.streams.map (StreamRecord.reclaimedBy x) }
          (.station x.tag) = (s.streams.filter (fun r => r.owner == .station x.tag)).map (StreamRecord.reclaimedBy x) := by
        unfold State.carriedBy
        rw [List.filter_map]
        refine congrArg _ (List.filter_congr (fun r hr => ?_))
        show ((r.reclaimedBy x).owner == _ && !(r.reclaimedBy x).isHeld) = _
        rw [(r.reclaimedBy_kept x).1, (hheld hr).1]
        by_cases ho : r.owner = .station x.tag <;> simp [ho]
      have hloads : StreamRecord.load ∘ StreamRecord.reclaimedBy x = StreamRecord.load :=
        funext (fun r => (r.reclaimedBy_kept x).2)
      have haccount := (s.lgr.account_convertHolding x s.streams (.station x.tag)).trans (if_pos rfl)
      rw [hall]
      refine haccount ▸ Account.carries.perm ((h (.station x.tag)).account.takeHolding hborne
        (fun r hr => State.stream?_of_mem hs.positioned.nodup (State.mem_heldFor.1 hr).1)
        (fun r hr => hres.none_of_held (State.mem_heldFor.1 hr).1 (State.mem_heldFor.1 hr).2.2)) ?_
      rw [List.map_map, hloads]
      exact (s.streams_of_tag_perm x.tag).map _
    · obtain ⟨q, hq, rfl⟩ := List.mem_map.1 hr
      rw [(hheld hq).1] at hh
      rw [(q.reclaimedBy_kept x).1] at ho
      simp [ho] at hh
  · refine (h p).frame ((s.lgr.account_convertHolding x s.streams p).trans (if_neg hp)) (fun y hy => ?_)
      (filter_map_of_fixed (fun r _ => ?_) (fun r hr ho => (hheld hr).2 (fun hrx => hp ?_)))
    · exact (hholdings y).trans ⟨And.left, fun hmem => ⟨hmem, fun hyt => hp (hy.trans (congrArg _ hyt))⟩⟩
    · rw [(r.reclaimedBy_kept x).1]
    · exact (by simpa using ho : r.owner = p).symm.trans hrx

end Sys2Proof.Machine
end

section
/-! SUPPORT. What claim records and holdings bear, through the conversion of one claim record at a trunk reset (R79, R151 to
R153). A trunk reset makes all streams HELD first and converts the claim records one by one; the accounts are followed
through a state in which each tag's streams become HELD with the conversion of its claim record. -/

namespace Sys2Proof.Machine

/-- A holding lists HELD streams of its tag (R38). -/
theorem State.heldInPlace_of_accounts {s : State} (h : ∀ p, s.AccountsFor p) : s.heldInPlace := by
  intro x hx y hy
  rw [((h _).holding x hx rfl).1] at hy
  obtain ⟨r, hr, rfl⟩ := List.mem_map.1 hy
  obtain ⟨hr, ho, hh⟩ := State.mem_heldFor.1 hr
  exact ⟨r, hr, rfl, ho, hh⟩

/-- A record that a trunk reset has made HELD, or that was, stays what it is. -/
theorem StreamRecord.atTrunkReset_of_held {r : StreamRecord} (ho : r.owner ≠ .host) (hh : r.isHeld = true) :
    r.atTrunkReset = r := by
  rw [StreamRecord.atTrunkReset_station (by simpa [StreamRecord.ofStation] using ho),
    if_neg (StreamRecord.not_inService_of_held hh)]

/-- The state followed stands behind the one that the trunk reset has reached: its station streams, in service or HELD,
become HELD. -/
structure State.Converts (v u : State) : Prop where
  apart : v.Apart
  accounts : ∀ p, v.AccountsFor p
  ready : ∀ r ∈ v.streams, r.owner ≠ .host → (r.inService || r.isHeld) = true
  streams : u.streams = v.streams.map StreamRecord.atTrunkReset
  lgr : u.lgr = v.lgr

theorem State.Converts.ids {v u : State} (h : v.Converts u) : (u.streams.map StreamRecord.id).Nodup := by
  rw [h.streams, List.map_map]
  have : StreamRecord.id ∘ StreamRecord.atTrunkReset = StreamRecord.id := funext (fun r => r.atTrunkReset_plain.1)
  rw [this]
  exact h.apart.ids

theorem State.Converts.heldInPlace {v u : State} (h : v.Converts u) : u.heldInPlace := by
  rw [State.heldInPlace, h.lgr]
  intro x hx y hy
  obtain ⟨r, hr, hid, ho, hh⟩ := State.heldInPlace_of_accounts h.accounts x hx y hy
  refine ⟨r, ?_, hid, ho, hh⟩
  rw [h.streams]
  exact List.mem_map.2 ⟨r, hr, StreamRecord.atTrunkReset_of_held (by rw [ho]; nofun) hh⟩

/-- Room is made by the end of a holding, the same on both sides (R153). -/
theorem State.Converts.makeRoom {v u : State} (h : v.Converts u) (touched : List Tag) :
    ∃ w : State, w.Converts (u.makeRoom touched) ∧ w.lgr.claims = v.lgr.claims ∧ w.lgr.holdings ⊆ v.lgr.holdings := by
  unfold State.makeRoom
  split
  · exact ⟨v, h, rfl, List.Subset.refl _⟩
  · split
    · exact ⟨v, h, rfl, List.Subset.refl _⟩
    · next x hx =>
      have hu : x ∈ u.lgr.holdings := List.mem_of_find?_eq_some hx
      have hv : x ∈ v.lgr.holdings := h.lgr ▸ hu
      have hendu := State.endHolding_eq h.ids (h.lgr ▸ h.apart.holdings) h.heldInPlace hu
      have hendv := State.endHolding_eq h.apart.ids h.apart.holdings (State.heldInPlace_of_accounts h.accounts) hv
      refine ⟨v.endHolding x, ⟨h.apart.endHolding x, State.accounts_endHolding h.apart h.accounts hv, ?_, ?_, ?_⟩, ?_, ?_⟩
      · rw [hendv]
        exact fun r hr => h.ready r (List.mem_filter.1 hr).1
      · rw [State.offer_streams, hendu, hendv]
        simp only
        rw [h.streams, List.filter_map]
        refine congrArg _ (List.filter_congr (fun r _ => ?_))
        rw [Function.comp_apply, r.atTrunkReset_plain.1]
      · rw [State.offer_lgr, hendu, hendv]
        simp only
        rw [h.lgr]
      · rw [hendv]
      · rw [hendv]
        exact List.filter_sublist.subset

/-- The record when a tag's streams become HELD. -/
def StreamRecord.onHold (t : Tag) (r : StreamRecord) : StreamRecord :=
  if r.owner = .station t then r.atTrunkReset else r

theorem StreamRecord.onHold_kept (t : Tag) (r : StreamRecord) : (r.onHold t).id = r.id ∧ (r.onHold t).owner = r.owner ∧
    (r.onHold t).channel = r.channel := by
  unfold StreamRecord.onHold
  split
  · obtain ⟨hid, howner, hchannel, -⟩ := r.atTrunkReset_plain
    exact ⟨hid, howner, hchannel⟩
  · exact ⟨rfl, rfl, rfl⟩

/-- A tag's streams become HELD, with another ledger. -/
def State.holdTag (v : State) (t : Tag) (l : Ledger) : State :=
  { v with lgr := l, streams := v.streams.map (StreamRecord.onHold t) }

/-- What is HELD of a tag when its claim record converts: all its streams. -/
def State.heldOnReset (v : State) (t : Tag) : List StreamRecord :=
  (v.streams.filter (fun r => r.owner == .station t)).map StreamRecord.atTrunkReset

section
variable {v u : State} (h : v.Converts u) (t : Tag)
include h

theorem State.Converts.held {r : StreamRecord} (hr : r ∈ v.streams) (ho : r.owner ≠ .host) : r.atTrunkReset.isHeld = true := by
  obtain ⟨-, -, -, -, -, -, hheld, -⟩ := r.atTrunkReset_plain
  exact (hheld ho).trans (h.ready r hr ho)

/-- On both sides the tag's HELD streams are all its streams. -/
theorem State.Converts.heldOnReset_eq (l : Ledger) : (v.holdTag t l).heldFor t = v.heldOnReset t ∧
    u.streams.filter (fun r => r.isHeld && r.owner == .station t) = v.heldOnReset t := by
  have hown (r : StreamRecord) : r.atTrunkReset.owner = r.owner := r.atTrunkReset_plain.2.1
  unfold State.heldFor State.heldOnReset
  refine ⟨?_, ?_⟩
  · show List.filter _ (v.streams.map _) = _
    rw [List.filter_map]
    have hpart : v.streams.filter ((fun r => r.owner == .station t && r.isHeld) ∘ StreamRecord.onHold t) =
        v.streams.filter (fun r => r.owner == .station t) := by
      refine List.filter_congr (fun r hr => ?_)
      by_cases ho : r.owner = .station t
      · simp [StreamRecord.onHold, ho, hown, h.held hr (by rw [ho]; nofun)]
      · simp [StreamRecord.onHold, ho]
    rw [hpart]
    refine List.map_congr_left (fun r hr => if_pos ?_)
    simpa using (List.mem_filter.1 hr).2
  · rw [h.streams, List.filter_map]
    refine congrArg _ (List.filter_congr (fun r hr => ?_))
    rw [Function.comp_apply, hown]
    by_cases ho : r.owner = .station t
    · simp [ho, h.held hr (by rw [ho]; nofun)]
    · simp [ho]

/-- The list that a conversion forms: the tag's streams, each with its units (R152). -/
theorem State.Converts.heldList_eq {old : List HeldStream} (hold : ∀ y ∈ old, ∃ r ∈ v.streams, y = ⟨r.id, r.units⟩) :
    heldList u.streams t old = (v.heldOnReset t).map (fun r => ⟨r.id, r.units⟩) := by
  unfold heldList
  rw [(h.heldOnReset_eq t v.lgr).2]
  refine List.map_congr_left (fun r hr => ?_)
  obtain ⟨q, hq, rfl⟩ := List.mem_map.1 hr
  obtain ⟨hid, -, -, hunits, -⟩ := q.atTrunkReset_plain
  cases hfind : old.find? (fun x => x.id == q.atTrunkReset.id) with
  | none => rfl
  | some y =>
    obtain ⟨x, hx, rfl⟩ := hold y (List.mem_of_find?_eq_some hfind)
    have hsame : x.id = q.atTrunkReset.id := by simpa using List.find?_some hfind
    have : x = q := List.inj_on_of_nodup_map h.apart.ids hx (List.mem_filter.1 hq).1 (hsame.trans hid)
    rw [this, Option.getD_some, hid, hunits]

/-- The units of a tag's streams are within its claimed units and its holding's, their channels within the channels of
both (R36, R38). -/
theorem State.Converts.heldOnReset_within {x : Holding} (hx : x.carries (v.heldFor t)) :
    ((v.heldOnReset t).map StreamRecord.units).sum ≤ x.units + (v.lgr.account (.station t)).claimed ∧
    ∀ r ∈ v.heldOnReset t, hasChannel (x.channels ||| (v.lgr.account (.station t)).held) r.channel = true := by
  obtain ⟨hsum, hle, hbound, hheld⟩ := (h.accounts (.station t)).account
  obtain ⟨hlist, hunits, hchannels⟩ := hx
  refine ⟨?_, fun r hr => ?_⟩
  · have htotal : ((v.heldOnReset t).map StreamRecord.units).sum =
        ((v.carriedBy (.station t)).map StreamRecord.units).sum + ((v.heldFor t).map StreamRecord.units).sum := by
      have hsame : StreamRecord.units ∘ StreamRecord.atTrunkReset = StreamRecord.units :=
        funext (fun r => r.atTrunkReset_plain.2.2.2.1)
      rw [← List.sum_append, ← List.map_append, State.heldOnReset, List.map_map, hsame]
      exact ((v.streams_of_tag_perm t).map _).sum_eq
    have hcarried : ((v.carriedBy (.station t)).map StreamRecord.units).sum ≤ (v.lgr.account (.station t)).committed := by
      rw [hsum]
      exact List.sum_le_sum (fun r _ => Nat.le_max_left _ _)
    have hold : ((v.heldFor t).map StreamRecord.units).sum ≤ x.units := by
      rw [hlist, List.map_map] at hunits
      exact hunits
    omega
  · obtain ⟨q, hq, rfl⟩ := List.mem_map.1 hr
    obtain ⟨hq, ho⟩ := List.mem_filter.1 hq
    rw [q.atTrunkReset_plain.2.2.1, hasChannel_or, Bool.or_eq_true]
    cases hqh : q.isHeld with
    | true => exact .inl (hchannels q (State.mem_heldFor.2 ⟨hq, by simpa using ho, hqh⟩))
    | false =>
      refine .inr (hheld (q.channel, q.id) (hbound.symm.subset ?_))
      exact List.mem_map_of_mem (f := fun r : StreamRecord => (r.channel, r.id))
        (State.mem_carriedBy.2 ⟨hq, by simpa using ho, hqh⟩)

end

end Sys2Proof.Machine
end

section
/-! SUPPORT. What claim records and holdings bear, through the conversions of a trunk reset (R79, R151 to R153). -/

namespace Sys2Proof.Machine

/-- The account of a tag whose claim record goes is empty, the others stay (R151). -/
theorem Ledger.account_of_erased {l l' : Ledger} {t : Tag} (hclaims : l'.claims = l.claims.filter (fun c => c.tag != t))
    (hhost : l'.host = l.host) (p : Party) : l'.account p = if p = .station t then .empty else l.account p := by
  unfold Ledger.account
  split
  · next hp =>
    have hnone : ¬ (l'.account? (.station t)).isSome = true := by
      rw [Ledger.account?_station_isSome, hclaims]
      rintro ⟨c, hc, hct⟩
      have := (List.mem_filter.1 hc).2
      rw [hct] at this
      simp at this
    rw [hp, Option.not_isSome_iff_eq_none.1 hnone]
    rfl
  · next hp =>
    cases p with
    | host => rw [Ledger.account?, Ledger.account?, hhost]
    | station q => rw [Ledger.account?_of_claims hclaims (fun hq => hp (congrArg _ hq))]

section
variable {v u : State} (h : v.Converts u)
include h

theorem State.Converts.onHold_held {t : Tag} {r : StreamRecord} (hr : r ∈ v.streams) (ho : r.owner = .station t) :
    (r.onHold t).isHeld = true := by
  rw [StreamRecord.onHold, if_pos ho]
  exact h.held hr (by rw [ho]; nofun)

/-- A tag's streams become HELD, its claim record goes, and its holding bears them (R151, R152). -/
theorem State.Converts.holdTag {z : Holding} {l : Ledger} (hclaims : l.claims = v.lgr.claims.filter (fun c => c.tag != z.tag))
    (hhost : l.host = v.lgr.host) (hmem : ∀ y, y ∈ l.holdings ↔ (y ∈ v.lgr.holdings ∧ y.tag ≠ z.tag) ∨ y = z)
    (hn : (l.holdings.map Holding.tag).Nodup) (hz : z.carries (v.heldOnReset z.tag)) {w : State}
    (hstreams : w.streams = u.streams) (hlgr : w.lgr = l) : (v.holdTag z.tag l).Converts w := by
  have hids : StreamRecord.id ∘ StreamRecord.onHold z.tag = StreamRecord.id := funext (fun r => (r.onHold_kept z.tag).1)
  have hchannels : StreamRecord.channel ∘ StreamRecord.onHold z.tag = StreamRecord.channel :=
    funext (fun r => (r.onHold_kept z.tag).2.2)
  have hsame {r : StreamRecord} (ho : r.owner ≠ .station z.tag) : r.onHold z.tag = r := if_neg ho
  have hmap : (v.holdTag z.tag l).streams = v.streams.map (StreamRecord.onHold z.tag) := rfl
  have haccount := Ledger.account_of_erased hclaims hhost
  refine ⟨⟨?_, ?_, ?_, hn⟩, fun p => ?_, ?_, ?_, hlgr⟩
  · rw [hmap, List.map_map, hids]
    exact h.apart.ids
  · rw [State.channelsApart, hmap, List.map_map, hchannels]
    exact h.apart.channels
  · show (l.claims.map StationClaim.tag).Nodup
    rw [hclaims]
    exact h.apart.claims.sublist (List.filter_sublist.map _)
  · by_cases hp : p = .station z.tag
    · subst hp
      refine ⟨?_, fun y hy hyt => ?_, fun _ _ _ _ => ⟨z, (hmem z).2 (.inr rfl), rfl⟩⟩
      · have hnone : (v.holdTag z.tag l).carriedBy (.station z.tag) = [] := by
          rw [List.eq_nil_iff_forall_not_mem]
          intro r hr
          obtain ⟨hr, ho, hh⟩ := State.mem_carriedBy.1 hr
          obtain ⟨q, hq, rfl⟩ := List.mem_map.1 hr
          exact absurd (hh.symm.trans (h.onHold_held hq ((q.onHold_kept z.tag).2.1.symm.trans ho))) nofun
        rw [hnone, show (v.holdTag z.tag l).lgr = l from rfl, haccount, if_pos rfl]
        exact Account.carries_empty
      · rcases (hmem y).1 hy with ⟨-, hne⟩ | rfl
        · exact absurd (Party.station.inj hyt).symm hne
        · rw [(h.heldOnReset_eq _ l).1]
          exact hz
    · refine (h.accounts p).frame ((haccount p).trans (if_neg hp)) (fun y hy => ?_) ?_
      · have hne : y.tag ≠ z.tag := fun hyt => hp (hy.trans (congrArg _ hyt))
        refine (hmem y).trans ⟨?_, fun hy => .inl ⟨hy, hne⟩⟩
        rintro (⟨hy, -⟩ | rfl)
        · exact hy
        · exact absurd rfl hne
      · rw [hmap]
        refine filter_map_of_fixed (fun r _ => by rw [(r.onHold_kept z.tag).2.1]) (fun r _ ho => hsame (fun hrz => hp ?_))
        exact (by simpa using ho : r.owner = p).symm.trans hrz
  · rw [hmap, List.forall_mem_map]
    intro r hr ho
    by_cases hrz : r.owner = .station z.tag
    · rw [h.onHold_held hr hrz, Bool.or_true]
    · rw [hsame hrz] at ho ⊢
      exact h.ready r hr ho
  · rw [hstreams, h.streams, hmap, List.map_map]
    refine List.map_congr_left (fun r hr => ?_)
    by_cases ho : r.owner = .station z.tag
    · have hne : r.owner ≠ .host := by rw [ho]; nofun
      rw [Function.comp_apply, StreamRecord.onHold, if_pos ho,
        StreamRecord.atTrunkReset_of_held (by rw [r.atTrunkReset_plain.2.1]; exact hne) (h.held hr hne)]
    · rw [Function.comp_apply, hsame ho]

/-- A claim record merges into the holding that its tag has (R151, R152). -/
theorem State.Converts.mergeHolding {x : Holding} (hx : x ∈ v.lgr.holdings) :
    ∃ w : State, w.Converts (u.mergeHolding x.tag (v.lgr.account (.station x.tag))) := by
  have hborne := (h.accounts (.station x.tag)).holding x hx rfl
  generalize ha : v.lgr.account (.station x.tag) = a
  obtain ⟨z, hz⟩ : ∃ z : Holding, z = { x with
    units := x.units + a.claimed, channels := x.channels ||| a.held, streams := heldList u.streams x.tag x.streams } :=
    ⟨_, rfl⟩
  have hzt : z.tag = x.tag := hz ▸ rfl
  have hold : ∀ y ∈ x.streams, ∃ r ∈ v.streams, y = ⟨r.id, r.units⟩ := by
    rw [hborne.1]
    exact List.forall_mem_map.2 (fun r hr => ⟨r, (State.mem_heldFor.1 hr).1, rfl⟩)
  refine ⟨_, h.holdTag (z := z) (l := (u.mergeHolding x.tag a).lgr) ?_ ?_ (fun y => ?_) ?_ ?_ rfl rfl⟩
  · rw [hzt, ← h.lgr]
    exact eraseP_eq_filter StationClaim.tag x.tag _ (h.lgr ▸ h.apart.claims)
  · show u.lgr.host = v.lgr.host
    rw [h.lgr]
  · rw [hzt, ← h.lgr]
    refine (mem_updateFirst_key Holding.tag _ x.tag (h.lgr ▸ h.apart.holdings)).trans (or_congr_right ?_)
    rw [hz]
    constructor
    · rintro ⟨y, hy, hyt, rfl⟩
      rw [List.inj_on_of_nodup_map h.apart.holdings (h.lgr ▸ hy) hx hyt]
    · rintro rfl
      exact ⟨x, h.lgr ▸ hx, rfl, rfl⟩
  · show ((updateFirst _ _ u.lgr.holdings).map Holding.tag).Nodup
    rw [updateFirst_map Holding.tag _ _ (by intros; rfl), h.lgr]
    exact h.apart.holdings
  · obtain ⟨hunits, hchannels⟩ := h.heldOnReset_within x.tag hborne
    have hlist := h.heldList_eq x.tag hold
    rw [ha] at hunits hchannels
    rw [hz]
    refine ⟨hlist, ?_, hchannels⟩
    simp only
    rw [hlist, List.map_map]
    exact hunits

/-- A claim record becomes the holding of a tag that has none (R151, R152). -/
theorem State.Converts.newHolding {t : Tag} (hnone : ∀ y ∈ v.lgr.holdings, y.tag ≠ t) :
    ∃ w : State, w.Converts (u.newHolding t (v.lgr.account (.station t))) := by
  have hempty : v.heldFor t = [] := by
    rw [List.eq_nil_iff_forall_not_mem]
    intro r hr
    obtain ⟨hr, ho, hh⟩ := State.mem_heldFor.1 hr
    obtain ⟨y, hy, hyt⟩ := (h.accounts (.station t)).held r hr ho hh
    exact hnone y hy (Party.station.inj hyt).symm
  generalize ha : v.lgr.account (.station t) = a
  obtain ⟨z, hz⟩ : ∃ z : Holding, z = ⟨t, a.claimed, a.held, heldList u.streams t [], u.rst.epoch⟩ := ⟨_, rfl⟩
  have hzt : z.tag = t := hz ▸ rfl
  have hadded : (u.newHolding t a).lgr.holdings = v.lgr.holdings ++ [z] := by rw [hz, ← h.lgr]; rfl
  refine ⟨_, h.holdTag (z := z) (l := (u.newHolding t a).lgr) ?_ ?_ (fun y => ?_) ?_ ?_ rfl rfl⟩
  · rw [hzt, ← h.lgr]
    exact eraseP_eq_filter StationClaim.tag t _ (h.lgr ▸ h.apart.claims)
  · show u.lgr.host = v.lgr.host
    rw [h.lgr]
  · rw [hadded, hzt, List.mem_append, List.mem_singleton]
    exact or_congr_left ⟨fun hy => ⟨hy, hnone y hy⟩, And.left⟩
  · rw [hadded, List.map_append]
    exact List.Nodup.append h.apart.holdings (List.nodup_singleton _) (by simpa [hzt] using hnone)
  · obtain ⟨hunits, hchannels⟩ := h.heldOnReset_within (x := ⟨t, 0, 0, [], 0⟩) t (by rw [hempty]; exact ⟨rfl, le_rfl, nofun⟩)
    have hlist := h.heldList_eq (old := []) t nofun
    rw [ha] at hunits hchannels
    rw [hz]
    refine ⟨hlist, ?_, fun r hr => by simpa using hchannels r hr⟩
    simp only
    rw [hlist, List.map_map]
    exact hunits.trans (Nat.zero_add _).le

/-- A conversion leaves claim records and holdings what they bear (R151 to R153). -/
theorem State.Converts.convertClaim (touched : List Tag) (t : Tag) :
    ∃ w : State, w.Converts (State.convertClaim (u, touched) t).1 := by
  have hacc {a : Account} (ha : u.lgr.account? (.station t) = some a) : v.lgr.account (.station t) = a := by
    unfold Ledger.account
    rw [← h.lgr, ha]
    rfl
  unfold State.convertClaim
  simp only
  split
  · exact ⟨v, h⟩
  · next a x ha hx =>
    obtain rfl : x.tag = t := by simpa using List.find?_some hx
    obtain ⟨w, hw⟩ := h.mergeHolding (h.lgr ▸ List.mem_of_find?_eq_some hx)
    exact ⟨w, hacc ha ▸ hw⟩
  · next a ha hx =>
    obtain ⟨w, hw, hclaims, hholdings⟩ := h.makeRoom touched
    have hnone : ∀ y ∈ u.lgr.holdings, y.tag ≠ t := by simpa [Ledger.holding?] using hx
    have hsame : w.lgr.account (.station t) = a := by
      rw [Ledger.account_station, hclaims, ← Ledger.account_station]
      exact hacc ha
    obtain ⟨w', hw'⟩ := hw.newHolding (t := t) (fun y hy => hnone y (h.lgr ▸ hholdings hy))
    exact ⟨w', hsame ▸ hw'⟩

end

theorem State.Converts.convertFold (tags : List Tag) : ∀ {v u : State}, v.Converts u → ∀ touched,
    ∃ w : State, w.Converts (tags.foldl State.convertClaim (u, touched)).1 := by
  induction tags with
  | nil => exact fun h _ => ⟨_, h⟩
  | cons t tags ih =>
    intro v u h touched
    obtain ⟨w, hw⟩ := h.convertClaim touched t
    exact ih hw _

/-- When every claim record has converted, the state followed has caught up. -/
theorem State.Converts.accounts_of_done {v u : State} (h : v.Converts u) (hdone : u.lgr.claims = []) (p : Party) :
    u.AccountsFor p := by
  have hheld {r : StreamRecord} (hr : r ∈ v.streams) (ho : r.owner ≠ .host) : r.isHeld = true := by
    by_contra hnot
    obtain ⟨t, ht⟩ : ∃ t, r.owner = .station t := by
      cases hown : r.owner with
      | host => exact absurd hown ho
      | station t => exact ⟨t, rfl⟩
    have hsome := (h.accounts r.owner).isSome (State.mem_carriedBy.2 ⟨hr, rfl, by simpa using hnot⟩)
    rw [ht, Ledger.account?_station_isSome, ← h.lgr, hdone] at hsome
    obtain ⟨c, hc, -⟩ := hsome
    exact absurd hc List.not_mem_nil
  refine (h.accounts p).map _ h.streams (fun r hr => ?_) (by rw [h.lgr]) (by rw [h.lgr])
  by_cases ho : r.owner = .host
  · obtain ⟨hid, howner, hchannel, hunits, hpending, hhost, -, hret⟩ := r.atTrunkReset_plain
    exact ⟨hid, howner, hchannel, by unfold StreamRecord.charge; rw [hunits, hpending], fun _ => hunits, hhost ho, hret⟩
  · rw [StreamRecord.atTrunkReset_of_held ho (hheld hr ho)]
    exact ⟨rfl, rfl, rfl, rfl, fun _ => rfl, rfl, fun h => h⟩

/-- A trunk reset leaves claim records and holdings what they bear (R79, R132). -/
theorem State.accounts_restart {s : State} (hs : s.Records) (hst : s.Stationed) (h : ∀ p, s.AccountsFor p)
    (hclean : ∀ r ∈ s.streams, r.isRetiring = false) (hfree : ∀ x ∈ s.stg.edits, s.editStationOwned x = false)
    (hpresent : ∀ e ∈ s.rst.stations, e.state = .present) (p : Party) : s.restart.AccountsFor p := by
  have hready : ∀ r ∈ s.streams, r.owner ≠ .host → (r.inService || r.isHeld) = true := by
    intro r hr ho
    by_contra hnot
    rw [Bool.or_eq_true, not_or] at hnot
    have hstaged := StreamRecord.staged_of_other hnot.1 (hclean r hr) (by simpa using hnot.2)
    obtain ⟨e, he, hid, -⟩ := (hs.stagedInPlace r hr).1 hstaged
    exact ho (hs.host_of_edit hfree hr he hid)
  have hbase : s.Converts { s with streams := s.streams.map StreamRecord.atTrunkReset } := ⟨hs.apart, h, hready, rfl, rfl⟩
  obtain ⟨w, hw⟩ := hbase.convertFold s.rst.presentTags []
  have hdone := (State.restart_claims hst hs hpresent).1
  have hlgr : s.restart.lgr = (State.convertClaims { s with streams := s.streams.map StreamRecord.atTrunkReset }
      s.rst.presentTags).lgr := by simp [State.restart]
  have hstreams : s.restart.streams = (State.convertClaims { s with streams := s.streams.map StreamRecord.atTrunkReset }
      s.rst.presentTags).streams := by simp [State.restart]
  rw [hlgr] at hdone
  exact (hw.accounts_of_done hdone p).frame (by rw [hlgr]; rfl) (fun _ _ => by rw [hlgr]; rfl) (by rw [hstreams]; rfl)

end Sys2Proof.Machine
end

section
/-! SUPPORT. Pending resizes, claim records and what they bear, through each step (R36 to R39, R53, R55, R65, R89, R152). -/

namespace Sys2Proof.Machine

variable {commits : Prop}

/-! ### Through each elementary change -/

/-- Claim records and holdings bear what they are to bear, through every elementary change. -/
theorem State.Act.accounts {s t : State} (hact : State.Act True commits s t) (hs : s.Records) (hres : s.Resized False)
    (hst : s.Stationed) (h : ∀ p, s.AccountsFor p) (p : Party) : t.AccountsFor p := by
  cases hact with
  | put hr hk => exact State.accounts_put hs.apart h hr hk.stays rfl rfl p
  | remove id => exact State.accounts_removeRecord hs.apart h id p
  | commit _ hedits => exact State.accounts_commitEdit hs hres h _ (hedits ▸ List.mem_cons_self) p
  | drop he => exact State.accounts_dropEdit hs hres h (he trivial) p
  | stage hf hr hl => exact State.accounts_stage hs hres h hf hr hl p
  | admitStream _ _ hl => exact State.accounts_admitStream h hl _ _ p
  | units rights e n _ =>
    exact (h p).withLedger (Ledger.exchangeUnits_holdings ..)
      (Ledger.carries_exchangeUnits hs.claims (fun q => (h q).account) _ rights _ e n p)
  | channels rights e n _ =>
    exact (h p).withLedger (Ledger.exchangeChannels_keyed hs.keyed rights _ e n).2
      (Ledger.carries_exchangeChannels hs.claims (fun q => (h q).account) rights _ e n p)
  | endHolding hh => exact State.accounts_endHolding hs.apart h (hh trivial) p
  | reclaim _ hh => exact State.accounts_reclaim hs hres h hh p
  | @depart e _ _ _ =>
    refine (h p).map _ rfl (fun r _ => ?_) rfl rfl
    obtain ⟨hid, howner, hchannel, hunits, hpending, hheld, hret⟩ := r.depart_plain e.tag
    exact ⟨hid, howner, hchannel, by unfold StreamRecord.charge; rw [hunits, hpending], fun _ => hunits, hheld, hret⟩
  | complete hes hc =>
    obtain ⟨he, hclear⟩ := hc trivial
    exact State.accounts_completeDeparture hs h (State.carriedBy_departed hst h he (by rw [hes]; nofun) hclear) p
  | restart hd =>
    obtain ⟨hclean, hfree, hpresent⟩ := hd trivial
    exact State.accounts_restart hs hst h hclean hfree hpresent p
  | configure _ _ => exact (h p).frame (by cases p <;> rfl) (fun _ _ => Iff.rfl) rfl
  | reset _ =>
    refine ⟨?_, nofun, nofun⟩
    cases p with
    | host => exact Account.carries_empty
    | station t => exact Account.carries_empty
  | _ => exact (h p).frame rfl (fun _ _ => Iff.rfl) rfl

/-- The records, the pending resizes, the claim records and what they bear. -/
structure State.Booked (strict : Prop) (s : State) : Prop where
  records : s.Records
  resized : s.Resized strict
  stationed : s.Stationed
  accounts : ∀ p, s.AccountsFor p

theorem State.Booked.loose {strict : Prop} {s : State} (h : s.Booked strict) : s.Booked False :=
  ⟨h.records, ⟨h.resized.fits, h.resized.pending, fun r hr hst => h.resized.idle r hr (.inr (hst.resolve_left id))⟩,
    h.stationed, h.accounts⟩

/-- A chain of elementary changes keeps the books; with commits in it, a RETIRING record may be left with the pending units
of a stale edit. -/
theorem State.Booked.leads {strict : Prop} (hc : commits → ¬ strict) {s t : State} (h : s.Booked strict)
    (hl : s.Leads True commits t) : t.Booked strict := by
  have hchain := hl State.Act.records_closed (fun _ => h.records)
  clear hl
  induction hchain with
  | refl => exact h
  | tail _ hact ih =>
    exact ⟨State.Act.records_closed _ _ hact (fun _ => ih.records) trivial, hact.resized hc ih.records ih.resized,
      hact.stationed ih.records ih.stationed, hact.accounts ih.records ih.loose.resized ih.stationed ih.accounts⟩

/-- Without a commit the books are kept as they are. -/
theorem State.Booked.steady {strict : Prop} {s t : State} (h : s.Booked strict) (hl : s.Leads True False t) : t.Booked strict :=
  h.leads False.elim hl

/-! ### The boundary -/

/-- Behind the removals' first pass no record is RETIRING, and no pending units of a stale edit are left (R75, R83). -/
theorem State.Booked.eachRemoved {s : State} (h : s.Booked False) : (s.eachStream State.removeRetiring).Booked True := by
  have hdone := h.steady s.eachRemoved_leads
  refine ⟨hdone.records, hdone.resized.of_clean (fun r hr => ?_), hdone.stationed, hdone.accounts⟩
  rw [State.each_removeRetiring_streams h.records.positioned.nodup] at hr
  simpa using (List.mem_filter.1 hr).2

theorem State.Booked.boundary {s : State} (h : s.Booked True) (timing : Timing) (stretch : Nat) :
    (s.boundary timing stretch).Booked True := by
  have hopened := h.steady (s.csq_leads { s.csq with lastCycle := some s.csq.nextCycle } rfl id)
  unfold State.boundary
  simp only
  generalize { s with csq := { s.csq with lastCycle := some s.csq.nextCycle } } = s1 at hopened ⊢
  have hcommitted := hopened.loose.leads (fun _ => id) (State.commit_leads (commits := True) trivial s1 s.csq.nextCycle)
  have hremoved := hcommitted.eachRemoved.steady (State.removals_after (fun _ => hcommitted.records))
  exact ((hremoved.steady (State.boundaryWork_after _ _ _)).steady (State.countDown_leads _)).steady
    (State.formPlan_leads _ _ _ _)

/-- A step keeps the books. -/
theorem step_booked {s t : State} (hs : s.Booked True) (h : step s = .next t) : t.Booked True := by
  unfold step at h
  split at h
  · exact Host.Outcome.next.inj h ▸ hs
  · next c rest _ =>
    have hs' : State.Booked True { s with pending := rest } :=
      ⟨hs.records.of_eq rfl rfl hs.records.roster hs.records.link rfl rfl rfl, hs.resized.of_eq rfl rfl,
        hs.stationed.of_eq hs.records .rfl id rfl rfl, fun p => (hs.accounts p).frame rfl (fun _ _ => Iff.rfl) rfl⟩
    rcases exec_leadsOver h with hl | ⟨a, timing, stretch, ha, ht⟩
    · exact hs'.steady hl
    · exact ((hs'.steady ha).boundary timing stretch).steady ht

/-- Settles O58, by `step_records` and `step_booked`. -/
theorem recordsKept : Obligations.RecordsKept := by
  unfold Obligations.RecordsKept
  refine ⟨fun s t _ hkeyed hpos hch hheld hedits hstaged hroster hroom h => ?_,
    fun s t _ hkeyed hpos hch hheld hedits hstaged hroster hroom _ hclaims hresizes haccounts h => ?_⟩
  · have hs := (State.records_iff s).2 ⟨hkeyed, hpos, hch, hheld, hedits, hstaged, hroster, hroom⟩
    exact (State.records_iff t).1 (step_records hs h)
  · have hs := (State.records_iff s).2 ⟨hkeyed, hpos, hch, hheld, hedits, hstaged, hroster, hroom⟩
    have ht := step_booked ⟨hs, (State.resizesInPlace_iff hs).1 hresizes, (State.claimsInPlace_iff s).1 hclaims,
      (State.accountsInPlace_iff hs.claims).1 haccounts⟩ h
    exact ⟨(State.claimsInPlace_iff t).2 ht.stationed, (State.resizesInPlace_iff ht.records).2 ht.resized,
      (State.accountsInPlace_iff ht.records.claims).2 ht.accounts⟩

end Sys2Proof.Machine
end
